-- ==== Sys2Proof/Word.lean ====
section
/-! DEFINITION. The plain types every other file speaks in: bytes, 32-bit register words, the index types of the
device's numbered objects, and the shape of host memory as a command hands it in. -/

namespace Sys2Proof

/-- A 32-bit BAR0 register word (R483). -/
abbrev Word := BitVec 32
/-- One byte of a descriptor, a frame, a record or a memory. -/
abbrev Byte := BitVec 8
/-- Axis AX00 to AX23 (R5 of the scope, R23). -/
abbrev AxisId := Fin 24
/-- Doorway DW0 to DW7 (R59). -/
abbrev DoorId := Fin 8
/-- Atoll 0 to 47 (R271). -/
abbrev AtollId := Fin 48
/-- Bus channel BC0 to BC7 (R340). -/
abbrev ChanId := Fin 8
/-- Field input IN00 to IN63 (R247). -/
abbrev InId := Fin 64
/-- Field output OUT00 to OUT31 (R254). -/
abbrev OutId := Fin 32

/-- Host memory as one DMA command sees it: the bytes that read without error, by bus address. A read of an address
that is not listed ends in an error completion (R283). -/
abbrev HostMem := List (Nat × Byte)

/-- One byte of host memory; none is a read that ends in an error (R283). -/
def HostMem.byte : HostMem → Nat → Option Byte
  | [], _ => none
  | (k, v) :: rest, a => if k = a then some v else HostMem.byte rest a

/-- `n` bytes from bus address `a` upward; none as soon as one byte of them reads in error (R283). -/
def HostMem.read (m : HostMem) (a : Nat) : Nat → Option (List Byte)
  | 0 => some []
  | n + 1 =>
    match m.byte a, HostMem.read m (a + 1) n with
    | some b, some bs => some (b :: bs)
    | _, _ => none

end Sys2Proof
end

