-- ==== Sys2Proof/Syntax.lean ====
section
/-! DEFINITION. The commands of the block: `Instr` has one constructor for each row of the table of operations and
events, with the operands the rule behind the row names. -/

namespace Sys2Proof

/-- Who accesses BAR0: host software or the management port (R337, R480). -/
inductive Requester where
  | host | mgt
deriving DecidableEq, Repr

/-- What the recorder MRAM and the configuration MRAM do while the device commits all it has to, at power-down and at start-up
(R420, R427, R429, R430, R435): the number of records committed before one fails its second read-back too with the bytes its slot
then holds, whether an epitaph is verified, and the bytes the ledger copy holds where its read-back differs. -/
structure Media where
  badRec : Option (Nat × List Byte) := none
  epiOk : Bool := true
  ledger : Option (List Byte) := none
deriving DecidableEq, Repr

/-- What a register write meets outside the device: host memory where it makes the device read it (R333), and the memories of the
recorder where it starts the sleep sequence (R473). -/
structure Outside where
  mem : HostMem := []
  media : Media := {}
deriving DecidableEq, Repr

/-- Frame format of a bus frame (R305, R354). -/
inductive Fmt where
  | cc | fd | xl
deriving DecidableEq, Repr

/-- A bus frame as a channel sends or receives it (R305, R354). -/
structure CanFrame where
  /-- Identifier; the priority identifier of a CAN XL frame. -/
  ident : BitVec 29
  /-- True for a 29-bit identifier. -/
  ide : Bool
  /-- True for a remote frame. -/
  rtr : Bool
  fmt : Fmt
  brs : Bool
  esi : Bool
  sec : Bool
  /-- CAN XL acceptance field. -/
  af : Word
  sdt : Byte
  vcid : Byte
  data : List Byte
deriving DecidableEq, Repr

/-- Where an action of the launch scheduler came from (R16, R49, R52). -/
inductive Src where
  /-- A descriptor of command Atoll n. -/
  | host (n : AtollId)
  /-- A bus command frame mapped on channel c; the number is its entry in the mapper's list of undecided frames (R387). -/
  | mapped (c : ChanId) (k : Nat)
  /-- A mirror batch entry made from the partner's Atoll n (R408). -/
  | mirror (n : AtollId)
  /-- A local button of doorway d (R68). -/
  | button (d : DoorId)
  /-- The auto-close timer or another command the sequencer issues itself. -/
  | sequencer
  /-- A sync frame or follow-up of channel c (R37). -/
  | sync (c : ChanId)
  /-- The twin bus heartbeat (R403). -/
  | heartbeat
  /-- A service response (R433). -/
  | service
  /-- A frame the router forwards under rule r (R381). -/
  | route (r : Fin 128)
deriving DecidableEq, Repr

/-- The header an action carries from its source to its outcome (R276, R317). -/
structure Hdr where
  src : Src
  /-- Accept number of the descriptor or internal action, unique in a run. -/
  uid : Nat
  /-- Host sequence number. -/
  seq : Word
  /-- Flag IRQ of R278. -/
  irq : Bool
  /-- Flag MIRROR of R278. -/
  mirror : Bool
  /-- Actual launch TT of R17; 0 before the release. -/
  tt : Nat
  /-- True when the action was launched at or after its deadline (R49). -/
  late : Bool
  /-- True when a cancel reached the action at or after its release (R51). -/
  cancelLate : Bool
deriving DecidableEq, Repr

/-- Source of a referencing latch (R153). -/
inductive RefSrc where
  | index | zswitch
  | field (i : InId)
deriving DecidableEq, Repr

/-- Operands of REF_ARM (R153, R302). -/
structure RefArmOps where
  refPos : Int
  src : RefSrc
  /-- Edge: true is DEASSERT. -/
  deassert : Bool
  /-- ON_LATCH: true is STOP. -/
  stop : Bool
deriving DecidableEq, Repr

/-- Injection point (R204). -/
inductive InjPoint where
  | ref | out | meas
deriving DecidableEq, Repr

/-- Injection form with its parameters (R205). -/
inductive InjForm where
  | prbs (n hold cycles : Nat)
  | sweep (f0 f1 ts : Nat) (log : Bool)
  | step (len : Nat)
deriving DecidableEq, Repr

/-- Operands of INJECT (R309). The amplitude is the mantissa and exponent of R171. -/
structure InjectOps where
  point : InjPoint
  form : InjForm
  /-- OUT_ROW or MEAS_SLOT. -/
  row : Nat
  aMan : Int
  aExp : Int
deriving DecidableEq, Repr

/-- Window of a capture (R207). -/
inductive CapWin where
  | endTT (t : Nat)
  | count (n : Nat)
deriving DecidableEq, Repr

/-- Operands of CAPTURE_START (R309). -/
structure CapOps where
  axis : AxisId
  atoll : AtollId
  decim : Nat
  win : CapWin
  sels : List Nat
deriving DecidableEq, Repr

/-- Range of an export (R311). -/
inductive ExpRange where
  | seq (first : Word)
  | tt (start stop : Nat)
deriving DecidableEq, Repr

/-- A buffer the device writes: its bus address, or its IOVA with the bus addresses of its pages in order on a COMMAND_V1
Atoll (R268, R328). -/
structure Buf where
  addr : Nat
  /-- Page addresses, translated at acceptance; empty for a bus address. -/
  pages : List Nat
deriving DecidableEq, Repr

/-- Operands of CAIRN_EXPORT (R311). -/
structure ExportOps where
  range : ExpRange
  count : Nat
  buf : Buf
  cookie : Word
deriving DecidableEq, Repr

/-- A doorway command (R66). -/
inductive DoorCmd where
  | opening
  | close
  | holdOpen (set : Bool)
  | buttons (set : Bool)
  | faultReset
deriving DecidableEq, Repr

/-- A request of CHAN_MODE (R308). -/
inductive ChanReq where
  | sleep | wake | recover | flush
deriving DecidableEq, Repr

/-- An action on one axis (R125, R153, R189, R201). -/
inductive AxAct where
  | move (pos : Int) (rel : Bool) (set : Fin 4)
  | moveNow (pos : Int) (rel : Bool) (set : Fin 4)
  | stop
  | profileChange (set : Fin 4) (mask : BitVec 11) (vals : List Word)
  | compareSet (c : Int) (neg measured passed : Bool)
  | compareOff
  | refArm (o : RefArmOps)
  | refOff
  | refSet (pos : Int)
  | loopOpen
  | loopClose
  | coefLoad (len : Nat) (data : List Byte)
  | coefRead (sel len : Nat) (buf : Buf)
  | modeManual (force : Bool) (c0 c1 : Int)
  | modeAuto
  | manSet (force : Bool) (c0 c1 : Int)
  | inject (o : InjectOps)
  | injectStop
deriving DecidableEq, Repr

/-- An action of the launch scheduler (R16, R299). -/
inductive Act where
  | door (d : DoorId) (c : DoorCmd)
  | axis (a : AxisId) (x : AxAct)
  | envLoad (d : DoorId) (closing : Bool) (ecrc : BitVec 16) (data : List Byte)
  | envRead (d : DoorId) (closing : Bool) (buf : Buf)
  | outSet (o : OutId) (lvl : Bool)
  | outMask (mask lvl : Word)
  | busTx (c : ChanId) (f : CanFrame) (retry : Nat)
  | rxSupply (c : ChanId) (buf : Buf) (len : Nat) (cookie : Word)
  | chanMode (c : ChanId) (r : ChanReq)
  | captureStart (u : Fin 4) (o : CapOps)
  | captureStop (u : Fin 4)
  | cairnExport (o : ExportOps)
  | cairnMark (payload : List Byte)
  | schedMark
  | ttSet (v : BitVec 64)
  | tmControl (c : ChanId) (run : Bool)
  | schedCancel (n : AtollId) (seq : Word)
  | nop
  | twinYield
  | takebackInhibit (b : Bool)
deriving DecidableEq, Repr

/-- What one SSI read brings (R240): whether B was high before the frame, the word as read (before the code
conversion), the level after the last bit, and whether a frame that the other unit of a pair clocks was complete by B. -/
structure SsiResult where
  idleHigh : Bool
  word : BitVec 32
  trailLow : Bool
  inTime : Bool
deriving DecidableEq, Repr

/-- How a transmit attempt ends (R358). `ackOnly` is true when the attempt failed on acknowledgement alone. -/
inductive TxOutcome where
  | sent
  | lostArbitration
  | failed (ackOnly : Bool)
deriving DecidableEq, Repr

/-- A bus error as the error confinement rules see it (R359). -/
inductive BusErr where
  /-- Stuff error; `excused` is true for a stuff bit in the arbitration field that was sent recessive and seen dominant. -/
  | stuff (excused : Bool)
  | form | bit1 | bit0 | crc
  /-- A receiver's first bit after its error flag is dominant. -/
  | afterFlag
  /-- A bit error while an active error flag or an overload flag is sent. -/
  | flagBit
  /-- A further run of dominant bits after a flag that the standard counts: the fourteenth, or the eighth after a passive
  flag, and every eighth from there on. -/
  | dominantRun
  /-- Acknowledgement error; `dominant` is true when a dominant bit was seen during the passive error flag. -/
  | ack (dominant : Bool)
deriving DecidableEq, Repr

/-- A frame on the Isthmus as its receiver checks it (R402): the 32 header bytes, the mirror segment, and whether the
lanes were aligned and the CRC matched. -/
structure IsthmusFrame where
  header : List Byte
  segment : List Byte
  aligned : Bool
  crcOk : Bool
deriving DecidableEq, Repr

/-- Decimated current samples of one port latched at a frame boundary, in decimator units (R233, R234). -/
structure Currents where
  iu : Int
  iv : Int
  iw : Int
deriving DecidableEq, Repr

/-- Levels the outputs' readback stages and switches report at one readback (R256, R264). -/
structure ReadbackLevels where
  /-- Pin level of each field output. -/
  field : Word
  /-- Pin level of each safety output. -/
  safety : BitVec 4
  /-- Switch in current limit, per field output. -/
  inLimit : Word
  /-- Load current below the open-load threshold, per field output. -/
  lowLoad : Word
  /-- Voltages in mV through which a pin has gone since the readback before, the present one last, field outputs first; where an output
  is named here they give its level (R249). -/
  volts : List (List Nat) := []
deriving DecidableEq, Repr

/-- Where a register access goes: BAR0, BAR4 or the PCI Express configuration space (R265, R266). -/
inductive RegSpace where
  | bar0 | bar4 | config
  /-- A 64-bit access of BAR4; a write brings the upper word here (R503). -/
  | bar4Wide (hi : Word)
deriving DecidableEq, Repr

/-- Cause of a lost host (R269, R445). -/
inductive LostCause where
  | linkDown | perst | hotReset | d3hot
deriving DecidableEq, Repr

/-- What one sample of DECODER_COUNT can carry (R237, R239): a change of A or of B, to the given level, or the levels of both. -/
inductive AbEdge where
  | aEdge (lvl : Bool)
  | bEdge (lvl : Bool)
  | both (a b : Bool)
deriving DecidableEq, Repr

/-- The commands, one constructor per row of the table. An operand with a default is one a sender may leave out. -/
inductive Instr where
  | opening (h : Hdr) (d : DoorId)
  | close (h : Hdr) (d : DoorId)
  | holdOpen (h : Hdr) (d : DoorId) (set : Bool)
  | buttons (h : Hdr) (d : DoorId) (set : Bool)
  | faultReset (h : Hdr) (d : DoorId)
  | move (h : Hdr) (a : AxisId) (pos : Int) (rel : Bool) (set : Fin 4)
  | moveNow (h : Hdr) (a : AxisId) (pos : Int) (rel : Bool) (set : Fin 4)
  | stop (h : Hdr) (a : AxisId)
  | profileChange (h : Hdr) (a : AxisId) (set : Fin 4) (mask : BitVec 11) (vals : List Word)
  | compareSet (h : Hdr) (a : AxisId) (c : Int) (neg measured passed : Bool)
  | compareOff (h : Hdr) (a : AxisId)
  | refArm (h : Hdr) (a : AxisId) (o : RefArmOps)
  | refOff (h : Hdr) (a : AxisId)
  | refSet (h : Hdr) (a : AxisId) (pos : Int)
  | outSet (h : Hdr) (o : OutId) (lvl : Bool)
  | outMask (h : Hdr) (mask lvl : Word)
  | busTx (h : Hdr) (c : ChanId) (f : CanFrame) (retry : Nat)
  | rxSupply (h : Hdr) (c : ChanId) (buf : Buf) (len : Nat) (cookie : Word)
  | chanModeSleep (h : Hdr) (c : ChanId)
  | chanModeWake (h : Hdr) (c : ChanId)
  | chanModeRecover (h : Hdr) (c : ChanId)
  | chanModeFlush (h : Hdr) (c : ChanId)
  | loopOpen (h : Hdr) (a : AxisId)
  | loopClose (h : Hdr) (a : AxisId)
  | coefLoadBlock (h : Hdr) (a : AxisId) (len : Nat) (data : List Byte)
  | coefLoadEnvelope (h : Hdr) (d : DoorId) (closing : Bool) (ecrc : BitVec 16) (data : List Byte)
  | coefReadBlock (h : Hdr) (a : AxisId) (sel len : Nat) (buf : Buf)
  | coefReadEnvelope (h : Hdr) (d : DoorId) (closing : Bool) (buf : Buf)
  | modeSwitchManual (h : Hdr) (a : AxisId) (force : Bool) (c0 c1 : Int)
  | modeSwitchAuto (h : Hdr) (a : AxisId)
  | manSet (h : Hdr) (a : AxisId) (force : Bool) (c0 c1 : Int)
  | inject (h : Hdr) (a : AxisId) (o : InjectOps)
  | injectStop (h : Hdr) (a : AxisId)
  | captureStart (h : Hdr) (u : Fin 4) (o : CapOps)
  | captureStop (h : Hdr) (u : Fin 4)
  | cairnExport (h : Hdr) (o : ExportOps)
  | cairnMark (h : Hdr) (payload : List Byte)
  | schedMark (h : Hdr)
  | ttSet (h : Hdr) (v : BitVec 64)
  | tmControl (h : Hdr) (c : ChanId) (run : Bool)
  | schedCancel (h : Hdr) (n : AtollId) (seq : Word)
  | nop (h : Hdr)
  | twinYield (h : Hdr)
  | takebackInhibit (h : Hdr) (b : Bool)
  | beaconWrite (r : Requester) (n : AtollId) (v : BitVec 16)
  | atollContextWrite (r : Requester) (n : AtollId) (w : Fin 8) (v : Word)
  | descriptorFetch (n : AtollId) (mem : HostMem)
  | v1DescriptorFetch (n : AtollId) (mem : HostMem)
  /-- `k` is the place of the descriptor past DEV_IDX. -/
  | fetchLate (n : AtollId) (mem : HostMem) (k : Nat := 0)
  | actionRelease
  | completionWrite
  | writeBack (n : AtollId)
  | moderationTimeout (n : AtollId)
  | hostLost (c : LostCause)
  | busMasterEnable (on : Bool)
  | barAccessErr (isRead : Bool) (r : Requester)
  | registerWrite (r : Requester) (space : RegSpace) (off : BitVec 16) (v : Word) (env : Outside := {})
  | loRegisterRead (r : Requester) (off : BitVec 16) (space : RegSpace := .bar0)
  | snapshotWindowRead (r : Requester) (off : BitVec 16)
  | cairnWin0Read (r : Requester)
  | cairnWin7Read (r : Requester)
  | sealRequest (r : Requester)
  | sealInstant
  | unsealRequest (r : Requester)
  | unsealEffect
  | autoSeal
  | swReset (r : Requester) (v : Word)
  | imgSave (r : Requester)
  /-- `ok` is the outcome of the read-back. -/
  | imgSaveDone (ok : Bool)
  | ttSetGo (r : Requester)
  | loopFaultClr (r : Requester) (sides : BitVec 2)
  /-- `pinHigh` is the level of the port's fault pin at the write. -/
  | fltLatched (r : Requester) (a : AxisId) (pinHigh : Bool)
  | ocLatched (r : Requester) (a : AxisId)
  | fbLatched (r : Requester) (a : AxisId)
  | limitLatched (r : Requester) (a : AxisId)
  | lateLatched (r : Requester) (a : AxisId)
  | feLatched (r : Requester) (a : AxisId)
  | outFltLatched (r : Requester) (mask : Word)
  | followResume (r : Requester) (a : AxisId)
  | tuInval (r : Requester)
  | v1ChainCancel (r : Requester) (n : AtollId) (mem : HostMem)
  /-- `ok` is the outcome of the test write of the failing slot. -/
  | cairnRearm (r : Requester) (ok : Bool)
  | epiClr (r : Requester)
  /-- `holdLow` is the level SUMMIT_HOLD_N reads at the write (R397). -/
  | demoteClr (r : Requester) (holdLow : Bool)
  | safeHoldClr (r : Requester)
  | sleepReq (r : Requester) (media : Media := {})
  /-- N of the frame, the words clocked out before MGT_CS_N rises, and the four dummy bytes sent. -/
  | mgtRead (off : BitVec 16) (n : Nat) (took : Nat := n) (dummy : Word := 0)
  /-- The bytes of the frame as the controller sent them, command byte included. -/
  | mgtWrite (bytes : List Byte) (env : Outside := {})
  | mgtStatus
  | powerOn
  | brownOut
  | pinReset
  | refLost
  /-- The straps as read low (R389), and whether a PCIe reference clock is present. -/
  | resetRelease (twinEn unitA pref : Bool) (pcieRef : Bool) (media : Media := {})
  | powerFailWarning (media : Media := {})
  | warningClear
  | wakeTimerExpiry
  | perstWake
  /-- For each axis in ascending order, the levels of AXnn_SD_U, AXnn_SD_V, AXnn_SD_W and a received AXnn_SDCK in bits 0 to 3 in the
  axis cycles since the port was last told of them, oldest first, up to the frame boundary (R232); `took` cycles pass from the
  boundary to the end of pass 1 (R396). -/
  | controlFrame (pins : List (List (BitVec 4))) (took : Nat := 0)
  | obstacleConfirmed (d : DoorId)
  | predictionWithdrawn (d : DoorId)
  | startAllowanceEnd (a : AxisId)
  /-- `finished` is true when pass-1 work ended before the next frame boundary (R197). -/
  | computeLate (a : AxisId) (finished : Bool)
  | overrunReaction (a : AxisId)
  | predLate (a : AxisId)
  | solSettleElapsed (d : DoorId)
  | unlockTimeout (d : DoorId)
  | lockTimeout (d : DoorId)
  | stepTimeout (d : DoorId)
  | openTimeout (d : DoorId)
  | closeTimeout (d : DoorId)
  | closedSwMissing (d : DoorId)
  | warnElapsed (d : DoorId)
  | autoCloseElapsed (d : DoorId)
  | obstHoldElapsed (d : DoorId)
  | pairDiscrepancy (p : Fin 4)
  | standstill (a : AxisId)
  | manualStale (a : AxisId)
  | followErr (a : AxisId)
  | injectionEnd (a : AxisId)
  | captureRecordWrite (u : Fin 4)
  | captureComplete (u : Fin 4)
  | carrierValley (a : AxisId)
  /-- AXnn_FLT_N has been low for `low` axis cycles; 0 is the pin going high. -/
  | bridgeFault (a : AxisId) (low : Nat := 32)
  /-- `pins` as for CONTROL_FRAME, of one port: the axis cycles that pass up to the trip. -/
  | overcurrent (a : AxisId) (pins : List (BitVec 4))
  | sdLoss (a : AxisId) (ch : Fin 3) (pins : List (BitVec 4) := [])
  | quadIllegal (a : AxisId)
  /-- `aHigh` and `bHigh` are the filtered A and B of the sample of the index edge (R238). -/
  | index (a : AxisId) (aHigh bHigh : Bool)
  | coarseStep (a : AxisId) (bHigh : Bool) (fall : Bool := false)
  | ssiFrame (a : AxisId) (x : SsiResult)
  /-- The pair: 0 A, 1 B, 2 Z; `present` false is the end of the break. -/
  | wireBreak (a : AxisId) (pair : Fin 3) (present : Bool)
  | hallEdge (a : AxisId) (state : BitVec 3) (fall : Bool := false)
  | feedbackLoss (a : AxisId)
  | limitStop (a : AxisId) (negative : Bool)
  /-- The edge of the filtered Z or of the field input: rising, or falling. -/
  | referenceLatch (a : AxisId) (rising : Bool)
  | refDone (a : AxisId)
  /-- The comparator outputs of the group's inputs; where `volts` names an input, the voltages in mV through which its pin has gone since
  the sample before, the present one last, give its comparator's level instead (R249). -/
  | inputSample (g : Fin 8) (raw : BitVec 8) (volts : List (List Nat) := [])
  /-- As `inputSample`, on the two comparators of each safety input (R261). -/
  | safeInputSample (rawA rawB : BitVec 8) (volts : List (List Nat) := [])
  | sinDiag (j : Fin 8)
  | outputReadback (l : ReadbackLevels)
  | outputDisagreement (o : OutId)
  | loopReadback (j : Fin 4)
  | twinXcheck (o : Fin 36)
  | openLoad (o : OutId)
  /-- Outputs 0 to 31 are field outputs, 32 to 35 the safety outputs. -/
  | overload (o : Fin 36) (thermal : Bool)
  /-- VFSg in 0.1 V. -/
  | supplyMeasurement (g : Fin 8) (dv : Nat)
  | supLoss (g : Fin 8)
  /-- `loss` true ends loss, false ends sag. -/
  | supOk (g : Fin 8) (loss : Bool)
  | syncFrameSend (c : ChanId)
  | followUpSend (c : ChanId)
  | syncPair (c : ChanId)
  | timeStep
  | holdover
  | sourceChange
  | syncHoldover
  | periodicAnchor
  | frameReceived (c : ChanId) (f : CanFrame) (sof : Nat)
  | rxRecordDelivery (c : ChanId)
  | protocolExc (c : ChanId) (xl : Bool) (sof : Nat := 0)
  | txAttempt (c : ChanId) (sof : Nat)
  | txAttemptEnd (c : ChanId) (o : TxOutcome)
  /-- `transmitting` is true when the channel was sending, `xl` for a CAN XL frame; `sof` is its start of frame. -/
  | busError (c : ChanId) (e : BusErr) (transmitting : Bool) (xl : Bool := false) (sof : Nat := 0)
  | autoRecoveryStart (c : ChanId)
  | busOk (c : ChanId)
  /-- The accept number of the frame whose deadline passes. -/
  | busTxLate (c : ChanId) (uid : Nat)
  | channelAsleep (c : ChanId)
  | wakeDominant (c : ChanId)
  | wakeFrame (c : ChanId) (f : CanFrame) (wellFormed : Bool)
  | busWake (c : ChanId)
  | rateCandidateNext (c : ChanId) (onError : Bool)
  | rateFound (c : ChanId)
  | rateFail (c : ChanId) (onError : Bool := false)
  | partnerLate (i : Fin 256)
  | partnerGone (i : Fin 256)
  | svcRecords (tag : Byte) (count : Byte) (first : Word)
  | svcLedger (tag : Byte) (arg : Word)
  | svcStatus (tag : Byte)
  | twinHeartbeatSend
  | isthmusFrameReceived (f : IsthmusFrame)
  /-- `lanes` is true where the lanes have lost alignment for 1 µs, false where no valid frame has arrived for 100 µs. -/
  | isthmusDown (lanes : Bool := false)
  | peerLost
  | mirrorLate
  | staleCleared
  | summitSeeChange (high : Bool)
  | claim
  | claimConfirmed
  | backoffElapsed
  | summitLine
  | frameWdog
  | takebackRequest
  | handoverRequest (tag : Byte)
  | handoverOffer (tag : Byte)
  | handoverGrant (tag : Byte)
  | handoverDecline
  | handoverInstant
  | handoverAbandon
  /-- The row of the R416 table, 0 to 4 (0 engine vector, 1 engine memory, 2 SRAM, 3 configuration MRAM), and its result:
  0 passed, 1 failed or uncorrectable, 2 a corrected single-bit error. The address is that of the engine memory word. -/
  | selftestScrub (test : Fin 4) (result : Fin 3) (addr : Word)
  /-- The island (core, axis, host, bus, field, recorder, twin) and its deviation from nominal in parts per ten thousand. -/
  | clockMonitor (island : Fin 7) (dev : Int)
  /-- The row of the R13 table and the direction, false A to B; `late` false is a handshake within its bound. -/
  | straitLate (row : Fin 13) (bToA : Bool) (late : Bool)
  /-- The bytes the recorder MRAM reads back after the first and the second write where they differ from what was
  written; none where the read-back agrees (R420, R435). -/
  | recordCommit (rb1 rb2 : Option (List Byte)) (epiOk : Bool)
  | cairnNoResponse (epiOk : Bool)
  | logLate (ledger : Bool)
  /-- `ok` is the outcome of the read-back. -/
  | ledgerCommit (bad : Option (List Byte))
  | busIntegration (c : ChanId)
  | keeperUnpowered
  | decoderCount (a : AxisId) (e : AbEdge)
  | pcieReferenceClockChange (present : Bool)
deriving DecidableEq, Repr

end Sys2Proof
end

