-- ==== Sys2Proof/Decode.lean ====
section
/-! DEFINITION. The words of the command table: no row of the table gives bits, so no word spells a command. -/

namespace Sys2Proof

/-- The command a word spells by the table's bits. The table gives bits to none of its rows. (DESIGN CHOICE: log entry 2) -/
def decodeTableWord (nbits w : Nat) : Option Instr :=
  match nbits, w with
  | _, _ => none

end Sys2Proof
end

