-- ==== Sys2Proof/Config.lean ====
section
/-! DEFINITION. What an implementation fixes and the values the spec leaves open. Every constant here is opaque: no
proof can see its value, so a statement that mentions one holds whatever the value is. -/

namespace Sys2Proof.Config

/-- VARIANT of the identity register is 0x43 when true, 0x58 when false (R2, R483). (DESIGN CHOICE: log entry 131) -/
opaque variantMC : Bool
/-- STEPPING of the identity register, per part (R483). (DESIGN CHOICE: log entry 131) -/
opaque stepping : Fin 26
/-- ISSUE of the identity register, per part (R483). (DESIGN CHOICE: log entry 131) -/
opaque issue : Fin 255

/-- Whether a real value whose distance from a tie is below the bound to which the model computes it is rounded up; the
argument is the value in 2^−64. (DEDUCED: log entry 39) -/
opaque tieUp : Int → Bool
/-- Which of the values a rule allows is taken where it bounds a value and states no rounding: the sine of a sweep and its
phase advance (R205). (DEDUCED: log entry 39) -/
opaque pick : Int → Nat
/-- Where in the range of ±DITHER the half period lies that a PRBS word gives (R227): the mapping of the word to δ is not
stated. (DEDUCED: log entry 39) -/
opaque ditherPick : (prbs carN : Nat) → Nat
/-- The PRBS word with which the carrier dither is seeded at seal (R227), which the spec does not give. (DEDUCED: log entry 39) -/
opaque ditherSeed : BitVec 16
/-- The bytes over which the state digest is taken, from the values of R410 in its order: their widths and byte order are
not stated. (DESIGN CHOICE: log entry 97) -/
opaque digestBytes : List Nat → List (BitVec 8)
/-- What the engine memory word at an address holds: 14 · axis + block below 336, then 336 + 2 · doorway for an opening and
one more for a closing envelope, anything else being no program or envelope. The spec gives engine memory no layout
(R200). (DESIGN CHOICE: log entry 98) -/
opaque eccPlace : BitVec 32 → Nat
/-- Whether a slot can be read from a recorder MRAM that has given no response (R431, R435). (DESIGN CHOICE: log entry 104) -/
opaque slotReadable : (slot : Nat) → Bool
/-- Whether the rate correction of one axis cycle is rounded up where a rate in ppb does not give a whole number of 2^−32 ns;
the spec states no rounding (R29, R42). (DEDUCED: log entry 12) -/
opaque rateUp : Rat → Bool
/-- VIN_LOG in 0.1 V at the k-th measurement of a power cycle, one each 100 µs (R458). -/
opaque vinLog : (cycle k : Nat) → BitVec 10
/-- Where in its range the falling threshold of an input comparator lies, in mV above 5 V, and where above that its rising one lies; the
spec fixes only 5 V < falling < rising < 11 V (R249). Comparators 0 to 63 are those of the field inputs, 64 to 79 the two paths of each
safety input, 80 to 111 the readbacks of the field outputs and 112 to 115 those of the safety outputs. -/
opaque fallPick : (comparator : Nat) → Nat
opaque risePick : (comparator : Nat) → Nat
/-- Revision identifier of the PCI Express configuration space, which R265 does not give. (DESIGN CHOICE: log entry 131) -/
opaque pcieRev : BitVec 8
/-- The k-th fresh free value a run draws: bits that no rule fixes. -/
opaque fresh : Nat → BitVec 64

end Sys2Proof.Config
end

