-- ==== Sys2Proof/Machine/State.lean ====
section
/-! DEFINITION. The state of the block as plain data, what can stop a command, and the state right after reset. Every
default value of a field is the value the field holds at reset. -/

namespace Sys2Proof.Machine

/-- Why the block stops with a fault. The spec describes no condition that stops the block; `brokenQueue` stands for a
command whose list operand is longer than the object it fills, which no sender of the spec's interface can make. No
meaning raises it today. Safe: a stop proves nothing about the hardware. -/
inductive Fault where
  /-- Raised by nothing. Safe. -/
  | brokenQueue
deriving DecidableEq, Repr

/-- Why a command has no meaning. -/
inductive Refusal where
  /-- A command whose meaning is not written yet, by its mnemonic; raised by the dispatch alone. Safe. -/
  | notModelled (mnemonic : String)
deriving DecidableEq, Repr

/-- A sparse map from register offsets or model keys to words: keys strictly rising, no entry equal to its default. -/
abbrev Memory := List (Nat × Word)

/-! ### Train time (R29 to R46) -/

/-- Time states of R32. -/
inductive TtState where
  | unset | set | acquiring | locked | holdover
deriving DecidableEq, Repr

/-- One half of a sync pair that a follower holds (R39, R40). -/
structure SyncHalf where
  seq : Nat
  /-- Bytes 4 to 7 of the sync frame. -/
  hi : Nat
  /-- The follower's own start-of-frame stamp. -/
  stamp : Nat
deriving DecidableEq, Repr

/-- A host set of train time waiting for its 200 µs instant (R44). -/
structure SetReq where
  value : Nat
  /-- The TT_SET descriptors to complete at the instant; none of a register write (R313). -/
  hdrs : List Hdr
deriving DecidableEq, Repr

/-- The time unit. -/
structure TimeUnit where
  /-- Axis cycles of 5 ns since the islands left reset (R10). -/
  cyc : Nat := 0
  /-- Train time in ns (R29). -/
  tt : Nat := 0
  /-- The fraction below it, in 2^−32 ns (R29). -/
  frac : Nat := 0
  state : TtState := .unset
  stepPending : Bool := false
  holdoverExpired : Bool := false
  setRefused : Bool := false
  upstreamHoldover : Bool := false
  sourceChanged : Bool := false
  /-- True while the secondary source is in use (R41). -/
  secondary : Bool := false
  sourceCh : ChanId := 0
  /-- TT_OFFSET: e of the latest valid pair. -/
  offset : Int := 0
  /-- Frequency estimate in ppb (R42). -/
  freq : Rat := 0
  /-- Rate correction in ppb (R42). -/
  rate : Rat := 0
  /-- Consecutive valid pairs under 500 ns in ACQUIRING (R32). -/
  goodPairs : Nat := 0
  /-- Offset of the held step candidate (R43). -/
  cand : Option Int := none
  /-- A confirmed step waiting for its 200 µs instant (R44). -/
  step : Option Int := none
  setReq : Option SetReq := none
  syncDiscards : Nat := 0
  syncOutlier : Nat := 0
  /-- Cycle at which HOLDOVER was entered (R45). -/
  holdoverAt : Nat := 0
  /-- Operating time in µs of the latest anchor (R56). -/
  anchorOp : Nat := 0
  /-- True when the first sync pair steps by FIRST_SYNC, so the step is not a SYNC_STEP (R32). -/
  firstSync : Bool := false
  /-- Elapsed control frames (R11): the frame boundaries passed since the islands left reset; no step of train time changes the count (R44). -/
  frames : Nat := 0
  /-- Count, in frames, of the latest frame boundary computed; none before the first (R20). -/
  lastF : Option Nat := none
deriving DecidableEq, Repr

/-! ### Launch scheduler (R16 to R19, R47 to R54, R454) -/

/-- One pending action. -/
structure Pend where
  hdr : Hdr
  act : Act
  launch : Nat
  deadline : Nat
  /-- A held action of R454. -/
  held : Bool := false
  /-- Cycle in which the scheduler received it (R18). -/
  at' : Nat := 0
deriving DecidableEq, Repr

/-- An action released and waiting for its frame or period boundary (R19). -/
structure Launched where
  hdr : Hdr
  act : Act
deriving DecidableEq, Repr

structure Sched where
  /-- Pending actions in the order received (R18). -/
  pend : List Pend := []
  /-- Released actions that act at a frame or period boundary, in release order. -/
  launched : List Launched := []
  /-- Accept number of the next action. -/
  nextUid : Nat := 0
  /-- SCHED_REFUSED (R52). -/
  refused : Nat := 0
  /-- True inside a run of internal actions not scheduled (R52). -/
  fullRun : Bool := false
deriving DecidableEq, Repr

/-! ### Doorways (R59 to R114) -/

/-- Doorway states of R61. -/
inductive DwState where
  | lockedClosed | unlocking | stepOut | opening | opened | closeWarning | closing | finalClose
  | stepIn | locking | reopening | obstacleHold | egress | isolated | seqFault | disabled
deriving DecidableEq, Repr

/-- Causes of a confirmed obstacle (R113). -/
inductive ObstCause where
  | force | edge | external | edgeUnknown
deriving DecidableEq, Repr

/-- A detection waiting for the sequencer of its doorway (R100, R106). -/
structure Detection where
  /-- Leaf 1 is false, leaf 2 is true. -/
  leaf2 : Bool
  cause : ObstCause
  /-- Resisting force and envelope in half newtons (R92, R94). -/
  r : Int
  e : Int
  k : Nat
  /-- Positions of both leaves latched at the start of the confirming period (R107). -/
  p1 : Int
  p2 : Int
deriving DecidableEq, Repr

/-- A move a leaf makes once it stands still after a stop (R108, R109). -/
inductive AfterStop where
  | none | reopen | relief (opening : Bool)
deriving DecidableEq, Repr

/-- One doorway. -/
structure Door where
  st : DwState := .disabled
  /-- DW_CAUSE (R81). -/
  cause : Nat := 0
  btn : Bool := false
  hold : Bool := false
  gate : Bool := false
  /-- Frame in which the timer of the present state started (R62). -/
  timer : Nat := 0
  /-- Frame of the latest entry to CLOSING, for T_CLOSE_MAX. -/
  closeT : Nat := 0
  /-- Frame from which leaf moves are done and CLOSED_IN is missing, for T_CLOSED_SW. -/
  closedSwT : Option Nat := none
  /-- Frame of the latest transition (R62: one per frame). -/
  transF : Option Nat := none
  /-- Levels of the buttons at the latest sample, for their edges (R68). -/
  btnI : Bool := false
  btnO : Bool := false
  btnC : Bool := false
  /-- Envelope tables that hold an uncorrectable word: bit 0 opening, bit 1 closing (R200). -/
  envBad : BitVec 2 := 0
  /-- In ISOLATED: CLOSED_IN and LOCKED_IN were asserted in the frame before (R80), and EGRESS_IN was (R79). -/
  isoClosed : Bool := false
  isoLocked : Bool := false
  isoEgress : Bool := false
  /-- Cycle summary under way (R90). -/
  cycOn : Bool := false
  cycStart : Nat := 0
  peakForce : Nat := 0
  maxFe : Nat := 0
  cycObst : Nat := 0
  cycRev : Nat := 0
  /-- Obstacle reversals of this cycle (R107). -/
  obstRev : Nat := 0
  /-- Creep extension in force (R110). -/
  creepExt : Bool := false
  /-- Envelopes in half newtons, opening and closing, and ENV_VALID (R94, R95). -/
  envOpen : List Nat := List.replicate 64 0
  envClose : List Nat := List.replicate 64 0
  envOpenValid : Bool := false
  envCloseValid : Bool := false
  /-- Detection disarmed by a confirmation (R101). -/
  disarmed : Bool := false
  /-- Armed direction of the latest armed state (R99). -/
  armOpen : Bool := false
  /-- Confirmed detections of this doorway not yet taken by the sequencer, one of a leaf at most (R100, R106). -/
  detect : List Detection := []
  /-- OBST_STATUS fields of the latest confirmation (R113). -/
  obstLeaf : Nat := 0
  obstCause : Nat := 0
  obstK : Nat := 0
  obstR : Int := 0
  obstE : Int := 0
  obstReact : Nat := 0
  /-- What each leaf does at standstill (R108, R109). -/
  after1 : AfterStop := .none
  after2 : AfterStop := .none
  /-- The step retract move is issued at the next period of the step axis (R76). -/
  retract : Bool := false
  /-- The compare unit of the first leaf is armed for step retraction (R76, R141). -/
  retractArmed : Bool := false
  /-- Prediction limit in force (R103). -/
  predLive : Bool := false
  /-- Command of UNLOCK_OUT. -/
  unlockOut : Bool := false
  /-- Frame of the latest change of UNLOCK_OUT, for T_SOL. -/
  unlockT : Nat := 0
  /-- Lamp and tone demands (R88). -/
  openLamp : Bool := false
  warnLamp : Bool := false
  tone : Bool := false
  /-- The eight counters of R89, live. -/
  ledger : Vector Nat 8 := Vector.replicate 8 0
deriving DecidableEq, Repr

/-- One safety pair of R71; the timer is in µs. -/
structure Pair where
  timer : Nat := 0
  active : Bool := false
  fault : Bool := false
deriving DecidableEq, Repr

/-- Release gate and closed-locked loop. -/
structure Gate where
  pairs : Vector Pair 4 := Vector.replicate 4 {}
  loopFault : Vector Bool 2 := Vector.replicate 2 false
  loopCond : Vector Bool 2 := Vector.replicate 2 false
deriving DecidableEq, Repr

/-! ### Axes (R115 to R246) -/

/-- Segment codes of R121. -/
inductive Seg where
  | idle | start | a1 | a2 | ridge | d2 | d1 | stop | frozen | track
deriving DecidableEq, Repr

/-- One profile set (R115). -/
structure ProfSet where
  vStart : Nat := 100
  vBreak : Nat := 1000
  vRidge : Nat := 1000
  vStop : Nat := 100
  a1 : Nat := 10000
  a2 : Nat := 10000
  d2 : Nat := 10000
  d1 : Nat := 10000
  vCreep : Nat := 0
  vBlend : Nat := 0
deriving DecidableEq, Repr

/-- A move of the queue (R126). -/
structure Move where
  target : Int
  set : Fin 4
  /-- The action to complete; none for a move a sequencer issues. -/
  hdr : Option Hdr
  /-- Direction of motion when the move took effect while the axis moved (R138). -/
  dirOld : Option Int := none
  /-- It overshot (R138). -/
  overshoot : Bool := false
deriving DecidableEq, Repr

/-- A joint not yet passed after a hand-over (R131). -/
structure Joint where
  pos : Int
  speed : Nat
  /-- The move that ends at the joint. -/
  move : Move
deriving DecidableEq, Repr

/-- A stop ramp under way (R132): the set it follows, and whether it belongs to the current move. -/
structure Ramp where
  set : Fin 4
  /-- False for the ramp of R137, which no target bounds. -/
  ofMove : Bool
deriving DecidableEq, Repr

/-- Values of one profile change: mask bits 0 to 9 and the words (R302). -/
structure SetChange where
  set : Fin 4
  mask : BitVec 11
  vals : List Word
  /-- The change shortens the stop under way towards this end point, coded as `Gen.bound`; 0 none (R136). -/
  short : Nat := 0
deriving DecidableEq, Repr

/-- The profile generator of an axis. -/
structure Gen where
  /-- Set-point in 2^−32 count (R120). -/
  x : Int := 0
  /-- Set-point of the preceding period, for the rebase of R181. -/
  xPrev : Int := 0
  /-- Speed magnitude in 2^−16 count/s (R120). -/
  v : Nat := 0
  /-- Signed speed of the preceding period in 2^−16 count/s (R179). -/
  vPrev : Int := 0
  dir : Int := 1
  seg : Seg := .idle
  cur : Option Move := none
  /-- Moves waiting behind the current one. -/
  queue : List Move := []
  /-- Joints handed over at and not yet passed, nearest first (R131). -/
  joints : List Joint := []
  ramp : Option Ramp := none
  /-- STOP actions that complete when the axis rests (R303). -/
  stops : List Hdr := []
  /-- Working copies (R117). -/
  sets : Vector ProfSet 4 := Vector.replicate 4 {}
  cmdLimit : Nat := 4294967295
  /-- Changes that have taken effect and apply in the period that begins next (R135); a mask of 0x400 is a change of CMD_LIMIT
  alone. -/
  next : List SetChange := []
  /-- Held changes (R135). -/
  heldChanges : List SetChange := []
  /-- End point against which the braking check bound in the preceding period: 0 none, 1 the target, 2 and up the joints, nearest
  first (R135). -/
  bound : Nat := 0
  /-- The hand-over period of the current move has passed (R131). -/
  hoDone : Bool := false
  /-- A shortened stop runs towards this end point, coded as `bound` (R136). -/
  short : Nat := 0
  /-- Latest ended move (R143). -/
  endReason : Nat := 0
  endSeq : Word := 0
  overshoot : Nat := 0
  overshootSeq : Word := 0
  queueOvf : Bool := false
  /-- Planned values of period k+8 (R142). -/
  laPos : Int := 0
  laSpeed : Nat := 0
  laSeg : Seg := .idle
  laForce : Int := 0
  laEnv : Int := 0
  laLimit : Nat := 4294967295
  /-- The lowered limit of R103 was in force in this period. -/
  predOn : Bool := false
deriving DecidableEq, Repr

/-- The compare unit (R139, R140). -/
structure Compare where
  armed : Bool := false
  pos : Int := 0
  neg : Bool := false
  measured : Bool := false
  behind : Bool := false
  /-- Fires in the next period (R140, PASSED_FIRES). -/
  fire : Bool := false
  /-- c_prev, in 2^−32 count. -/
  prev : Int := 0
  /-- Armed by an action of the running frame: the test of R140 waits for the set-point of this period. -/
  isNew : Bool := false
deriving DecidableEq, Repr

/-- Step-and-direction following (R165 to R167). -/
structure Follow where
  /-- x_base in 2^−32 count. -/
  base : Int := 0
  dirPrev : Int := 1
  /-- Unspread part of the latest step, in 2^−32 count. -/
  remaining : Int := 0
  start : Nat := 0
  /-- Span in ns. -/
  span : Nat := 0
  tsPrev : Option Nat := none
  count : Int := 0
  dropped : Nat := 0
  /-- Out of following since a stop or reaction (R167). -/
  out : Bool := false
deriving DecidableEq, Repr

/-- Coil modes of R146. -/
inductive Coil where
  | hold | off | shorted
deriving DecidableEq, Repr

/-- A coefficient block as loaded (R180): rows, columns, exponent and mantissas; a HEADER keeps its two words. -/
structure Block where
  rows : Nat
  cols : Nat
  exp : Int
  m : List Int
deriving DecidableEq, Repr

/-- A block floating-point vector (R171): every element is m / 2^23 × 2^e. -/
structure Bfp where
  e : Int := -128
  m : List Int := []
deriving DecidableEq, Repr

/-- A running injection (R204, R205). -/
structure Inj where
  ops : InjectOps
  hdr : Hdr
  /-- Period count n. -/
  n : Nat := 0
  /-- PRBS register or phase. -/
  reg : Nat := 0
  /-- It has given its last value and completes in the next period (R206). -/
  done : Bool := false
  /-- INJECT_STOP ends it at the next period. -/
  stop : Bool := false
deriving DecidableEq, Repr

/-- What the axis held before its latest engine period, kept until a miss can no longer come (R197). -/
structure EngSave where
  xp : Bfp
  z : Int
  notch : Vector Bfp 4
  force : Int
  u0 : Int
  u1 : Int
  runCnt : Nat
  feAcc : Nat
  inj : Option Inj
  injCount : Nat
  missCnt : Nat
deriving DecidableEq, Repr

/-- What the look-ahead registers of an axis and the prediction of its doorway showed before the latest period, kept until
pass 2 can no longer be late (R199), and whether that period predicted exceedance. -/
structure PredSave where
  laPos : Int
  laSpeed : Nat
  laSeg : Seg
  laForce : Int
  laEnv : Int
  laLimit : Nat
  live : Bool
  quiet : Nat
  exceeded : Bool := false
deriving DecidableEq, Repr

/-- Control modes of R211. -/
inductive EngMode where
  | auto | manualV | manualF
deriving DecidableEq, Repr

/-- The engine's part of an axis (R168 to R219). -/
structure Eng where
  loopClosed : Bool := false
  /-- Blocks 0x00 to 0x0D as loaded (R179). -/
  prog : Vector (Option Block) 14 := Vector.replicate 14 none
  /-- Time update of the state, x̂(k+1 | k). -/
  xp : Bfp := {}
  /-- Corrected estimate x̂(k | k). -/
  xh : Bfp := {}
  /-- Assembled measurements. -/
  y : Bfp := {}
  /-- Integrator (R187). -/
  z : Int := 0
  /-- Notch states s1, s2 of sections 0x0A to 0x0D (R185). -/
  notch : Vector Bfp 4 := Vector.replicate 4 {}
  thetaPrev : Nat := 0
  /-- θ of the latest period boundary (R177). -/
  theta : Nat := 0
  thetaOut : Nat := 0
  /-- Applied output rows in 2^−15, and u before the limit. -/
  u0 : Int := 0
  u1 : Int := 0
  uRaw0 : Bfp := {}
  uRaw1 : Bfp := {}
  /-- REF injection of the preceding period, in 2^−32 count (R204). -/
  refS : Int := 0
  /-- The axis was computed in its latest period (R169, R194). -/
  computed : Bool := false
  /-- That period was the first after re-engagement. -/
  reengaged : Bool := false
  /-- The latest period was a miss (R197). -/
  missed : Bool := false
  /-- Predicted force F8 of the latest period in half newtons (R102). -/
  f8 : Option Int := none
  /-- Periods without predicted exceedance of the leaf (R103). -/
  predQuiet : Nat := 0
  missCnt : Nat := 0
  lateLatched : Bool := false
  /-- The miss count has reached LATE_LIMIT and the overrun reaction has not been raised for it yet (R198). -/
  overDue : Bool := false
  uSat : Bool := false
  intWraps : Nat := 0
  /-- FORCE_EST in half newtons (R91). -/
  force : Int := 0
  /-- FE of the latest computed period, in 2^−32 count (R176). -/
  fe : Int := 0
  mode : EngMode := .auto
  man0 : Int := 0
  man1 : Int := 0
  /-- Manual output rows m (R211), in 2^−15. -/
  m0 : Int := 0
  m1 : Int := 0
  /-- Cycle of the latest refresh of the manual watchdog (R213). -/
  manAt : Nat := 0
  /-- MODE_SWITCH actions to AUTO waiting for the hand-over that decides them (R215). -/
  autoReq : List Hdr := []
  /-- A forced hand-over is due in the next computed period (R214). -/
  forced : Bool := false
  /-- The next manual period is the first, which takes the output of the period before (R211). -/
  manNew : Bool := false
  /-- Hand-over offset (R216) and its period count; none when spent. -/
  off : Bfp := {}
  offI : Option Nat := none
  hoZ : Int := 0
  hoStatus : Nat := 0
  /-- Following-error supervisor (R218), accumulator in µs. -/
  feAcc : Nat := 0
  fePeak : Nat := 0
  feLatched : Bool := false
  feWarnAbove : Bool := false
  inj : Option Inj := none
  injPoint : Nat := 0
  injForm : Nat := 0
  injEnd : Nat := 0
  injCount : Nat := 0
  /-- Value injected in the latest period. -/
  injVal : Bfp := {}
  cost : Nat := 0
  /-- Run count of measured exceedance (R100). -/
  runCnt : Nat := 0
  /-- Period count since the current armed move's first set-point; none when no start allowance applies (R97). -/
  startAt : Option Nat := none
  /-- An armed move has been issued whose first set-point is still to come. -/
  startPend : Bool := false
  /-- Blocks whose fault waits for their reload, one bit each (R200). -/
  badBlocks : BitVec 14 := 0
  /-- Values before the latest period; none once the period can no longer become a miss. -/
  save : Option EngSave := none
  /-- Look-ahead values before the latest period; none once its prediction can no longer be late. -/
  predSave : Option PredSave := none
deriving DecidableEq, Repr

/-- What the gate-command outputs of a port show (R222). -/
inductive GateOut where
  | hiZ | low | off | shorted | pwm
deriving DecidableEq, Repr

/-- A real value known to a bound: v / 2^64, off by at most err / 2^64. -/
structure Near where
  v : Int
  err : Nat
deriving DecidableEq, Repr

/-- Phase duties of a port (R224); those of an output of 0 before the first one is computed. -/
structure Duty where
  u : Near := ⟨9223372036854775808, 0⟩
  v : Near := ⟨9223372036854775808, 0⟩
  w : Near := ⟨9223372036854775808, 0⟩
deriving DecidableEq, Repr

/-- A current channel of a port (R232 to R235). -/
structure SdChan where
  /-- The most recent bits, latest first, 3 · SD_OSR of them at most. -/
  bits : List Bool := []
  /-- Bits since the latest decimator output. -/
  cnt : Nat := 0
  /-- Latest valid decimator output. -/
  out : Int := 0
  /-- Consecutive outputs above OC_LIM (R231). -/
  ocRun : Nat := 0
  /-- Consecutive bits of one value, and the bitstream is lost now (R235). -/
  run : Nat := 0
  lost : Bool := false
  /-- Level of the pin in the latest axis cycle, and the axis cycles since the latest mid-bit transition and since the latest
  transition (R232, R235). -/
  lvl : Bool := false
  since : Nat := 0
  quiet : Nat := 0
deriving DecidableEq, Repr

/-- An axis port (R220 to R246). -/
structure Port where
  /-- Raw position counter (R242). -/
  raw : Int := 0
  /-- Hysteresis of R244. -/
  h : Int := 0
  d : Int := 1
  /-- Filtered A and B (R237). -/
  aLvl : Bool := false
  bLvl : Bool := false
  illegal : Nat := 0
  fltLatched : Bool := false
  fltPin : Bool := true
  ocLatched : Bool := false
  fbLatched : Bool := false
  /-- Channels whose samples of the running period are invalid (R235). -/
  sdLoss : BitVec 3 := 0
  /-- The current channels, axis cycles since the latest rising edge of SDCK, and the level of SDCK while listening. -/
  sd : Vector SdChan 3 := Vector.replicate 3 {}
  sdPh : Nat := 0
  /-- Axis cycle of the latest pin levels taken, at which `sdPh` stood so (R232). -/
  sdAt : Nat := 0
  sdCk : Bool := false
  /-- The unit has become the driver of the shared clock and waits for its next aligned instant (R236). -/
  sdWait : Bool := false
  wireBreak : BitVec 3 := 0
  /-- Cycle of the latest change of the clock driver, while its first decimator outputs are invalid (R236). -/
  sdGrace : Option Nat := none
  ssiPrev : Option Nat := none
  /-- Cycle at which the latest SSI frame began (R240). -/
  ssiAt : Option Nat := none
  ssiErr : Nat := 0
  /-- The latched SSI frame was in error (R243). -/
  ssiBad : Bool := false
  /-- Feedback error seen in the running period, by cause; 0 none (R243, R445). -/
  fbCause : Nat := 0
  /-- Feedback error run, and the length of the run free of errors. -/
  fbRun : Nat := 0
  fbQuiet : Nat := 0
  hall : BitVec 3 := 0
  /-- Angle held for ELEC_SRC PORT (R245). -/
  hallAng : Nat := 0
  hallTe : Nat := 0
  hallDir : Int := 0
  hallRun : Nat := 0
  hallTs : Nat := 0
  /-- Latest valid current samples (R233 to R235). -/
  cur : Currents := ⟨0, 0, 0⟩
  /-- Output written at the period boundary, waiting for a valley, and the duties the latest valley loaded (R226). -/
  staged : Option Duty := none
  duty : Duty := {}
  /-- The duties the core has computed in the running period, written at the next boundary (R22). -/
  computed : Option Duty := none
  out : GateOut := .hiZ
  /-- Cycle of the latest change of `out`, and the levels of GL_W to GH_U before it, for the dead time (R222). -/
  outAt : Nat := 0
  outOld : BitVec 6 := 0
  /-- PRBS of the carrier dither (R227). -/
  prbs : Nat := 0
  /-- Half period N of the running carrier period in ticks, the cycle of its valley, and its compare values (R225 to R227). -/
  half : Nat := 2500
  valleyAt : Nat := 0
  cU : Nat := 1250
  cV : Nat := 1250
  cW : Nat := 1250
  /-- Ticks after that valley before which GH and GL of phases U, V and W do not turn on (R225). -/
  lagU : Nat × Nat := (0, 0)
  lagV : Nat × Nat := (0, 0)
  lagW : Nat × Nat := (0, 0)
  /-- Period boundaries until an overrun reaction reaches the gate outputs and the set-point (R198). -/
  lateWait : Nat := 0
deriving DecidableEq, Repr

/-- What a sequencer or a reaction asks of a generator: it takes effect at the next period boundary of the axis (R62, R114, R133,
R151). -/
inductive GenOrd where
  /-- A stop along the stop ramp (R132). -/
  | stop
  /-- A freeze, at the set-point of the preceding period or at a position (R107, R133). -/
  | freeze (pos : Option Int)
  /-- The set-point follows the measured position (R133). -/
  | track
  /-- A move, taken as a MOVE_NOW (R129). -/
  | move (target : Int) (set : Fin 4)
deriving DecidableEq, Repr

/-- One axis. -/
structure Axis where
  gen : Gen := {}
  /-- Orders waiting for the next period boundary, oldest first. -/
  orders : List GenOrd := []
  /-- A stop ramp that the sequencer issued on leaving an armed state is ordered or under way (R99). -/
  trail : Bool := false
  /-- The armed direction of the state that issued that ramp is the opening one (R99). -/
  trailOpen : Bool := false
  cmp : Compare := {}
  fol : Follow := {}
  eng : Eng := {}
  port : Port := {}
  /-- Settle condition count and STANDSTILL (R144). -/
  stillCnt : Nat := 0
  still : Bool := false
  /-- A move became current in the running period, so STANDSTILL is clear in it, be the move over already (R128, R144, R152). -/
  began : Bool := false
  /-- Coil mode applied at standstill; none while none is (R148). -/
  coil : Option Coil := none
  /-- A freeze of R107 or R133 that no reaction holds is in force until the next move. -/
  freeze : Bool := false
  posOff : Int := 0
  referenced : Bool := false
  posUncertain : Bool := false
  refArm : Option RefArmOps := none
  /-- A latched shift waiting for its period boundary: Pl (R155). -/
  refLatch : Option Int := none
  /-- Corrections ρ that wait for their period boundary, in the order of their edges (R159). -/
  idxFix : List Int := []
  refDelta : Int := 0
  idxPrev : Option Int := none
  idxDelta : Int := 0
  idxDrift : Nat := 0
  limLatched : Bool := false
  /-- A LIMIT_STOP of the positive and of the negative limit is open (R150). -/
  limPos : Bool := false
  limNeg : Bool := false
  /-- Values latched at the latest period boundary: reported position and raw counter. -/
  posB : Int := 0
  rawB : Int := 0
deriving DecidableEq, Repr

/-! ### Field and safety I/O (R247 to R264) -/

/-- A filtered input. -/
structure InPin where
  cnt : Nat := 0
  lvl : Bool := false
  unknown : Bool := true
  /-- Samples taken since UNKNOWN began. -/
  taken : Nat := 0
  raw : Bool := false
  /-- Stamp of the latest filtered change, and of the first sample with the new raw level (R252). -/
  stamp : Nat := 0
  firstRaw : Option Nat := none
  /-- Positions of the axes at that first sample, before their offsets; empty while there is none (R154). -/
  firstPos : List Int := []
  /-- That first sample of the latest filtered change: the latch instant of the FIELD source (R252). -/
  latch : Nat := 0
  latchPos : List Int := []
deriving DecidableEq, Repr

/-- A safety input: its filter and the comparison of its two paths (R261, R262). -/
structure SafeIn where
  pin : InPin := {}
  /-- Levels of the comparators of its two paths (R249, R261). -/
  lvlA : Bool := false
  lvlB : Bool := false
  differ : Nat := 0
  agree : Nat := 0
  diag : Bool := false
deriving DecidableEq, Repr

/-- A field or safety output (R254 to R256, R263). -/
structure OutPin where
  cmd : Bool := false
  /-- Cycle of the latest change of the command. -/
  changed : Nat := 0
  overload : Bool := false
  readback : Bool := false
  /-- Disagreement timer in µs (R256). -/
  timer : Nat := 0
  lastDis : Nat := 0
  /-- Direction of the disagreement that raised a diagnosis. -/
  noOutput : Bool := false
  backFed : Bool := false
  openLoad : Bool := false
  /-- µs of load below the threshold (R256). -/
  lowLoad : Nat := 0
  /-- The timer has reached 2 ms and its report stands. -/
  reported : Bool := false
  /-- Cycle of the first readback of the present run in current limit (R255). -/
  limitAt : Option Nat := none
deriving DecidableEq, Repr

/-- An input and output group with its supply (R257 to R259). -/
structure Grp where
  /-- VFSg in 0.1 V. -/
  vfs : Nat := 0
  sag : Bool := false
  loss : Bool := false
  /-- Cycle since which the supply is below 9.0 V, and since which it is recovered, for loss and for sag. -/
  lowAt : Option Nat := none
  lossOkAt : Option Nat := none
  sagOkAt : Option Nat := none
  /-- Cycle of the latest sample (R248), and of the latest measurement of the supply. -/
  sampled : Option Nat := none
  measAt : Option Nat := none
deriving DecidableEq, Repr

structure FieldIo where
  ins : Vector InPin 64 := Vector.replicate 64 {}
  sins : Vector SafeIn 8 := Vector.replicate 8 {}
  outs : Vector OutPin 32 := Vector.replicate 32 {}
  souts : Vector OutPin 4 := Vector.replicate 4 {}
  grps : Vector Grp 8 := Vector.replicate 8 {}
  safeSampled : Option Nat := none
  /-- Cycle of the latest readback (R256). -/
  readAt : Option Nat := none
  /-- Commands of the free outputs (R304). -/
  freeCmd : Word := 0
deriving DecidableEq, Repr

/-! ### Host link, Atolls, translation, captures (R265 to R339) -/

/-- Atoll states and halt reasons of R282. -/
inductive AtState where
  | idle | running | stalled | halted | disabled
deriving DecidableEq, Repr
inductive AtReason where
  | none | badFormat | badCrc | dmaRead | translation | linkDown
deriving DecidableEq, Repr

/-- An accepted descriptor that has not completed. -/
structure Live where
  uid : Nat
  seq : Word
  released : Bool
  /-- A mirror entry was made of it (R405). -/
  mirror : Bool
deriving DecidableEq, Repr

/-- What is known of the descriptor at DEV_IDX once the engine has read it (R286, R287). -/
structure AtHead where
  fence : Bool
  look : Bool
  /-- ATL_WB is not 0. -/
  wb : Bool
deriving DecidableEq, Repr
/-- An Atoll. -/
structure Atoll where
  beacon : BitVec 16 := 0
  dev : BitVec 16 := 0
  st : AtState := .disabled
  reason : AtReason := .none
  ctxBusy : Bool := false
  beaconRange : Bool := false
  /-- CHAIN_PREEMPTED, and whether a version-1 chain is under way (R331, R332). -/
  preempted : Bool := false
  inChain : Bool := false
  chainLen : Nat := 0
  /-- Group of the mirror entries of the version-1 chain under way (R405). -/
  chainGroup : Nat := 0
  /-- A V1_CHAIN_CANCEL written while the chain was pre-empted is still to be served (R333). -/
  chainCancel : Bool := false
  head : Option AtHead := none
  /-- A stalled Atoll reads its slot again, after a Beacon write (R280). -/
  reread : Bool := false
  /-- Cycle at which the latest descriptor with FENCE was accepted (R287, R289). -/
  fenceAt : Nat := 0
  /-- Train time of the latest accepted Beacon write, and of each write by the index it reaches, with its cycle (R274). -/
  beaconTT : Nat := 0
  avail : List (BitVec 16 × Nat × Nat) := []
  live : List Live := []
  /-- Cycle from which every descriptor before DEV_IDX is accepted and released, and accepted and completed (R286, R287,
  R289). -/
  relAt : Nat := 0
  doneAt : Nat := 0
  /-- A Beacon write after LINK_DOWN waits for Bus Master Enable (R284). -/
  resume : Bool := false
  /-- Ring indices of the descriptors for which FETCH_LATE has been raised. -/
  fetchLate : List (BitVec 16) := []
  /-- Entries written and not yet announced, and the cycle of the oldest (R293). -/
  unann : Nat := 0
  unannAt : Nat := 0
  /-- The index write-back word has to be written (R275). -/
  wbDue : Bool := false
  /-- The vector is signalled once the write-back word has been issued (R292). -/
  irqDue : Bool := false
deriving DecidableEq, Repr

/-- An outcome waiting to be written to its completion Atoll (R292, R317). -/
structure Compl where
  atoll : AtollId
  seq : Word
  status : Nat
  late : Bool
  cancelLate : Bool
  notFinal : Bool
  tt : Nat
  irq : Bool
  /-- Accept number, and the cycle of the outcome, for the order of R292. -/
  uid : Nat
  cyc : Nat
deriving DecidableEq, Repr

/-- What the device has issued on the host link, oldest first (R292). -/
inductive LinkOut where
  | write (addr : Nat) (bytes : List Byte)
  | msix (vec : Fin 64)
  /-- ERR_FATAL or ERR_NONFATAL of Advanced Error Reporting (R283). -/
  | errMsg (fatal : Bool)
deriving DecidableEq, Repr

/-- A capture that has ended: its staged records, then its completion with a status (R210). -/
structure CapTail where
  atoll : AtollId
  staged : List (List Byte)
  hdr : Hdr
  code : Nat
deriving DecidableEq, Repr

/-- A capture unit (R207 to R210). -/
structure Capture where
  /-- The running capture. -/
  ops : Option (CapOps × Hdr) := none
  /-- Start of the window, samples taken, records made. -/
  start : Nat := 0
  samples : Nat := 0
  seq : Nat := 0
  /-- A period of the window whose values are recorded when it ends. -/
  due : Option Nat := none
  staged : List (List Byte) := []
  dropped : Nat := 0
  /-- A record was lost and the next one carries GAP; a run of drops goes on. -/
  gap : Bool := false
  gapRun : Bool := false
  /-- Earlier captures of the unit, oldest first. -/
  tails : List CapTail := []
deriving DecidableEq, Repr

/-- The PCI Express configuration space but Bus Master Enable (R265, R266, R269). -/
structure Pcie where
  cmd : BitVec 16 := 0
  sta : BitVec 16 := 0
  line : Byte := 0
  bar0 : Word := 0
  bar4 : BitVec 64 := 0
  /-- MSI-X Enable and Function Mask. -/
  msixEn : Bool := false
  msixMask : Bool := false
  /-- Power state: 0 for D0, 3 for D3hot. -/
  power : BitVec 2 := 0
  devCtl : BitVec 16 := 0x2000
  devSta : BitVec 16 := 0
  /-- Advanced Error Reporting: uncorrectable status, mask and severity, correctable status and mask. -/
  unc : Word := 0
  /-- First Error Pointer and Header Log. -/
  firstErr : Nat := 0
  headerLog : BitVec 128 := 0
  uncMask : Word := 0
  uncSev : Word := 0x00462030
  cor : Word := 0
  corMask : Word := 0x2000
deriving DecidableEq, Repr
structure HostSide where
  pcie : Pcie := {}
  bme : Bool := false
  lost : Bool := false
  complLost : Nat := 0
  /-- Command Atoll served last (R281). -/
  served : Nat := 47
  barErr : Nat := 0
  /-- Lock of the PLLs of the core, axis, bus and twin islands (R464, R484). -/
  pllLock : BitVec 4 := 0
  /-- HOST_REF (R8). -/
  hostRef : Bool := false
  outcomes : List Compl := []
  link : List LinkOut := []
  /-- Writes that wait for Bus Master Enable, in order (R270). -/
  held : List LinkOut := []
  /-- MSI-X table words and pending bits (R503). -/
  bar4 : Memory := []
  msixPend : BitVec 64 := 0
  /-- Translation faults (R327) and cached entries by table index (R328). -/
  tuIova : Nat := 0
  tuAtoll : Nat := 0
  tuCause : Nat := 0
  tuCnt : Nat := 0
  tuL1 : List (Nat × BitVec 64) := []
  tuL2 : List (Nat × BitVec 64) := []
  /-- MGT_LAST_STATUS (R336). -/
  mgtStatus : Byte := 0
  /-- CRC-16 sent after the words of the latest READ frame (R335). -/
  mgtCrc : BitVec 16 := 0
  suWrSealed : Bool := false
  rangeErr : Bool := false
  glbErr : Nat := 0
  glbErrReq : Bool := false
deriving DecidableEq, Repr

/-- What BAR0 keeps for each requester: latched upper halves and window copies by offset, selectors by offset, the
Cairn cursor, window and status, and the data of the latest read (R480, R481, R431). -/
structure ReqSide where
  latch : Memory := []
  sel : Memory := []
  cur : Word := 0
  wstat : Nat := 0
  win : List Byte := List.replicate 32 0
  rdata : List Word := []
deriving DecidableEq, Repr

/-! ### Bus (R340 to R388) -/

/-- Channel modes: OFF, integrating, running, DETECT, NO_RATE, asleep, waking, in bus-off, recovering. -/
inductive ChMode where
  | off | integrating | running | detect | noRate | asleep | waking | busOff | recovering
deriving DecidableEq, Repr

/-- A frame in a channel's transmit queue (R357). -/
structure TxFrame where
  hdr : Hdr
  frame : CanFrame
  /-- Attempts allowed and made (R358). -/
  limit : Nat
  made : Nat := 0
  deadline : Nat := 0
  /-- Every failed attempt so far failed on acknowledgement alone (R306). -/
  ackOnly : Bool := true
  /-- Train time at which a cancel reached the frame (R360). -/
  cancel : Option Nat := none
  lateRaised : Bool := false
  sof : Option Nat := none
deriving DecidableEq, Repr

/-- A supplied receive buffer (R307, R353). -/
structure RxBuf where
  hdr : Hdr
  buf : Buf
  len : Nat
  cookie : Word
deriving DecidableEq, Repr

/-- A selected frame waiting for a buffer (R352). -/
structure RxRec where
  frame : CanFrame
  sof : Nat
  filter : Nat
  echo : Bool
  rxSeq : Nat
  lost : Nat
deriving DecidableEq, Repr

/-- A complete sync pair waiting for the servo (R39). -/
structure PairReady where
  e : Int
  holdover : Bool
deriving DecidableEq, Repr

/-- One bus channel. -/
structure Chan where
  mode : ChMode := .off
  tec : Nat := 0
  recv : Nat := 0
  lastErr : Nat := 0
  warned : Bool := false
  txq : List TxFrame := []
  /-- Accept number of the frame in an attempt. -/
  att : Option Nat := none
  bufs : List RxBuf := []
  staging : Option RxRec := none
  shadow : Option RxRec := none
  rxLost : Nat := 0
  lostRun : Nat := 0
  rxSeq : Nat := 0
  detectFrames : Nat := 0
  wakeErr : Nat := 0
  /-- Rate detection (R350). -/
  cand : Nat := 0
  good : Nat := 0
  /-- Cycle at which the dwell of the candidate began, once the channel has integrated on it. -/
  candAt : Option Nat := none
  detAt : Nat := 0
  rateFound : Bool := false
  rateUsed : Nat := 0
  /-- SLEEP requests waiting for bus idle; none for one the device makes when it goes to sleep (R363, R473). -/
  sleepReq : List (Option Hdr) := []
  /-- Cycle of entry to bus-off, of the wake, of the latest dominant edge. -/
  boffAt : Nat := 0
  wakeAt : Nat := 0
  wakeCause : Nat := 0
  wakeIde : Bool := false
  wakeId : Nat := 0
  /-- TM_CONTROL RUN and the sync sequence (R37, R313). -/
  run : Bool := true
  syncSeq : Nat := 0
  /-- Sync frame sent and waiting for its follow-up: sequence, bytes 4 to 7, own stamp (R37). -/
  sent : Option SyncHalf := none
  /-- A step since the sync frame was sent (R38). -/
  sentStep : Bool := false
  /-- Latest multiple of the interval for which a sync frame was scheduled. -/
  syncAt : Option Nat := none
  /-- Follower's half pairs by twin bit (R39, R40). -/
  half0 : Option SyncHalf := none
  half1 : Option SyncHalf := none
  /-- Sequence of the latest pair used, by twin bit, and the sequences used from the other twin whose own pair is still to
  be discarded (R40). -/
  done0 : Option Nat := none
  done1 : Option Nat := none
  skip0 : List Nat := []
  skip1 : List Nat := []
  ready : Option PairReady := none
  /-- Cycle of the latest valid pair. -/
  pairAt : Nat := 0
  /-- A run of drops of forwarded frames goes on (R380). -/
  dropRun : Bool := false
deriving DecidableEq, Repr

/-- Partner context states (R373). -/
inductive PcState where
  | free | new | live | silent
deriving DecidableEq, Repr

/-- A partner context (R372). -/
structure Ctx where
  st : PcState := .free
  group : Nat := 0
  source : Nat := 0
  cls : Nat := 0
  /-- Channel of the frame that allocated it, whose class fields govern. -/
  ch : ChanId := 0
  pinned : Bool := false
  h : Nat := 0
  win : BitVec 64 := 0
  empty : Bool := true
  stale : Nat := 0
  lastTT : Nat := 0
  lastTT0 : Nat := 0
  lastTT1 : Nat := 0
  hbTT : Nat := 0
  acc : Nat := 0
  dup : Nat := 0
  staleCnt : Nat := 0
deriving DecidableEq, Repr

/-- A mapped frame some of whose actions are not decided yet (R387). -/
structure Mapped where
  key : Nat
  ch : ChanId
  rule : Nat
  cmd : Byte
  source : Nat
  byte3 : Byte
  todo : BitVec 8
  accepted : BitVec 8 := 0
  gateRef : BitVec 8 := 0
  stateRef : BitVec 8 := 0
  late : Bool := false
  full : Bool := false
deriving DecidableEq, Repr

structure Partners where
  ctx : Vector Ctx 256 := Vector.replicate 256 {}
  short : Vector Nat 8 := Vector.replicate 8 0
  fullCnt : Nat := 0
  fullRun : Bool := false
  fwdCnt : Vector Nat 128 := Vector.replicate 128 0
  dropCnt : Vector Nat 128 := Vector.replicate 128 0
  mapped : List Mapped := []
  mapStatus : List Byte := List.replicate 8 0
  mapBad : Nat := 0
  mapBadCause : Nat := 0
  /-- A service reply is being sent (R433): responses of it still in the scheduler or on the bus. -/
  svcBusy : List Nat := []
deriving DecidableEq, Repr

/-! ### Twin (R389 to R418) -/

/-- Summit states of R394. -/
inductive Summit where
  | off | standby | claiming | backoff | holding | demoted
deriving DecidableEq, Repr

/-- A mirror entry (R406). -/
structure MirrorEntry where
  atoll : AtollId
  cancel : Bool
  seq : Word
  bytes : List Byte
  /-- Accept number of the first member of its chain (R407), and the cycle of its acceptance (R409). -/
  group : Nat
  cyc : Nat
deriving DecidableEq, Repr

/-- A batch under way (R407). -/
structure Batch where
  seq : Nat
  bytes : List Byte
  /-- Cycle at which its first entry was accepted (R409). -/
  made : Nat
  /-- Next segment to send. -/
  next : Nat := 0
deriving DecidableEq, Repr

/-- The frame watchdog before a retrigger: its run, the cycle of the retrigger before, whether FRAME_WDOG had been raised, and
whether the retrigger ended its reaction (R396). -/
structure WdogSave where
  run : Nat := 0
  cyc : Nat := 0
  fired : Bool := false
  ended : Bool := false
deriving DecidableEq, Repr

/-- A handover exchange (R414): what the unit waits for. `hdrs` are the TWIN_YIELD actions that complete with it; an
instant is a frame count. -/
inductive Handover where
  | none
  | requested (tag : Byte)
  | offered (tag : Byte) (hdrs : List Hdr)
  | granting (tag : Byte) (inst : Nat) (hdrs : List Hdr)
  /-- The partner of an exchange waits for H; `offer` is true when the exchange began with an OFFER. -/
  | awaiting (tag : Byte) (inst : Nat) (offer : Bool)
  /-- The former holder waits for its partner to hold, since the cycle of its release. -/
  | yielded (at' : Nat) (hdrs : List Hdr)
deriving DecidableEq, Repr

structure Twin where
  en : Bool := false
  unitB : Bool := true
  pref : Bool := false
  summit : Summit := .off
  /-- SUMMIT_SEE, and the cycle of its latest rise. -/
  see : Bool := true
  seeAt : Nat := 0
  /-- SUMMIT_SEE has been low since the seal (R395, R418). -/
  seenLow : Bool := false
  /-- The unit drives SUMMIT_HOLD_N low. -/
  drive : Bool := false
  claimAt : Nat := 0
  sealAt : Nat := 0
  handAt : Option Nat := none
  /-- The unit has held the Summit since its seal. -/
  held : Bool := false
  /-- Consecutive frames with a retrigger, and the cycle of the latest (R396). -/
  wdogRun : Nat := 0
  wdogAt : Nat := 0
  /-- Frame of the latest retrigger. -/
  wdogFrame : Option Nat := none
  /-- Frame of the latest Isthmus frame sent (R400). -/
  sentFrame : Option Nat := none
  /-- FRAME_WDOG has been raised since the latest retrigger. -/
  wdogFired : Bool := false
  /-- End of pass 1 of the running frame, at which the watchdog is retriggered, where it is still to come (R396). -/
  wdogNext : Option Nat := none
  /-- What the retrigger of the running frame replaced; a miss in that frame takes it back (R396). -/
  wdogPrev : Option WdogSave := none
  healthyAt : Option Nat := none
  selftest : Option Nat := none
  /-- Failures of the engine test vector in consecutive frames (R416). -/
  vecFail : Nat := 0
  /-- Tests of rows 0 to 3 of R416 whose latest result is a failure. -/
  selfBad : BitVec 4 := 0
  clkFail : BitVec 7 := 0
  /-- Isthmus: up, consecutive valid frames, cycle of the latest valid frame (R402). -/
  isUp : Bool := false
  isRun : Nat := 0
  isAt : Nat := 0
  /-- Control frame of the latest valid frame. -/
  isFrame : Nat := 0
  ttMismatch : Bool := false
  /-- 0 OK, 1 BUS_ONLY, 2 LOST (R404). -/
  peer : Nat := 2
  peerHb : Option Nat := none
  /-- Latest valid partner header, and the bytes of the latest partner heartbeat (R404). -/
  peerHdr : List Byte := List.replicate 32 0
  peerBytes : List Byte := List.replicate 8 0
  ownHdr : List Byte := List.replicate 32 0
  isSeq : Nat := 0
  hbSeq : Nat := 0
  hbAt : Option Nat := none
  stale : Bool := false
  /-- A safe-hold takeover waits for its first frame (R412). -/
  safeTake : Bool := false
  inhibit : Bool := false
  mseqSent : Nat := 0
  mseqApplied : Nat := 0
  batchSeq : Nat := 0
  entries : List MirrorEntry := []
  batches : List Batch := []
  /-- Batches sent whose application the partner has not reported, with their deadline start (R409). -/
  unacked : List (Nat × Nat) := []
  lateBatches : List Nat := []
  /-- Segments of the batch being received: its sequence, next index, bytes (R408). -/
  rx : Option (Nat × Nat × List Byte) := none
  /-- Sequence of a batch whose discard has been counted. -/
  rxBad : Option Nat := none
  mirrorSkipped : Nat := 0
  mirrorDiscard : Nat := 0
  lastHseq : Vector Word 48 := Vector.replicate 48 0
  digest : Word := 0
  /-- Frame boundary of the own digest. -/
  digestB : Nat := 0
  digestBad : Nat := 0
  /-- Cycle since which the conditions of R411 hold together. -/
  clearAt : Option Nat := none
  /-- Cycle since which a unit of the pair drives the shared clocks; none while neither holds the Summit (R236). -/
  claimedAt : Option Nat := none
  xMask : BitVec 32 := 0
  xSafe : BitVec 4 := 0
  xCnt : Nat := 0
  hand : Handover := .none
  handTag : Byte := 0
  /-- Handover messages with their tags, each to be carried in a header of its own, in order (R401). -/
  msgs : List (Nat × Byte) := []
  reqAt : Option Nat := none
  /-- Isthmus frames sent, oldest first. -/
  sent : List (List Byte) := []
  /-- Straits whose late handshake has been reported (R15). -/
  straitLate : BitVec 13 := 0
deriving DecidableEq, Repr

/-! ### Recorder, ledger, keeper (R419 to R474) -/

/-- A raised record waiting in the queue (R425): object code, type, payload and the cycle of its raise. A TIME_ANCHOR
takes its payload when it leaves the queue (R56). -/
structure RawRec where
  type : Nat
  source : Nat
  payload : List Byte
  at' : Nat
  /-- The CAIRN_MARK that completes with this record (R312). -/
  hdr : Option Hdr := none
deriving DecidableEq, Repr

/-- CAIRN_STATE (R434). -/
inductive CairnState where
  | running | failed | stopped | scanning
deriving DecidableEq, Repr

structure Cairn where
  st : CairnState := .scanning
  /-- Bytes of the recorder MRAM that are not 0 (R420). -/
  mram : List Host.Cell := []
  /-- SEQ of the next record; CAIRN_HEAD is one less (R421). -/
  next : Nat := 0
  /-- First sequence number written since manufacture; none once the ring is full. -/
  first : Option Nat := some 0
  queue : List RawRec := []
  /-- CAIRN_MARK actions whose queued record gave its place to another of its recorder cycle (R312, R425). -/
  unplaced : List Hdr := []
  qlost : Nat := 0
  gapRun : Nat := 0
  unwritten : Nat := 0
  lateRun : Bool := false
  /-- LOG_LATE has been raised for the ledger commit that is due. -/
  ledLate : Bool := false
  /-- Failing slot and cause of the failure (R435). -/
  failSlot : Nat := 0
  failCause : Nat := 0
  epis : Vector (Option (List Byte)) 16 := Vector.replicate 16 none
  /-- The 292 bytes of each ledger copy (R428). -/
  ledger0 : List Byte := List.replicate 288 0 ++ [0x52, 0x6A, 0xF2, 0xEB]
  ledger1 : List Byte := 1 :: List.replicate 287 0 ++ [0x6B, 0xEC, 0xA1, 0xC7]
  /-- Cycle of the first counter change not yet committed (R429). -/
  dirtyAt : Option Nat := none
  sinceCommit : Nat := 0
  commitOp : Nat := 0
  /-- Records raised since POWER_DOWN (R427). -/
  sincePf : Nat := 0
  pf : Bool := false
  pcc : Nat := 0
  /-- Operating time in ns, counted while the recorder is out of SCANNING (R422). -/
  opNs : Nat := 0
deriving DecidableEq, Repr

/-- Power phases: keeper unpowered, device reset in force, running, asleep. -/
inductive Phase where
  | unpowered | inReset | run | asleep
deriving DecidableEq, Repr

structure Keeper where
  phase : Phase := .inReset
  /-- KP_RESET_CAUSE (R461). -/
  cause : Nat := 1
  wakeSrc : Nat := 0
  wakeCh : Nat := 0
  pfWarn : Bool := false
  sleepRefused : Bool := false
  epi : List Byte := List.replicate 28 0
  epiFail : Bool := false
  /-- Number of the series of VIN_LOG measurements of this power cycle (R458). -/
  vinLog : Nat := 0
  /-- A channel wake of the sleeping device: channel, cause, IDE and identifier of its WAKE record (R474). -/
  wake : Option (ChanId × Nat × Bool × Nat) := none
deriving DecidableEq, Repr

/-- A set-up image slot (R465). -/
structure Image where
  seq : Nat
  boot : Nat
  cfg : Memory
  progs : Vector (Vector (Option Block) 14) 24
  envs : Vector (Option (List Nat) × Option (List Nat)) 8
  valid : Bool
deriving DecidableEq, Repr

structure Images where
  slot0 : Option Image := none
  slot1 : Option Image := none
  /-- IMG_STATUS code and the sequence it shows (R483). -/
  status : Nat := 0
  seq : Nat := 0
  /-- The image being saved (R465). -/
  saving : Option Image := none
  /-- Cycle at which the image load ended, for LOAD_SEAL (R467). -/
  loadedAt : Option Nat := none
  boot : Nat := 0
deriving DecidableEq, Repr

/-- Seal (R468 to R471). -/
structure SealUnit where
  sealed : Bool := false
  /-- An accepted seal waiting for its instant; an accepted unseal waiting for its frame boundary. -/
  sealing : Bool := false
  unsealing : Bool := false
  reqBusy : Bool := false
  result : Nat := 0
  reason : Nat := 0
  index : Nat := 0
  safeCrc : Word := 0
deriving DecidableEq, Repr

/-- An open fault (R442). -/
structure OpenFault where
  code : Nat
  /-- Object code of the fault (R423). -/
  obj : Nat
  /-- Object code the reaction acts on (R439, R446): 0 is the unit. -/
  tgt : Nat
  rank : Nat
deriving DecidableEq, Repr

/-- A source of the event matrix signalled its vector: its number, its cycle and the place of its message on the link (R450). -/
structure Signal where
  src : Nat
  cyc : Nat
  place : Nat
deriving DecidableEq, Repr

/-- A launch trigger fired: for which source, in which cycle, the held actions it took as they were, and TRIG_MISS before it
(R450, R454). -/
structure Firing where
  trig : Fin 8
  src : Nat
  cyc : Nat
  took : List Pend
  miss : Nat
deriving DecidableEq, Repr

/-- Faults raised on one object in one cycle, which are applied as one raise (R444): the object, the object its reaction acts on,
the cycle, the fault codes, the rank in force before them and the highest of their ranks. -/
structure FaultRaise where
  obj : Nat
  tgt : Nat
  cyc : Nat
  codes : List Nat
  before : Nat
  rank : Nat
deriving DecidableEq, Repr

/-- Event matrix and open faults (R439 to R454). -/
structure Events where
  pend : BitVec 256 := 0
  cnt : Vector Nat 256 := Vector.replicate 256 0
  cause : Vector Word 256 := Vector.replicate 256 0
  trigMiss : Vector Nat 8 := Vector.replicate 8 0
  opens : List OpenFault := []
  /-- Sources that signalled their vector in a cycle, the firings of launch triggers and the raises of faults; only those of the
  present cycle count (R444, R450, R454). -/
  signals : List Signal := []
  firings : List Firing := []
  raises : List FaultRaise := []
deriving DecidableEq, Repr

/-- Engine values that belong to no axis (R196, R200). -/
structure EngGlobal where
  load : Nat := 0
  admReason : Nat := 0
  admAxis : Nat := 0
  eccCorr : Nat := 0
deriving DecidableEq, Repr

/-- Everything the block holds but its set-up registers and its queue. -/
structure Dev where
  time : TimeUnit := {}
  sched : Sched := {}
  gate : Gate := {}
  doors : Vector Door 8 := Vector.replicate 8 {}
  axes : Vector Axis 24 := Vector.replicate 24 {}
  fio : FieldIo := {}
  host : HostSide := {}
  reqH : ReqSide := {}
  reqM : ReqSide := {}
  atolls : Vector Atoll 48 := Vector.replicate 48 {}
  caps : Vector Capture 4 := Vector.replicate 4 {}
  chans : Vector Chan 8 := Vector.replicate 8 {}
  parts : Partners := {}
  twin : Twin := {}
  cairn : Cairn := {}
  keeper : Keeper := {}
  img : Images := {}
  su : SealUnit := {}
  evt : Events := {}
  eng : EngGlobal := {}
  /-- Count of fresh free values drawn. -/
  free : Nat := 0
deriving DecidableEq, Repr

/-- The state of the block. The set-up registers stand apart from the rest, because commands read them and only a
register write, a context write, a reset and an image change them. -/
structure State where
  dev : Dev := {}
  /-- Set-up registers and the other registers that only hold what is written, by offset or model key; an unlisted key
  reads as its reset value. -/
  cfg : Memory := []
  /-- Commands waiting, first in first out. -/
  pending : List Instr := []
deriving DecidableEq, Repr

/-- The block right after reset: a device reset of cause POWER_ON is in force and every field holds its reset value. (DESIGN CHOICE: log entries 2, 9) -/
def State.reset : State := {}

end Sys2Proof.Machine
end

