-- ==== Sys2Proof/Machine/Fields.lean ====
section
/-! DEFINITION. The set-up register map as data: sparse canonical maps, the reset value of every register that holds
what is written to it, and one named reader for each set-up field (R477 to R502). -/

namespace Sys2Proof.Machine

/-! ### Sparse maps in canonical form -/

/-- Value of key `k`; an unlisted key reads as the map's default. -/
def NMap.get {β : Type} (d : Nat → β) : List (Nat × β) → Nat → β
  | [], k => d k
  | (a, v) :: r, k => if a = k then v else NMap.get d r k

/-- Value of key `k` replaced by `v`; writing the default removes the entry, so equal maps are equal lists. -/
def NMap.set {β : Type} [DecidableEq β] (d : Nat → β) : List (Nat × β) → Nat → β → List (Nat × β)
  | [], k, v => if v = d k then [] else [(k, v)]
  | (a, u) :: r, k, v =>
    if k < a then (if v = d k then (a, u) :: r else (k, v) :: (a, u) :: r)
    else if a = k then (if v = d k then r else (k, v) :: r)
    else (a, u) :: NMap.set d r k v

/-- Canonical form above a bound: keys strictly rising, no entry equal to its default. -/
def NMap.wfFrom {β : Type} [DecidableEq β] (d : Nat → β) : Option Nat → List (Nat × β) → Bool
  | _, [] => true
  | lo, (a, v) :: r =>
    (match lo with
     | none => true
     | some l => decide (l < a)) && decide (v ≠ d a) && NMap.wfFrom d (some a) r

/-- Canonical form of a map. -/
def NMap.wf {β : Type} [DecidableEq β] (d : Nat → β) (m : List (Nat × β)) : Bool := NMap.wfFrom d none m

/-! ### Reset values -/

/-- Default rank of fault code `c` under R445; 0 for a code that is not catalogued or that a field or its object sets. -/
def faultDefault (c : Nat) : Nat :=
  match c with
  | 0x0001 => 7 | 0x0002 => 2 | 0x0003 => 2 | 0x0004 => 2 | 0x0005 => 2
  | 0x0100 => 2 | 0x0101 => 2 | 0x0102 => 2 | 0x0103 => 2 | 0x0104 => 2 | 0x0105 => 2 | 0x0106 => 2 | 0x0107 => 2
  | 0x0108 => 2
  | 0x0200 => 3 | 0x0201 => 5 | 0x0202 => 3 | 0x0203 => 2 | 0x0204 => 2 | 0x0205 => 5 | 0x0206 => 6 | 0x0207 => 5
  | 0x0208 => 5 | 0x0209 => 5
  | 0x0300 => 2 | 0x0301 => 2 | 0x0302 => 2
  | 0x0400 => 7 | 0x0401 => 7 | 0x0402 => 7 | 0x0403 => 7 | 0x0404 => 2 | 0x0405 => 2 | 0x0406 => 2 | 0x0407 => 6
  | 0x0500 => 2 | 0x0501 => 2 | 0x0502 => 2 | 0x0503 => 2
  | _ => 0

/-- Lowest rank FLT_RANK accepts for code `c` (R445). -/
def faultMin (c : Nat) : Nat :=
  match c with
  | 0x0003 => 1 | 0x0004 => 1 | 0x0103 => 1 | 0x0106 => 1 | 0x0107 => 1 | 0x0108 => 1 | 0x0204 => 1 | 0x0301 => 1
  | 0x0302 => 1 | 0x0406 => 1
  | _ => 2

/-- The codes whose rank FLT_RANK chooses: "Set by" is FLT_RANK in R445. -/
def faultSettable (c : Nat) : Bool :=
  [0x0002, 0x0003, 0x0004, 0x0005, 0x0100, 0x0101, 0x0102, 0x0103, 0x0104, 0x0105, 0x0106, 0x0107, 0x0108, 0x0204,
   0x0300, 0x0301, 0x0302, 0x0404, 0x0405, 0x0406, 0x0500, 0x0501, 0x0502, 0x0503].contains c

/-- The fault code whose rank lies in nibble `m` of word `w` of the FLT_RANK array (R486). -/
def rankCode (w m : Nat) : Nat := w / 2 * 256 + w % 2 * 8 + m

/-- FLT_RANK word `w` after reset: the defaults of the codes it addresses. A nibble whose rank FLT_RANK does not set is
stored as 0 and read through R487. -/
def rankResetWord (w : Nat) : Word :=
  (List.range 8).foldl (fun acc m =>
    if faultSettable (rankCode w m) then acc ||| BitVec.ofNat 32 (faultDefault (rankCode w m) * 16 ^ m) else acc) 0

/-- Reset word at offset `o` within a doorway block (R491). -/
def dwReset (o : Nat) : Word :=
  match o with
  | 0x20 => 0x700#32 | 0x24 => 0x1F1F1F1F#32 | 0x28 => 0x7F7F7F7F#32 | 0x2C => 0x7F7F7F7F#32
  | 0x30 => 0x007F7F7F#32 | 0x34 => 0x7F7F7F7F#32 | 0x38 => 0x210#32
  | 0x3C => 0x01F40064#32 | 0x40 => 0x07D001F4#32 | 0x44 => 0x1F401770#32 | 0x48 => 0x012C012C#32
  | 0x4C => 0x00050000#32 | 0x50 => 0x0803000A#32 | 0x58 => 1000#32 | 0x5C => 1000#32
  | _ => 0#32

/-- Reset word at offset `o` within an axis block of R493. -/
def axReset (o : Nat) : Word :=
  match o with
  | 0x50 => 0x00080004#32 | 0x5C => 0x7F7F#32 | 0x60 => 0x192#32
  | _ => 0#32

/-- Reset value of element `i` of a profile set (R494). -/
def profReset (i : Nat) : Word :=
  match i with
  | 0 => 100#32 | 1 => 1000#32 | 2 => 1000#32 | 3 => 100#32
  | 4 => 10000#32 | 5 => 10000#32 | 6 => 10000#32 | 7 => 10000#32
  | _ => 0#32

/-- Reset word at offset `o` within an engine block of R495. -/
def engReset (o : Nat) : Word :=
  match o with
  | 0x00 => 0x1C28#32 | 0x0C => 0x799A799A#32 | 0x10 => 0x00C80040#32 | 0x14 => 16#32
  | 0x1C => 0x20000000#32 | 0x20 => 1000#32 | 0x28 => 5000#32
  | _ => 0#32

/-- Reset word at offset `o` within a port block of R496. -/
def portReset (o : Nat) : Word :=
  match o with
  | 0x00 => 0x09C402A8#32 | 0x04 => 0x00280064#32 | 0x08 => 0x000640A0#32 | 0x0C => 0x027FFFFF#32
  | 0x10 => 0x00030050#32 | 0x14 => 0x0A00C8D9#32 | 0x18 => 65536#32 | 0x1C => 0x00640002#32 | 0x2C => 8#32
  | _ => 0#32

/-- Reset word at offset `o` within a channel block of R498. -/
def chReset (o : Nat) : Word :=
  if o < 0x280 then
    match o with
    | 0x000 => 0x4152#32 | 0x004 => 0x10101FC1#32 | 0x008 => 0x01E529D1#32 | 0x00C => 0x00010602#32
    | 0x010 => 16#32 | 0x014 => 1000#32 | 0x018 => 5#32 | 0x034 => 0xC821#32 | 0x040 => 0x30#32
    | _ => 0#32
  else if o < 0x300 then
    match o % 16 with
    | 0 => 2#32 | 4 => 0x10101FC1#32 | 8 => 0x01E529D1#32
    | _ => 0#32
  else 0#32

/-- First model key of the windowed objects: profile sets, router rules, mapper rules. Offsets of BAR0 lie below. -/
def profKey (a s i : Nat) : Nat := 0x10000 + 64 * a + 16 * s + i
/-- Model key of word `j` of router rule `r` (0xA604 to 0xA614). -/
def rtKey (r j : Nat) : Nat := 0x11000 + 8 * r + j
/-- Model key of word `j` of mapper rule `r` (0xA644 to 0xA654). -/
def mapKey (r j : Nat) : Nat := 0x12000 + 8 * r + j

/-- Reset value of every register and windowed word that holds what is written (the Reset columns of R483 to R502). -/
def cfgReset (k : Nat) : Word :=
  if k < 0x0C00 then
    match k with
    | 0x0030 => 1000#32 | 0x0820 => 0x003C6402#32 | 0x0824 => 60#32
    | _ => 0#32
  else if k < 0x0E00 then 0x0F7F0F7F#32
  else if k < 0x0F00 then 0#32
  else if k < 0x1000 then rankResetWord ((k - 0x0F00) / 4)
  else if k < 0x2000 then 0#32
  else if k < 0x2600 then
    match k % 32 with
    | 0x00 => 0x08000000#32 | 0x14 => 1000#32 | 0x18 => 1#32
    | _ => 0#32
  else if k < 0x3000 then 0#32
  else if k < 0x3800 then dwReset (k % 0x100)
  else if k < 0x4000 then
    match k with
    | 0x3804 => 0x00320032#32 | 0x3808 => 0x00320032#32 | 0x381C => 0x02020202#32 | 0x3820 => 0x02020202#32
    | 0x3828 => 99#32
    | _ => 0#32
  else if k < 0x4C00 then axReset (k % 0x80)
  else if k < 0x4D00 then 0#32
  else if k < 0x4E80 then
    match k % 16 with
    | 0 => 0x00010000#32 | 4 => 100#32
    | _ => 0#32
  else if k < 0x5100 then 0#32
  else if k < 0x5D00 then engReset (k % 0x80)
  else if k < 0x6000 then 0#32
  else if k < 0x6C00 then portReset (k % 0x80)
  else if k < 0x7000 then 0#32
  else if k < 0x8000 then
    if k = 0x7000 then 0x271D1309#32
    else if k = 0x7004 then 0x4F453B31#32
    else if 0x7010 ≤ k ∧ k < 0x7050 then 0x03030303#32
    else if k = 0x7060 ∨ k = 0x7064 then 0x24242424#32
    else if 0x7068 ≤ k ∧ k < 0x7090 then 0x0A0A0A0A#32
    else 0#32
  else if k < 0xA000 then chReset (k % 0x400)
  else if k < 0xA100 then
    if k % 32 = 0 then BitVec.ofNat 32 (0x00080800 + (k - 0xA000) / 32 * 2) else 0#32
  else if k < 0xA500 then
    match k % 32 with
    | 4 => 0x00330190#32 | 16 => 60#32
    | _ => 0#32
  else if k < 0xA800 then 0#32
  else if k < 0xB000 then
    match k with
    | 0xA800 => 0x0028050F#32 | 0xA808 => 1000#32 | 0xA80C => 60#32 | 0xA810 => 1000#32
    | _ => 0#32
  else if k = 0xB080 then 0xF#32
  else if k < 0x10000 then 0#32
  else if k < 0x11000 then profReset (k % 16)
  else if k < 0x12000 then
    match k % 8 with
    | 0 => 0xFF000080#32 | 4 => 10000#32
    | _ => 0#32
  else
    match k % 8 with
    | 0 => 0x1F0#32 | 4 => 1000#32
    | _ => 0#32

/-- The word a set-up register or windowed word holds. -/
def Memory.word (K : Memory) (k : Nat) : Word := NMap.get cfgReset K k
/-- The set-up memory in canonical form. -/
def Memory.wf (K : Memory) : Bool := NMap.wf cfgReset K
/-- A register write into the set-up memory. -/
def Memory.put (K : Memory) (k : Nat) (v : Word) : Memory := NMap.set cfgReset K k v

/-- Bits [lo + n − 1 : lo] of the word at `k`, as a number. -/
def Memory.bits (K : Memory) (k lo n : Nat) : Nat := (K.word k).toNat / 2 ^ lo % 2 ^ n
/-- Bit `lo` of the word at `k`. -/
def Memory.bit (K : Memory) (k lo : Nat) : Bool := (K.word k).toNat.testBit lo
/-- Byte `i` of a byte array that starts at offset `k` (R497). -/
def Memory.byteOf (K : Memory) (k i : Nat) : Nat := K.bits (k + i / 4 * 4) (i % 4 * 8) 8

/-- The two's complement value of the low `n` bits of `v`. -/
def sext (n v : Nat) : Int := if v % 2 ^ n < 2 ^ (n - 1) then ((v % 2 ^ n : Nat) : Int) else (v % 2 ^ n : Nat) - 2 ^ n
/-- A value reduced to `n` bits of two's complement, as a natural number. -/
def unsx (n : Nat) (v : Int) : Nat := (v % 2 ^ n).toNat
/-- A 48-bit position kept as a _LO/_HI pair at `k` (R480). -/
def Memory.pos48 (K : Memory) (k : Nat) : Int := sext 48 ((K.word k).toNat + K.bits (k + 4) 0 16 * 2 ^ 32)
/-- A 64-bit value kept as a _LO/_HI pair at `k`. -/
def Memory.pair64 (K : Memory) (k : Nat) : Nat := (K.word k).toNat + (K.word (k + 4)).toNat * 2 ^ 32

/-- The index `v` names among `n` objects, or none. -/
def finOf (n v : Nat) : Option (Fin n) := if h : v < n then some ⟨v, h⟩ else none

/-! ### Global, time, events -/

def Memory.hostFetchDl (K : Memory) : Nat := K.bits 0x0030 0 14
def Memory.imgBoot (K : Memory) : Nat := K.bits 0x0044 0 2
def Memory.ttSet (K : Memory) : Nat := K.pair64 0x0810
def Memory.servoTc (K : Memory) : Nat := K.bits 0x0820 0 5
def Memory.slewLimit (K : Memory) : Nat := K.bits 0x0820 8 7
def Memory.holdoverLim (K : Memory) : Nat := K.bits 0x0820 16 12
def Memory.anchorInt (K : Memory) : Nat := K.bits 0x0824 0 11
/-- EVT_ROUTE half-word fields of source `e` (R486). -/
def Memory.evtVec (K : Memory) (e : Nat) : Option (Fin 64) := finOf 64 (K.bits (0x0C00 + e / 2 * 4) (e % 2 * 16) 7)
def Memory.evtCairn (K : Memory) (e : Nat) : Bool := K.bit (0x0C00 + e / 2 * 4) (e % 2 * 16 + 7)
def Memory.evtTrig (K : Memory) (e : Nat) : Option (Fin 8) := finOf 8 (K.bits (0x0C00 + e / 2 * 4) (e % 2 * 16 + 8) 4)
def Memory.trigAtoll (K : Memory) (k : Nat) : Nat := K.bits (0x0E40 + 8 * k) 0 6
def Memory.trigAll (K : Memory) (k : Nat) : Bool := K.bit (0x0E40 + 8 * k) 8
/-- TRIG_DELAY in ns. -/
def Memory.trigDelay (K : Memory) (k : Nat) : Nat := 5 * K.bits (0x0E44 + 8 * k) 0 28

/-! ### Atolls and translation -/

def atlBase (n : Nat) : Nat := 0x2000 + 32 * n
def Memory.atlType (K : Memory) (n : Nat) : Nat := K.bits (atlBase n) 0 3
def Memory.atlPrio (K : Memory) (n : Nat) : Nat := K.bits (atlBase n) 4 3
def Memory.atlVec (K : Memory) (n : Nat) : Nat := K.bits (atlBase n) 8 6
def Memory.atlCq (K : Memory) (n : Nat) : Nat := K.bits (atlBase n) 16 6
/-- Entries of the ring. -/
def Memory.atlSize (K : Memory) (n : Nat) : Nat := 2 ^ K.bits (atlBase n) 24 4
def Memory.atlAddr (K : Memory) (n : Nat) : Nat := K.pair64 (atlBase n + 4)
def Memory.atlWb (K : Memory) (n : Nat) : Nat := K.pair64 (atlBase n + 0x0C)
/-- ATL_SLACK in ns. -/
def Memory.atlSlack (K : Memory) (n : Nat) : Nat := 1000 * K.bits (atlBase n + 0x14) 0 20
def Memory.atlModCnt (K : Memory) (n : Nat) : Nat := K.bits (atlBase n + 0x18) 0 9
/-- ATL_MOD_TIME in µs. -/
def Memory.atlModTime (K : Memory) (n : Nat) : Nat := K.bits (atlBase n + 0x18) 16 10
def Memory.tuRoot (K : Memory) : Nat := K.pair64 0x2800

/-! ### Doorways (R491) -/

def dwBase (d : Nat) : Nat := 0x3000 + 0x100 * d
def Memory.dwEn (K : Memory) (d : Nat) : Bool := K.bit (dwBase d + 0x20) 0
/-- True for car side 2. -/
def Memory.dwSide (K : Memory) (d : Nat) : Bool := K.bit (dwBase d + 0x20) 1
/-- True for SOLENOID. -/
def Memory.lockSol (K : Memory) (d : Nat) : Bool := K.bit (dwBase d + 0x20) 2
def Memory.stepMode (K : Memory) (d : Nat) : Nat := K.bits (dwBase d + 0x20) 3 2
/-- RELEASE_LOSS: true for HOLD. -/
def Memory.releaseHold (K : Memory) (d : Nat) : Bool := K.bit (dwBase d + 0x20) 5
def Memory.btnAuto (K : Memory) (d : Nat) : Bool := K.bit (dwBase d + 0x20) 6
def Memory.closeBtnEn (K : Memory) (d : Nat) : Bool := K.bit (dwBase d + 0x20) 7
def Memory.tonePulsed (K : Memory) (d : Nat) : Bool := K.bit (dwBase d + 0x20) 8
def Memory.forceDetEn (K : Memory) (d : Nat) : Bool := K.bit (dwBase d + 0x20) 9
def Memory.predEn (K : Memory) (d : Nat) : Bool := K.bit (dwBase d + 0x20) 10
/-- OBST_STOP: true for FREEZE. -/
def Memory.obstFreeze (K : Memory) (d : Nat) : Bool := K.bit (dwBase d + 0x20) 11
/-- REACT_MAIN and REACT_FINAL: true for HOLD. -/
def Memory.reactMainHold (K : Memory) (d : Nat) : Bool := K.bit (dwBase d + 0x20) 12
def Memory.reactFinalHold (K : Memory) (d : Nat) : Bool := K.bit (dwBase d + 0x20) 13
def Memory.creepRetry (K : Memory) (d : Nat) : Bool := K.bit (dwBase d + 0x20) 14
/-- EDGE_UNKNOWN: true for IGNORE. -/
def Memory.edgeIgnore (K : Memory) (d : Nat) : Bool := K.bit (dwBase d + 0x20) 15
def Memory.obstOpen (K : Memory) (d : Nat) : Bool := K.bit (dwBase d + 0x20) 16
/-- OPEN_DIR of leaf 1, leaf 2, step, lock (0 to 3): true is count-negative. -/
def Memory.openNeg (K : Memory) (d i : Nat) : Bool := K.bit (dwBase d + 0x20) (20 + i)
/-- Role axis 0 LEAF_AX0, 1 LEAF_AX1, 2 STEP_AX, 3 LOCK_AX. -/
def Memory.roleAx (K : Memory) (d i : Nat) : Option AxisId := finOf 24 (K.bits (dwBase d + 0x24) (8 * i) 5)
/-- Input role byte `i` counted from word +0x28: OPEN_BTN_I, OPEN_BTN_O, CLOSE_BTN, EDGE_IN, OBST_IN, EGRESS_IN, ISOL_IN,
CLOSED_IN, LOCKED_IN, STEPOUT_IN, STEPIN_IN. -/
def Memory.roleIn (K : Memory) (d i : Nat) : Option InId := finOf 64 (K.byteOf (dwBase d + 0x28) i % 128)
/-- POL of an input role: true when the role is active low. -/
def Memory.roleInLow (K : Memory) (d i : Nat) : Bool := (K.byteOf (dwBase d + 0x28) i).testBit 7
/-- Output role 0 UNLOCK_OUT, 1 OPEN_LAMP, 2 WARN_LAMP, 3 TONE. -/
def Memory.roleOut (K : Memory) (d i : Nat) : Option OutId := finOf 32 (K.byteOf (dwBase d + 0x34) i % 128)
/-- PROF_OPEN 0, PROF_CLOSE 1, PROF_REOPEN 2. -/
def Memory.dwProf (K : Memory) (d i : Nat) : Fin 4 := ⟨K.bits (dwBase d + 0x38) (4 * i) 2 % 4, Nat.mod_lt _ (by decide)⟩
def Memory.tSol (K : Memory) (d : Nat) : Nat := K.bits (dwBase d + 0x3C) 0 10
def Memory.tUnlockMax (K : Memory) (d : Nat) : Nat := K.bits (dwBase d + 0x3C) 16 13
def Memory.tLockMax (K : Memory) (d : Nat) : Nat := K.bits (dwBase d + 0x40) 0 13
def Memory.tStepMax (K : Memory) (d : Nat) : Nat := K.bits (dwBase d + 0x40) 16 14
def Memory.tOpenMax (K : Memory) (d : Nat) : Nat := K.bits (dwBase d + 0x44) 0 15
def Memory.tCloseMax (K : Memory) (d : Nat) : Nat := K.bits (dwBase d + 0x44) 16 15
def Memory.tClosedSw (K : Memory) (d : Nat) : Nat := K.bits (dwBase d + 0x48) 0 11
/-- T_WARN in ms. -/
def Memory.tWarn (K : Memory) (d : Nat) : Nat := 10 * K.bits (dwBase d + 0x48) 16 10
/-- T_DWELL in s. -/
def Memory.tDwell (K : Memory) (d : Nat) : Nat := K.bits (dwBase d + 0x4C) 0 10
/-- T_OBST_HOLD in s. -/
def Memory.tObstHold (K : Memory) (d : Nat) : Nat := K.bits (dwBase d + 0x4C) 16 6
/-- T_START in ms. -/
def Memory.tStart (K : Memory) (d : Nat) : Nat := K.bits (dwBase d + 0x4C) 24 7
def Memory.envShift (K : Memory) (d : Nat) : Nat := K.bits (dwBase d + 0x50) 0 5
def Memory.reactSplit (K : Memory) (d : Nat) : Nat := K.bits (dwBase d + 0x50) 8 7
def Memory.maxReopen (K : Memory) (d : Nat) : Nat := K.bits (dwBase d + 0x50) 16 4
def Memory.predHold (K : Memory) (d : Nat) : Nat := K.bits (dwBase d + 0x50) 24 8
def Memory.startCeil (K : Memory) (d : Nat) : Nat := K.bits (dwBase d + 0x54) 0 15
def Memory.predMargin (K : Memory) (d : Nat) : Nat := K.bits (dwBase d + 0x54) 16 8
def Memory.predSpeed (K : Memory) (d : Nat) (closing : Bool) : Nat :=
  (K.word (dwBase d + (if closing then 0x5C else 0x58))).toNat
def Memory.reopenDist (K : Memory) (d : Nat) : Nat := K.bits (dwBase d + 0x60) 0 31
def Memory.reliefDist (K : Memory) (d : Nat) : Nat := K.bits (dwBase d + 0x64) 0 16
/-- Position `i` of R65 in the order of R491: OPEN_POS and CLOSED_POS of leaf 1, of leaf 2, STEP_OUT_POS, STEP_HOME_POS,
LOCK_POS, UNLOCK_POS, STEP_RETRACT_POS. -/
def Memory.dwPos (K : Memory) (d i : Nat) : Int := K.pos48 (dwBase d + 0x80 + 8 * i)
/-- Role axis `i` of a doorway; LOCK_AX is no role while LOCK_MODE is SOLENOID (R59). -/
def Memory.doorAx (K : Memory) (d i : Nat) : Option AxisId := if i = 3 ∧ K.lockSol d = true then none else K.roleAx d i
/-- Leaf axes of a doorway, with their role number. -/
def Memory.leaves (K : Memory) (d : Nat) : List (Nat × AxisId) :=
  (List.range 2).filterMap (fun i => (K.doorAx d i).map (fun a => (i, a)))
/-- Every axis of a doorway, with its role number. -/
def Memory.doorAxes (K : Memory) (d : Nat) : List (Nat × AxisId) :=
  (List.range 4).filterMap (fun i => (K.doorAx d i).map (fun a => (i, a)))
/-- STEP_MODE, which acts as NONE without a step axis (R76): 0 NONE, 1 BEFORE, 2 PARALLEL. -/
def Memory.stepAct (K : Memory) (d : Nat) : Nat := if (K.doorAx d 2).isSome then K.stepMode d else 0
/-- Input role of a doorway; the step switches are no roles without a step axis (R59). -/
def Memory.doorIn (K : Memory) (d i : Nat) : Option InId :=
  if (i = 9 ∨ i = 10) ∧ (K.doorAx d 2).isNone = true then none else K.roleIn d i
/-- Output role of a doorway; UNLOCK_OUT is no role while LOCK_MODE is AXIS (R59). -/
def Memory.doorOut (K : Memory) (d i : Nat) : Option OutId := if i = 0 ∧ K.lockSol d = false then none else K.roleOut d i
/-- The enabled doorway that owns axis `a` (R60), with the role 0 to 3 the axis has in it. -/
def Memory.owner (K : Memory) (a : AxisId) : Option (DoorId × Nat) :=
  ((List.finRange 8).flatMap (fun (d : DoorId) => (List.range 4).filterMap (fun i =>
    if K.dwEn d.val && decide (K.doorAx d.val i = some a) then some (d, i) else none))).head?

/-! ### Safety block (R492) -/

/-- PAIR_MODE: true for ANTIVALENT. -/
def Memory.pairAnti (K : Memory) (p : Nat) : Bool := K.bit 0x3800 p
def Memory.zs2En (K : Memory) : Bool := K.bit 0x3800 4
def Memory.loopEn (K : Memory) (side : Nat) : Bool := K.bit 0x3800 (8 + side)
/-- DISC_TIME of pair `p`, in ms. -/
def Memory.discTime (K : Memory) (p : Nat) : Nat := K.bits (0x3804 + 4 * (p / 2)) (16 * (p % 2)) 9
def Memory.sinCeil (K : Memory) (j : Nat) : Nat := K.byteOf 0x381C j
def Memory.sinEdge (K : Memory) (j : Nat) : Nat := K.bits 0x3824 (2 * j) 2
def Memory.safePhase (K : Memory) : Nat := K.bits 0x3828 0 7

/-! ### Axes (R493 to R495) -/

def axBase (a : Nat) : Nat := 0x4000 + 0x80 * a
def Memory.stillWindow (K : Memory) (a : Nat) : Nat := K.bits (axBase a + 0x50) 0 16
def Memory.stillTime (K : Memory) (a : Nat) : Nat := K.bits (axBase a + 0x50) 16 8
def Memory.creepEdge (K : Memory) (a : Nat) : Int := K.pos48 (axBase a + 0x54)
/-- LIM_POS_IN (false) and LIM_NEG_IN (true). -/
def Memory.limIn (K : Memory) (a : Nat) (neg : Bool) : Option InId :=
  finOf 64 (K.bits (axBase a + 0x5C) (if neg then 8 else 0) 7)
def Memory.limLow (K : Memory) (a : Nat) (neg : Bool) : Bool := K.bit (axBase a + 0x5C) (if neg then 15 else 7)
def Memory.limHard (K : Memory) (a : Nat) : Bool := K.bit (axBase a + 0x5C) 16
def Memory.limCoilOff (K : Memory) (a : Nat) : Bool := K.bit (axBase a + 0x5C) 17
/-- CREEP_SIDE: true for NEG. -/
def Memory.creepNeg (K : Memory) (a : Nat) : Bool := K.bit (axBase a + 0x5C) 18
/-- Coil mode code of position state `i` in the order of R147. -/
def Memory.coilMode (K : Memory) (a i : Nat) : Nat := K.bits (axBase a + 0x60) (2 * i) 2
def Memory.cpi (K : Memory) (a : Nat) : Nat := (K.word (axBase a + 0x74)).toNat
def Memory.idxTol (K : Memory) (a : Nat) : Nat := K.bits (axBase a + 0x78) 0 8
def Memory.idxCorrect (K : Memory) (a : Nat) : Bool := K.bit (axBase a + 0x78) 8
/-- One sealed profile set of R115. -/
def Memory.profSet (K : Memory) (a s : Nat) : ProfSet :=
  let f := fun i => (K.word (profKey a s i)).toNat
  { vStart := f 0, vBreak := f 1, vRidge := f 2, vStop := f 3, a1 := f 4, a2 := f 5, d2 := f 6, d1 := f 7,
    vCreep := f 8, vBlend := f 9 }
def folBase (a : Nat) : Nat := 0x4D00 + 16 * a
def Memory.followEn (K : Memory) (a : Nat) : Bool := K.bit (folBase a) 0
def Memory.followPort (K : Memory) (a : Nat) : AxisId := ⟨K.bits (folBase a) 8 5 % 24, Nat.mod_lt _ (by decide)⟩
def Memory.followRatio (K : Memory) (a : Nat) : Nat := K.bits (folBase a) 16 9
/-- FOLLOW_MAXGAP in 0.1 ms. -/
def Memory.followMaxGap (K : Memory) (a : Nat) : Nat := K.bits (folBase a + 4) 0 10

def engBase (a : Nat) : Nat := 0x5100 + 0x80 * a
/-- AX_KIND: 0 NONE, 1 SERVO, 2 STEPPER. -/
def Memory.axKind (K : Memory) (a : Nat) : Nat := K.bits (engBase a) 0 2
def Memory.elecPort (K : Memory) (a : Nat) : Bool := K.bit (engBase a) 2
def Memory.elecAdv (K : Memory) (a : Nat) : Bool := K.bit (engBase a) 3
def Memory.lateLimit (K : Memory) (a : Nat) : Nat := K.bits (engBase a) 4 3
def Memory.lateShorted (K : Memory) (a : Nat) : Bool := K.bit (engBase a) 7
def Memory.testEn (K : Memory) (a : Nat) : Bool := K.bit (engBase a) 8
def Memory.feReact (K : Memory) (a : Nat) : Nat := K.bits (engBase a) 9 2
def Memory.hoRow (K : Memory) (a : Nat) : Nat := K.bits (engBase a) 11 2
def Memory.periodCode (K : Memory) (a : Nat) : Nat := K.bits (engBase a) 13 2
/-- Axis period in ns. -/
def Memory.period (K : Memory) (a : Nat) : Nat := 25000 * 2 ^ K.periodCode a
def Memory.elecPerCount (K : Memory) (a : Nat) : Nat := (K.word (engBase a + 4)).toNat
def Memory.elecZero (K : Memory) (a : Nat) : Nat := K.bits (engBase a + 8) 0 16
def Memory.uLim (K : Memory) (a : Nat) : Nat := K.bits (engBase a + 0x0C) 0 15
def Memory.uLimFinal (K : Memory) (a : Nat) : Nat := K.bits (engBase a + 0x0C) 16 15
def Memory.manSlew (K : Memory) (a : Nat) : Nat := K.bits (engBase a + 0x10) 0 15
def Memory.manWdog (K : Memory) (a : Nat) : Nat := K.bits (engBase a + 0x10) 16 10
def Memory.hoFade (K : Memory) (a : Nat) : Nat := K.bits (engBase a + 0x14) 0 8
def Memory.manFgainExp (K : Memory) (a : Nat) : Int := sext 8 (K.bits (engBase a + 0x18) 24 8)
def Memory.manFgainMan (K : Memory) (a : Nat) : Int := sext 24 (K.bits (engBase a + 0x18) 0 24)
def Memory.hoZlim (K : Memory) (a : Nat) : Nat := K.bits (engBase a + 0x1C) 0 31
def Memory.feLim (K : Memory) (a : Nat) : Nat := K.bits (engBase a + 0x20) 0 31
def Memory.feWarn (K : Memory) (a : Nat) : Nat := K.bits (engBase a + 0x24) 0 31
/-- FE_TIME in 0.1 ms. -/
def Memory.feTime (K : Memory) (a : Nat) : Nat := K.bits (engBase a + 0x28) 0 16

/-! ### Axis ports (R496) -/

def portBase (a : Nat) : Nat := 0x6000 + 0x80 * a
def Memory.pwmSine (K : Memory) (a : Nat) : Bool := K.bit (portBase a) 0
def Memory.dither (K : Memory) (a : Nat) : Nat := K.bits (portBase a) 1 2
def Memory.fltEn (K : Memory) (a : Nat) : Bool := K.bit (portBase a) 5
def Memory.fltFilt (K : Memory) (a : Nat) : Nat := K.bits (portBase a) 6 5
def Memory.carN (K : Memory) (a : Nat) : Nat := K.bits (portBase a) 16 14
def Memory.deadTime (K : Memory) (a : Nat) : Nat := K.bits (portBase a + 4) 0 9
def Memory.minPulse (K : Memory) (a : Nat) : Nat := K.bits (portBase a + 4) 16 9
/-- SD_MODE: true for MANCHESTER. -/
def Memory.sdManch (K : Memory) (a : Nat) : Bool := K.bit (portBase a + 8) 0
def Memory.sdEn (K : Memory) (a i : Nat) : Bool := K.bit (portBase a + 8) (1 + i)
def Memory.sdDiv (K : Memory) (a : Nat) : Nat := K.bits (portBase a + 8) 4 6
def Memory.sdOsr (K : Memory) (a : Nat) : Nat := K.bits (portBase a + 8) 12 9
def Memory.sdSkew (K : Memory) (a : Nat) : Nat := K.bits (portBase a + 8) 24 5
def Memory.ocLim (K : Memory) (a : Nat) : Nat := K.bits (portBase a + 0x0C) 0 23
def Memory.ocCnt (K : Memory) (a : Nat) : Nat := K.bits (portBase a + 0x0C) 24 5
def Memory.fbMode (K : Memory) (a : Nat) : Nat := K.bits (portBase a + 0x10) 0 3
def Memory.fbFilt (K : Memory) (a : Nat) : Nat := K.bits (portBase a + 0x10) 4 5
def Memory.fbDir (K : Memory) (a : Nat) : Bool := K.bit (portBase a + 0x10) 9
def Memory.idxGate (K : Memory) (a : Nat) : Bool := K.bit (portBase a + 0x10) 10
def Memory.fbErrLimit (K : Memory) (a : Nat) : Nat := K.bits (portBase a + 0x10) 16 5
def Memory.ssiBits (K : Memory) (a : Nat) : Nat := K.bits (portBase a + 0x14) 0 6
def Memory.ssiGray (K : Memory) (a : Nat) : Bool := K.bit (portBase a + 0x14) 6
def Memory.ssiTrail (K : Memory) (a : Nat) : Bool := K.bit (portBase a + 0x14) 7
def Memory.ssiDiv (K : Memory) (a : Nat) : Nat := K.bits (portBase a + 0x14) 8 13
def Memory.ssiLead (K : Memory) (a : Nat) : Nat := K.bits (portBase a + 0x14) 24 5
def Memory.ssiMaxd (K : Memory) (a : Nat) : Nat := K.bits (portBase a + 0x18) 0 31
def Memory.hallFilt (K : Memory) (a : Nat) : Nat := K.bits (portBase a + 0x1C) 0 6
def Memory.hallInterp (K : Memory) (a : Nat) : Bool := K.bit (portBase a + 0x1C) 6
def Memory.hallMaxGap (K : Memory) (a : Nat) : Nat := K.bits (portBase a + 0x1C) 16 10
/-- HALL_ANG of state `h`, 1 to 6. -/
def Memory.hallAng (K : Memory) (a h : Nat) : Nat := K.bits (portBase a + 0x20 + (h - 1) / 2 * 4) ((h - 1) % 2 * 16) 16
def Memory.mstepRes (K : Memory) (a : Nat) : Nat := K.bits (portBase a + 0x2C) 0 4
def Memory.stepAmpRun (K : Memory) (a : Nat) : Nat := K.bits (portBase a + 0x2C) 16 12
def Memory.stepAmpHold (K : Memory) (a : Nat) : Nat := K.bits (portBase a + 0x30) 0 12

/-! ### Field I/O (R497) -/

def Memory.grpPhase (K : Memory) (g : Nat) : Nat := K.byteOf 0x7000 g
def Memory.inCeil (K : Memory) (i : Nat) : Nat := K.byteOf 0x7010 i
def Memory.inEdge (K : Memory) (i : Nat) : Nat := K.bits (0x7050 + i / 16 * 4) (2 * (i % 16)) 2
/-- SAG_THR in 0.1 V. -/
def Memory.sagThr (K : Memory) (g : Nat) : Nat := 5 * K.byteOf 0x7060 g
/-- SUP_FILT in ms. -/
def Memory.supFilt (K : Memory) (g : Nat) : Nat := K.byteOf 0x7068 g
/-- OVL_TIME in ms. -/
def Memory.ovlTime (K : Memory) (o : Nat) : Nat := K.byteOf 0x7070 o
def Memory.olEn (K : Memory) (o : Nat) : Bool := K.bit 0x7090 o

/-! ### Bus channels (R498) -/

def chBase (c : Nat) : Nat := 0x8000 + 0x400 * c
def Memory.chEn (K : Memory) (c : Nat) : Bool := K.bit (chBase c) 0
/-- FMT_EN of format 0 CC, 1 FD, 2 XL; CC always reads 1. -/
def Memory.fmtEn (K : Memory) (c : Nat) (f : Fmt) : Bool :=
  match f with
  | .cc => true
  | .fd => K.bit (chBase c) 2
  | .xl => K.bit (chBase c) 3
def Memory.xlTms (K : Memory) (c : Nat) : Bool := K.bit (chBase c) 5
def Memory.pwmShort (K : Memory) (c : Nat) : Nat := K.bits (chBase c + 0x0C) 0 6
def Memory.pwmLong (K : Memory) (c : Nat) : Nat := K.bits (chBase c + 0x0C) 8 6
def Memory.pwmOffset (K : Memory) (c : Nat) : Nat := K.bits (chBase c + 0x0C) 16 6
def Memory.rxdFilt (K : Memory) (c : Nat) : Nat := K.bits (chBase c) 8 2
def Memory.pexEn (K : Memory) (c : Nat) : Bool := K.bit (chBase c) 6
def Memory.listenOnly (K : Memory) (c : Nat) : Bool := K.bit (chBase c) 7
def Memory.rxOwn (K : Memory) (c : Nat) : Bool := K.bit (chBase c) 10
def Memory.filtDrop (K : Memory) (c : Nat) : Bool := K.bit (chBase c) 11
def Memory.rateAuto (K : Memory) (c : Nat) : Bool := K.bit (chBase c) 12
def Memory.boffAuto (K : Memory) (c : Nat) : Bool := K.bit (chBase c) 13
def Memory.stbPol (K : Memory) (c : Nat) : Bool := K.bit (chBase c) 14
def Memory.wakeMode (K : Memory) (c : Nat) : Nat := K.bits (chBase c) 16 2
def Memory.wakeIde (K : Memory) (c : Nat) : Bool := K.bit (chBase c) 18
def Memory.txRetryDef (K : Memory) (c : Nat) : Nat := K.bits (chBase c + 0x10) 0 8
def Memory.boffDelay (K : Memory) (c : Nat) : Nat := K.bits (chBase c + 0x14) 0 16
def Memory.wakeDom (K : Memory) (c : Nat) : Nat := K.bits (chBase c + 0x18) 0 8
def Memory.wakeDlc (K : Memory) (c : Nat) : Nat := K.bits (chBase c + 0x18) 8 4
def Memory.wakeId (K : Memory) (c : Nat) : Nat := K.bits (chBase c + 0x1C) 0 29
def Memory.wakeIdMask (K : Memory) (c : Nat) : Nat := K.bits (chBase c + 0x20) 0 29
def Memory.wakeData (K : Memory) (c : Nat) : Nat := K.pair64 (chBase c + 0x24)
def Memory.wakeDMask (K : Memory) (c : Nat) : Nat := K.pair64 (chBase c + 0x2C)
def Memory.rateNcand (K : Memory) (c : Nat) : Nat := K.bits (chBase c + 0x34) 0 4
def Memory.rateConfirm (K : Memory) (c : Nat) : Nat := K.bits (chBase c + 0x34) 4 4
def Memory.rateDwell (K : Memory) (c : Nat) : Nat := K.bits (chBase c + 0x34) 8 14
def Memory.rateTimeout (K : Memory) (c : Nat) : Nat := K.bits (chBase c + 0x34) 22 10
def Memory.timeRole (K : Memory) (c : Nat) : Nat := K.bits (chBase c + 0x40) 0 2
def Memory.sourceRank (K : Memory) (c : Nat) : Bool := K.bit (chBase c + 0x40) 2
def Memory.syncIde (K : Memory) (c : Nat) : Bool := K.bit (chBase c + 0x40) 3
/-- Sync interval in ns (R37). -/
def Memory.syncInterval (K : Memory) (c : Nat) : Nat :=
  match K.bits (chBase c + 0x40) 4 3 with
  | 0 => 10000000 | 1 => 25000000 | 2 => 50000000 | 3 => 100000000 | 4 => 125000000 | 5 => 250000000 | 6 => 500000000
  | _ => 1000000000
def Memory.domain (K : Memory) (c : Nat) : Nat := K.bits (chBase c + 0x40) 8 4
def Memory.syncFmt (K : Memory) (c : Nat) : Fmt :=
  match K.bits (chBase c + 0x40) 12 2 with
  | 0 => .cc | 1 => .fd | _ => .xl
def Memory.syncDelay (K : Memory) (c : Nat) : Nat := K.bits (chBase c + 0x40) 16 12
def Memory.syncId (K : Memory) (c : Nat) : Nat := K.bits (chBase c + 0x44) 0 29
def Memory.twinBitB (K : Memory) (c : Nat) : Nat := K.bits (chBase c + 0x48) 0 4
def Memory.twinBitE (K : Memory) (c : Nat) : Nat := K.bits (chBase c + 0x48) 8 5
def Memory.filtId (K : Memory) (c i : Nat) : Nat := K.bits (chBase c + 0x80 + 16 * i) 0 29
def Memory.filtMask (K : Memory) (c i : Nat) : Nat := K.bits (chBase c + 0x84 + 16 * i) 0 29
def Memory.filtAct (K : Memory) (c i : Nat) : Nat := K.bits (chBase c + 0x88 + 16 * i) 0 2
def Memory.filtFmt (K : Memory) (c i : Nat) : Nat := K.bits (chBase c + 0x88 + 16 * i) 2 2
def Memory.filtIde (K : Memory) (c i : Nat) : Nat := K.bits (chBase c + 0x88 + 16 * i) 4 2

/-! ### Partners (R499) -/

def Memory.ptEn (K : Memory) (c : Nat) : Bool := K.bit (0xA000 + 32 * c) 0
def Memory.keyGroup (K : Memory) (c : Nat) : Nat := K.bits (0xA000 + 32 * c) 1 3
def Memory.srcInData (K : Memory) (c : Nat) : Bool := K.bit (0xA000 + 32 * c) 4
def Memory.srcWidth (K : Memory) (c : Nat) : Nat := K.bits (0xA000 + 32 * c) 8 5
def Memory.seqLoc (K : Memory) (c : Nat) : Nat := K.bits (0xA000 + 32 * c) 13 2
def Memory.seqWidth (K : Memory) (c : Nat) : Nat := K.bits (0xA000 + 32 * c) 16 5
def Memory.ptId (K : Memory) (c : Nat) : Nat := K.bits (0xA004 + 32 * c) 0 29
def Memory.ptMask (K : Memory) (c : Nat) : Nat := K.bits (0xA008 + 32 * c) 0 29
def Memory.srcPos (K : Memory) (c : Nat) : Nat := K.bits (0xA00C + 32 * c) 0 11
def Memory.seqPos (K : Memory) (c : Nat) : Nat := K.bits (0xA00C + 32 * c) 16 11
/-- The positions of the address and of the sequence number lie in the range of their locations: 0 to 28 in an identifier (R368). (DEDUCED: log entry 143) -/
def Memory.posOk (K : Memory) (c : Nat) : Bool :=
  (K.srcInData c || decide (K.srcPos c ≤ 28)) && (decide (K.seqLoc c ≠ 1) || decide (K.seqPos c ≤ 28))
def clsBase (c k : Nat) : Nat := 0xA100 + 128 * c + 32 * k
def Memory.clsMatch (K : Memory) (c k : Nat) : Nat := K.bits (clsBase c k) 0 16
def Memory.clsMask (K : Memory) (c k : Nat) : Nat := K.bits (clsBase c k) 16 16
def Memory.hbMode (K : Memory) (c k : Nat) : Nat := K.bits (clsBase c k + 4) 0 2
def Memory.hbPeriod (K : Memory) (c k : Nat) : Nat := K.bits (clsBase c k + 4) 2 14
def Memory.hbMiss (K : Memory) (c k : Nat) : Nat := K.bits (clsBase c k + 4) 16 4
def Memory.staleResync (K : Memory) (c k : Nat) : Nat := K.bits (clsBase c k + 4) 20 4
def Memory.hbId (K : Memory) (c k : Nat) : Nat := K.bits (clsBase c k + 8) 0 29
def Memory.hbIdMask (K : Memory) (c k : Nat) : Nat := K.bits (clsBase c k + 12) 0 29
def Memory.ageTime (K : Memory) (c k : Nat) : Nat := K.bits (clsBase c k + 16) 0 12
def Memory.pinEn (K : Memory) (i : Nat) : Bool := K.bit (0xA500 + 4 * i) 0
def Memory.pinGroup (K : Memory) (i : Nat) : Nat := K.bits (0xA500 + 4 * i) 1 3
def Memory.pinSrc (K : Memory) (i : Nat) : Nat := K.bits (0xA500 + 4 * i) 16 16
def Memory.rtEn (K : Memory) (r : Nat) : Bool := K.bit (rtKey r 0) 0
def Memory.rtIn (K : Memory) (r : Nat) : Nat := K.bits (rtKey r 0) 1 3
def Memory.rtFmt (K : Memory) (r : Nat) : Nat := K.bits (rtKey r 0) 4 2
def Memory.rtForward (K : Memory) (r : Nat) : Bool := K.bit (rtKey r 0) 6
def Memory.rtAcceptOnly (K : Memory) (r : Nat) : Bool := K.bit (rtKey r 0) 7
def Memory.rtConv (K : Memory) (r : Nat) : Nat := K.bits (rtKey r 0) 8 2
def Memory.rtBrs (K : Memory) (r : Nat) : Bool := K.bit (rtKey r 0) 10
def Memory.rtOut (K : Memory) (r c : Nat) : Bool := K.bit (rtKey r 0) (16 + c)
def Memory.rtRetry (K : Memory) (r : Nat) : Nat := K.bits (rtKey r 0) 24 8
def Memory.rtId (K : Memory) (r : Nat) : Nat := K.bits (rtKey r 1) 0 29
def Memory.rtMask (K : Memory) (r : Nat) : Nat := K.bits (rtKey r 2) 0 29
def Memory.rtXid (K : Memory) (r : Nat) : Nat := K.bits (rtKey r 3) 0 29
/-- RT_SLACK in ns. -/
def Memory.rtSlack (K : Memory) (r : Nat) : Nat := 1000 * K.bits (rtKey r 4) 0 20
def Memory.mapEn (K : Memory) (r : Nat) : Bool := K.bit (mapKey r 0) 0
def Memory.mapCh (K : Memory) (r : Nat) : Nat := K.bits (mapKey r 0) 1 3
def Memory.mapCmds (K : Memory) (r i : Nat) : Bool := K.bit (mapKey r 0) (4 + i)
def Memory.mapOffset (K : Memory) (r : Nat) : Nat := K.bits (mapKey r 0) 16 11
def Memory.mapId (K : Memory) (r : Nat) : Nat := K.bits (mapKey r 1) 0 29
def Memory.mapIdMask (K : Memory) (r : Nat) : Nat := K.bits (mapKey r 2) 0 29
def Memory.mapSrc (K : Memory) (r : Nat) : Nat := K.bits (mapKey r 3) 0 16
def Memory.mapSrcMask (K : Memory) (r : Nat) : Nat := K.bits (mapKey r 3) 16 16
/-- MAP_SLACK in ns. -/
def Memory.mapSlack (K : Memory) (r : Nat) : Nat := 1000 * K.bits (mapKey r 4) 0 20

/-! ### Twin, Cairn, keeper (R500 to R502) -/

def Memory.hbCh (K : Memory) : Option ChanId := finOf 8 (K.bits 0xA800 0 4)
def Memory.hbIde (K : Memory) : Bool := K.bit 0xA800 4
def Memory.hbMissMs (K : Memory) : Nat := K.bits 0xA800 8 8
def Memory.digestLimit (K : Memory) : Nat := K.bits 0xA800 16 8
def Memory.twinHbId (K : Memory) : Nat := K.bits 0xA804 0 29
/-- TW_START in ms. -/
def Memory.twStart (K : Memory) : Nat := K.bits 0xA808 0 14
/-- TB_DWELL in s. -/
def Memory.tbDwell (K : Memory) : Nat := K.bits 0xA80C 0 10
/-- MIRROR_DL in µs. -/
def Memory.mirrorDl (K : Memory) : Nat := K.bits 0xA810 0 14
def Memory.svcCh (K : Memory) : Option ChanId := finOf 8 (K.bits 0xB080 0 4)
def Memory.svcIde (K : Memory) : Bool := K.bit 0xB080 4
def Memory.svcXl (K : Memory) : Bool := K.bit 0xB080 5
def Memory.svcReqId (K : Memory) : Nat := K.bits 0xB084 0 29
def Memory.svcRspId (K : Memory) : Nat := K.bits 0xB088 0 29
/-- WAKE_TIMER in s. -/
def Memory.wakeTimer (K : Memory) : Nat := K.bits 0xB814 0 17
def Memory.wakePerst (K : Memory) : Bool := K.bit 0xB818 0

/-- A follower source is configured (R35). -/
def Memory.followerConfigured (K : Memory) : Bool :=
  (List.finRange 8).any (fun c => K.timeRole c == 2 && K.chEn c)

end Sys2Proof.Machine
end

