-- ==== Sys2Proof/Machine/Operands.lean ====
section
/-! DEFINITION. Byte order, the checksums of R277 and R400, and every operand form of a descriptor: the native layout of
R276 and R299 to R316 and the version-1 layout of R321 to R323. -/

namespace Sys2Proof.Machine

/-! ### Bytes -/

/-- `n` bytes of `v`, least significant first. -/
def leBytes : Nat → Nat → List Byte
  | 0, _ => []
  | n + 1, v => BitVec.ofNat 8 v :: leBytes n (v / 256)

/-- The number whose bytes are given least significant first. -/
def leNat : List Byte → Nat
  | [] => 0
  | b :: r => b.toNat + 256 * leNat r

/-- `n` bytes of `v`, most significant first. -/
def beBytes (n v : Nat) : List Byte := (leBytes n v).reverse
/-- The number whose bytes are given most significant first. -/
def beNat (l : List Byte) : Nat := leNat l.reverse
/-- Bytes `lo` to `lo + n − 1`; a byte past the end reads as 0. -/
def slice (l : List Byte) (lo n : Nat) : List Byte := (List.range n).map (fun i => l.getD (lo + i) 0)
/-- Padded with zero bytes, or cut, to `n` bytes. -/
def padTo (n : Nat) (l : List Byte) : List Byte := slice l 0 n

/-- One bit step of the CRC-16 of R277. -/
def crc16Bit (c : Nat) : Nat := if c.testBit 15 then (2 * c % 65536) ^^^ 0x1021 else 2 * c % 65536
/-- One byte step of the CRC-16: the byte enters most significant bit first. -/
def crc16Step (c : Nat) (b : Byte) : Nat :=
  (List.range 8).foldl (fun a _ => crc16Bit a) (c ^^^ (b.toNat * 256))
/-- CRC-16 of R277: polynomial 0x1021, initial value 0xFFFF, no reflection and no final inversion. -/
def crc16 (l : List Byte) : Nat := l.foldl crc16Step 0xFFFF

/-- One bit step of the CRC-32 of R400, in the reflected form of IEEE 802.3. -/
def crc32Bit (c : Nat) : Nat := if c % 2 = 1 then c / 2 ^^^ 0xEDB88320 else c / 2
def crc32Step (c : Nat) (b : Byte) : Nat := (List.range 8).foldl (fun a _ => crc32Bit a) (c ^^^ b.toNat)
/-- CRC-32 of R400: the IEEE 802.3 polynomial with that standard's initial value, reflection and final inversion. -/
def crc32 (l : List Byte) : Nat := l.foldl crc32Step 0xFFFFFFFF ^^^ 0xFFFFFFFF
/-- The CRC of a ledger copy matches (R428). -/
def ledgerValid (b : List Byte) : Bool := leNat (slice b 288 4) == crc32 (slice b 0 288)

/-! ### The native descriptor (R276) -/

/-- A native descriptor's fields. -/
structure Desc where
  opcode : Nat
  flags : Nat
  target : Nat
  seq : Nat
  launch : Nat
  deadline : Nat
  /-- Operand bytes 24 to 55. -/
  ops : List Byte
  cookie : Nat
  own : Bool
  format : Nat
  crcOk : Bool
deriving DecidableEq, Repr

/-- The fields of the 64 bytes of a ring slot. -/
def Desc.ofBytes (b : List Byte) : Desc :=
  { opcode := leNat (slice b 0 1), flags := leNat (slice b 1 1), target := leNat (slice b 2 2),
    seq := leNat (slice b 4 4), launch := leNat (slice b 8 8), deadline := leNat (slice b 16 8),
    ops := slice b 24 32, cookie := leNat (slice b 56 4), own := (b.getD 63 0).toNat.testBit 7,
    format := (b.getD 63 0).toNat % 128, crcOk := leNat (slice b 60 2) == crc16 (slice b 0 60) }

/-- AT_TIME, CHAIN, FENCE, IRQ, LOOKAHEAD_OK and MIRROR of R278, as bits 0 to 5 of the flag byte. -/
def Desc.flag (d : Desc) (i : Nat) : Bool := d.flags.testBit i
/-- Operand bytes `lo` to `lo + n − 1`, in the numbering of R276, as a little-endian number. -/
def Desc.op (d : Desc) (lo n : Nat) : Nat := leNat (slice d.ops (lo - 24) n)
/-- Every operand byte outside the listed ranges [lo, hi) is 0 (R300). -/
def Desc.zeroBut (d : Desc) (used : List (Nat × Nat)) : Bool :=
  (List.range 32).all (fun i => used.any (fun r => decide (r.1 ≤ i + 24 ∧ i + 24 < r.2)) || d.ops.getD i 0 == 0)
/-- A 64-bit position field holds a value of the 48-bit signed range: bits [63:47] are all equal (R302). -/
def posOk (v : Nat) : Bool := v / 2 ^ 47 == 0 || v / 2 ^ 47 == 2 ^ 17 - 1
/-- The actuator-affecting opcodes of R294. -/
def actuatorOp (o : Nat) : Bool :=
  decide ((1 ≤ o ∧ o ≤ 5) ∨ (0x10 ≤ o ∧ o ≤ 0x18) ∨ o = 0x20 ∨ o = 0x21 ∨ (0x40 ≤ o ∧ o ≤ 0x42) ∨
    (0x44 ≤ o ∧ o ≤ 0x47) ∨ o = 0x61 ∨ o = 0x62)
/-- The opcodes of R299 with the number of values their TARGET takes; 0 for an opcode that is not defined. COEF_LOAD and
COEF_READ take axes or doorways as their FORM says. -/
def targetCount (o : Nat) (form : Nat) : Nat :=
  if 1 ≤ o ∧ o ≤ 5 then 8
  else if 0x10 ≤ o ∧ o ≤ 0x18 then 24
  else if o = 0x20 then 32
  else if o = 0x21 then 1
  else if 0x30 ≤ o ∧ o ≤ 0x32 then 8
  else if o = 0x40 ∨ o = 0x41 then 24
  else if o = 0x42 ∨ o = 0x43 then (if form = 1 then 8 else 24)
  else if 0x44 ≤ o ∧ o ≤ 0x47 then 24
  else if o = 0x48 ∨ o = 0x49 then 4
  else if o = 0x50 ∨ o = 0x51 ∨ o = 0x60 ∨ o = 0x61 then 1
  else if o = 0x62 then 8
  else if o = 0x63 then 48
  else if 0x70 ≤ o ∧ o ≤ 0x72 then 1
  else 0
/-- The LEN values of R305 for a format: 0 Classical CAN, 1 CAN FD, 2 CAN XL. -/
def lenOk (fmt len : Nat) : Bool :=
  match fmt with
  | 0 => decide (len ≤ 8)
  | 1 => decide (len ≤ 8) || [12, 16, 20, 24, 32, 48, 64].contains len
  | 2 => decide (1 ≤ len ∧ len ≤ 2048)
  | _ => false
/-- The selector codes R208 defines. -/
def selOk (c : Nat) : Bool := decide (c ≤ 5 ∨ (8 ≤ c ∧ c ≤ 0x16) ∨ (0x20 ≤ c ∧ c ≤ 0x2B))
/-- Name of a format code of R305. -/
def fmtOf (v : Nat) : Fmt := match v with | 0 => .cc | 1 => .fd | _ => .xl
/-- An opcode whose last operand bits are a position (R302): the position field and the bytes it shares with. -/
def axisMotionOk (K : Memory) (d : Desc) : Bool :=
  decide (K.axKind d.target ≠ 0) &&
  match d.opcode with
  | 0x10 | 0x11 => d.zeroBut [(24, 34)] && posOk (d.op 24 8) && decide (d.op 32 1 < 2 ∧ d.op 33 1 < 4)
  | 0x13 => d.zeroBut [(24, 25), (26, 28), (32, 40)] && decide (d.op 26 2 < 2 ^ 11 ∧ d.op 26 2 ≠ 0 ∧ d.op 32 8 % 4 = 0) &&
      decide (d.op 26 2 = 0x400 ∨ d.op 24 1 < 4)
  | 0x14 => d.zeroBut [(24, 33)] && posOk (d.op 24 8) && decide (d.op 32 1 < 8)
  | 0x16 => d.zeroBut [(24, 35)] && posOk (d.op 24 8) && decide (1 ≤ d.op 32 1 ∧ d.op 32 1 ≤ 3 ∧ d.op 34 1 < 4) &&
      (if d.op 32 1 = 3 then decide (d.op 33 1 < 64) else decide (d.op 33 1 = 0))
  | 0x18 => d.zeroBut [(24, 32)] && posOk (d.op 24 8)
  | _ => d.zeroBut []

/-- The checks of R305 that are made at acceptance; `fmtOn` gives the formats channels are configured for. -/
def busTxOk (fmtOn : Nat → Fmt → Bool) (d : Desc) : Bool :=
  let w := d.op 24 4
  let fmt := d.op 28 1
  let inl := (d.op 29 1).testBit 2
  let ide := w.testBit 29
  let rtr := w.testBit 30
  d.zeroBut [(24, 39), (40, 56)] && !w.testBit 31 && decide (fmt ≤ 2 ∧ d.op 29 1 < 8) &&
  (ide || decide (w % 2 ^ 29 < 2 ^ 11)) && !(ide && fmt == 2) &&
  (!rtr || (fmt == 0 && d.op 30 2 == 0)) &&
  (!(d.op 29 1).testBit 0 || fmt == 1) && (!(d.op 29 1).testBit 1 || fmt == 2) &&
  (fmt == 2 || (d.op 32 4 == 0 && d.op 36 1 == 0 && d.op 37 1 == 0)) &&
  lenOk fmt (d.op 30 2) && fmtOn d.target (fmtOf fmt) &&
  (if inl then decide (d.op 30 2 ≤ 8 ∧ d.op 40 8 = 0) else decide (d.op 48 8 = 0))

/-- The checks of R309 for INJECT. -/
def injectOk (d : Desc) : Bool :=
  d.zeroBut [(24, 27), (28, 45)] &&
  (match d.op 24 1 with
   | 1 => d.op 26 1 == 0
   | 2 => decide (d.op 26 1 < 2)
   | 3 => decide (d.op 26 1 < 4)
   | _ => false) &&
  (match d.op 25 1 with
   | 1 => [7, 9, 11, 15, 23].contains (d.op 32 1) && d.op 33 1 != 0 && d.op 36 4 == 0 && d.op 40 4 == 0 && d.op 44 1 == 0
   | 2 => decide (1 ≤ d.op 32 4 ∧ d.op 32 4 ≤ 2000000 ∧ 1 ≤ d.op 36 4 ∧ d.op 36 4 ≤ 2000000 ∧ 1 ≤ d.op 40 4 ∧
      d.op 40 4 ≤ 600000 ∧ d.op 44 1 < 2)
   | 3 => d.op 35 1 == 0 && d.op 36 4 == 0 && d.op 40 4 == 0 && d.op 44 1 == 0
   | _ => false)

/-- The checks of R207 and R309 for CAPTURE_START. -/
def captureOk (K : Memory) (d : Desc) : Bool :=
  d.zeroBut [(24, 30), (32, 48)] && decide (d.op 24 1 < 24 ∧ d.op 25 1 < 48 ∧ 1 ≤ d.op 26 2 ∧ d.op 26 2 ≤ 256 ∧
    d.op 28 1 < 2 ∧ 1 ≤ d.op 29 1 ∧ d.op 29 1 ≤ 8) && decide (K.atlType (d.op 25 1) = 3) &&
  (d.op 28 1 == 0 || decide (1 ≤ d.op 32 8 ∧ d.op 32 8 < 2 ^ 32)) &&
  (List.range 8).all (fun i => if i < d.op 29 1 then selOk (d.op (40 + i) 1) else d.op (40 + i) 1 == 0)

/-- The operand checks that R300 makes at acceptance, for every opcode. (DESIGN CHOICE: log entry 7; DEDUCED: log entry 45) -/
def operandsOk (K : Memory) (fmtOn : Nat → Fmt → Bool) (d : Desc) : Bool :=
  decide (d.target < targetCount d.opcode (d.op 24 1)) &&
  match d.opcode with
  | 0x01 | 0x02 | 0x05 => d.zeroBut []
  | 0x03 | 0x04 => d.zeroBut [(24, 25)] && decide (d.op 24 1 < 2)
  | 0x10 | 0x11 | 0x12 | 0x13 | 0x14 | 0x15 | 0x16 | 0x17 | 0x18 => axisMotionOk K d
  | 0x20 => d.zeroBut [(24, 25)] && decide (d.op 24 1 < 2)
  | 0x21 => d.zeroBut [(24, 32)] && d.op 24 4 != 0
  | 0x30 => busTxOk fmtOn d
  | 0x31 => d.zeroBut [(24, 36)] && decide (d.op 24 8 % 64 = 0 ∧ 64 ≤ d.op 32 4 ∧ d.op 32 4 ≤ 4096 ∧ d.op 32 4 % 64 = 0)
  | 0x32 => d.zeroBut [(24, 25)] && decide (1 ≤ d.op 24 1 ∧ d.op 24 1 ≤ 4)
  | 0x40 | 0x41 | 0x47 | 0x49 => d.zeroBut []
  | 0x42 =>
    d.zeroBut [(24, 40)] && d.op 32 8 % 4 == 0 &&
    (match d.op 24 1 with
     | 0 => d.op 25 1 == 0 && d.op 26 2 == 0 && decide (12 ≤ d.op 28 4 ∧ d.op 28 4 ≤ 584 ∧ d.op 28 4 % 4 = 0)
     | 1 => decide (d.op 25 1 < 2 ∧ d.op 28 4 = 128)
     | _ => false)
  | 0x43 =>
    d.zeroBut [(24, 40)] && d.op 32 8 % 4 == 0 && d.op 26 2 == 0 &&
    (match d.op 24 1 with
     | 0 => decide (d.op 25 1 < 14 ∧ 12 ≤ d.op 28 4 ∧ d.op 28 4 ≤ 584 ∧ d.op 28 4 % 4 = 0)
     | 1 => decide (d.op 25 1 < 2 ∧ d.op 28 4 = 128)
     | _ => false)
  | 0x44 => d.zeroBut [(24, 25), (28, 32)] && decide (d.op 24 1 < 3) && (d.op 24 1 == 1 || d.op 30 2 == 0)
  | 0x45 => d.zeroBut [(24, 25), (28, 32)] && decide (1 ≤ d.op 24 1 ∧ d.op 24 1 < 3) && (d.op 24 1 == 1 || d.op 30 2 == 0)
  | 0x46 => injectOk d
  | 0x48 => captureOk K d
  | 0x50 =>
    (match d.op 24 1 with
     | 0 => d.zeroBut [(24, 25), (28, 36), (48, 56)]
     | 1 => d.zeroBut [(24, 25), (28, 56)] && decide (d.op 32 8 < d.op 40 8)
     | _ => false) && decide (1 ≤ d.op 28 4 ∧ d.op 28 4 ≤ 65536 ∧ d.op 48 8 % 32 = 0)
  | 0x51 | 0x61 => d.zeroBut [(24, 32)]
  | 0x60 | 0x70 | 0x71 => d.zeroBut []
  | 0x62 => d.zeroBut [(24, 25)] && decide (d.op 24 1 < 2) && decide (K.timeRole d.target = 1)
  | 0x63 => d.zeroBut [(24, 28)] && decide (K.atlType d.target = 1)
  | 0x72 => d.zeroBut [(24, 25)] && decide (d.op 24 1 < 2)
  | _ => false

/-- The buffer a descriptor names for reading: address and length in bytes (R290). -/
def readBuf (d : Desc) : Option (Nat × Nat) :=
  match d.opcode with
  | 0x13 => some (d.op 32 8, 44)
  | 0x30 => if (d.op 29 1).testBit 2 ∨ d.op 30 2 = 0 then none else some (d.op 40 8, d.op 30 2)
  | 0x42 => some (d.op 32 8, if d.op 24 1 = 1 then 128 else d.op 28 4)
  | _ => none

/-- The buffer a descriptor names for writing: address and length in bytes (R290). -/
def writeBuf (d : Desc) : Option (Nat × Nat) :=
  match d.opcode with
  | 0x31 => some (d.op 24 8, d.op 32 4)
  | 0x43 => some (d.op 32 8, d.op 28 4)
  | 0x50 => some (d.op 48 8, 32 + 32 * d.op 28 4)
  | _ => none

/-- The bus frame of a BUS_TX whose data bytes are `buf` when INLINE is 0. -/
def busFrameOf (d : Desc) (buf : List Byte) : CanFrame :=
  let w := d.op 24 4
  { ident := BitVec.ofNat 29 w, ide := w.testBit 29, rtr := w.testBit 30, fmt := fmtOf (d.op 28 1),
    brs := (d.op 29 1).testBit 0, esi := false, sec := (d.op 29 1).testBit 1, af := BitVec.ofNat 32 (d.op 32 4),
    sdt := BitVec.ofNat 8 (d.op 36 1), vcid := BitVec.ofNat 8 (d.op 37 1),
    data := if (d.op 29 1).testBit 2 then slice d.ops 24 (d.op 30 2) else buf }

/-- The eleven words of a PROFILE_CHANGE buffer (R302). -/
def profWords (buf : List Byte) : List Word := (List.range 11).map (fun i => BitVec.ofNat 32 (leNat (slice buf (4 * i) 4)))
/-- A PROFILE_CHANGE word whose mask bit is set is not 0, but for V_CREEP and V_BLEND (R302). -/
def profWordsOk (mask : Nat) (ws : List Word) : Bool :=
  (List.range 11).all (fun i => !mask.testBit i || i == 8 || i == 9 || ws.getD i 0 != 0)

/-- The action a descriptor asks for, once its operand checks pass; `rd` holds the bytes of the buffer it names for
reading and `pages` the translated pages of the buffer it names for writing (none on a native Atoll). None where a check
that reads the buffer fails. -/
def actOf (d : Desc) (rd : List Byte) (pages : List Nat) : Option Act :=
  let a : AxisId := ⟨d.target % 24, Nat.mod_lt _ (by decide)⟩
  let w : DoorId := ⟨d.target % 8, Nat.mod_lt _ (by decide)⟩
  let pos := sext 64 (d.op 24 8)
  let set : Fin 4 := ⟨d.op 33 1 % 4, Nat.mod_lt _ (by decide)⟩
  let buf : Buf := ⟨((writeBuf d).map Prod.fst).getD 0, pages⟩
  match d.opcode with
  | 0x01 => some (.door w .opening)
  | 0x02 => some (.door w .close)
  | 0x03 => some (.door w (.holdOpen (d.op 24 1 == 1)))
  | 0x04 => some (.door w (.buttons (d.op 24 1 == 1)))
  | 0x05 => some (.door w .faultReset)
  | 0x10 => some (.axis a (.move pos (d.op 32 1 == 1) set))
  | 0x11 => some (.axis a (.moveNow pos (d.op 32 1 == 1) set))
  | 0x12 => some (.axis a .stop)
  | 0x13 =>
    if profWordsOk (d.op 26 2) (profWords rd) then
      some (.axis a (.profileChange ⟨d.op 24 1 % 4, Nat.mod_lt _ (by decide)⟩ (BitVec.ofNat 11 (d.op 26 2)) (profWords rd)))
    else none
  | 0x14 => some (.axis a (.compareSet pos ((d.op 32 1).testBit 0) ((d.op 32 1).testBit 1) ((d.op 32 1).testBit 2)))
  | 0x15 => some (.axis a .compareOff)
  | 0x16 =>
    some (.axis a (.refArm
      { refPos := pos
        src := (match d.op 32 1 with
          | 1 => .index
          | 2 => .zswitch
          | _ => .field ⟨d.op 33 1 % 64, Nat.mod_lt _ (by decide)⟩)
        deassert := (d.op 34 1).testBit 0, stop := (d.op 34 1).testBit 1 }))
  | 0x17 => some (.axis a .refOff)
  | 0x18 => some (.axis a (.refSet pos))
  | 0x20 => some (.outSet ⟨d.target % 32, Nat.mod_lt _ (by decide)⟩ (d.op 24 1 == 1))
  | 0x21 => some (.outMask (BitVec.ofNat 32 (d.op 24 4)) (BitVec.ofNat 32 (d.op 28 4)))
  | 0x30 => some (.busTx w (busFrameOf d rd) (d.op 38 1))
  | 0x31 => some (.rxSupply w buf (d.op 32 4) (BitVec.ofNat 32 d.cookie))
  | 0x32 => some (.chanMode w (match d.op 24 1 with | 1 => .sleep | 2 => .wake | 3 => .recover | _ => .flush))
  | 0x40 => some (.axis a .loopOpen)
  | 0x41 => some (.axis a .loopClose)
  | 0x42 =>
    if d.op 24 1 = 1 then some (.envLoad w (d.op 25 1 == 1) (BitVec.ofNat 16 (d.op 26 2)) rd)
    else some (.axis a (.coefLoad (d.op 28 4) rd))
  | 0x43 =>
    if d.op 24 1 = 1 then some (.envRead w (d.op 25 1 == 1) buf)
    else some (.axis a (.coefRead (d.op 25 1) (d.op 28 4) buf))
  | 0x44 =>
    if d.op 24 1 = 0 then some (.axis a .modeAuto)
    else some (.axis a (.modeManual (d.op 24 1 == 2) (sext 16 (d.op 28 2)) (sext 16 (d.op 30 2))))
  | 0x45 => some (.axis a (.manSet (d.op 24 1 == 2) (sext 16 (d.op 28 2)) (sext 16 (d.op 30 2))))
  | 0x46 =>
    some (.axis a (.inject
      { point := (match d.op 24 1 with | 1 => .ref | 2 => .out | _ => .meas)
        form := (match d.op 25 1 with
          | 1 => .prbs (d.op 32 1) (d.op 33 1) (d.op 34 2)
          | 2 => .sweep (d.op 32 4) (d.op 36 4) (d.op 40 4) (d.op 44 1 == 1)
          | _ => .step (d.op 32 3))
        row := d.op 26 1, aMan := sext 24 (d.op 28 3), aExp := sext 8 (d.op 31 1) }))
  | 0x47 => some (.axis a .injectStop)
  | 0x48 =>
    some (.captureStart ⟨d.target % 4, Nat.mod_lt _ (by decide)⟩
      { axis := ⟨d.op 24 1 % 24, Nat.mod_lt _ (by decide)⟩, atoll := ⟨d.op 25 1 % 48, Nat.mod_lt _ (by decide)⟩
        decim := d.op 26 2, win := if d.op 28 1 = 1 then .count (d.op 32 4) else .endTT (d.op 32 8)
        sels := (List.range (d.op 29 1)).map (fun i => d.op (40 + i) 1) })
  | 0x49 => some (.captureStop ⟨d.target % 4, Nat.mod_lt _ (by decide)⟩)
  | 0x50 =>
    some (.cairnExport
      { range := if d.op 24 1 = 1 then .tt (d.op 32 8) (d.op 40 8) else .seq (BitVec.ofNat 32 (d.op 32 4))
        count := d.op 28 4, buf := buf, cookie := BitVec.ofNat 32 d.cookie })
  | 0x51 => some (.cairnMark (slice d.ops 0 8))
  | 0x60 => some .schedMark
  | 0x61 => some (.ttSet (BitVec.ofNat 64 (d.op 24 8)))
  | 0x62 => some (.tmControl w (d.op 24 1 == 1))
  | 0x63 => some (.schedCancel ⟨d.target % 48, Nat.mod_lt _ (by decide)⟩ (BitVec.ofNat 32 (d.op 24 4)))
  | 0x70 => some .nop
  | 0x71 => some .twinYield
  | 0x72 => some (.takebackInhibit (d.op 24 1 == 1))
  | _ => none

/-! ### The version-1 descriptor (R321 to R323) -/

/-- The opcodes R323 admits on a COMMAND_V1 Atoll. -/
def v1Opcode (o : Nat) : Bool :=
  decide (targetCount o 0 ≠ 0) && !decide (0x46 ≤ o ∧ o ≤ 0x49) && o != 0x63

/-- The operand bytes a version-1 descriptor's IOVA fills (R323): the first native byte of its buffer field. -/
def v1BufField (o : Nat) : Option Nat :=
  match o with
  | 0x13 | 0x42 | 0x43 => some 32
  | 0x30 => some 40
  | 0x31 => some 24
  | 0x50 => some 48
  | _ => none

/-- A version-1 descriptor. -/
structure DescV1 where
  opcode : Nat
  flags : Nat
  target : Nat
  seq : Nat
  /-- Operand bytes 8 to 19. -/
  ops : List Byte
  iova : Nat
  own : Bool
  format : Nat
  crcOk : Bool
deriving DecidableEq, Repr

/-- The fields of the 32 bytes of a ring slot. -/
def DescV1.ofBytes (b : List Byte) : DescV1 :=
  { opcode := leNat (slice b 0 1), flags := leNat (slice b 1 1), target := leNat (slice b 2 2),
    seq := leNat (slice b 4 4), ops := slice b 8 12, iova := leNat (slice b 20 8),
    own := (b.getD 31 0).toNat.testBit 7, format := (b.getD 31 0).toNat % 128,
    crcOk := leNat (slice b 28 2) == crc16 (slice b 0 28) }

/-- Bytes `v` written over native operand bytes from `lo`. -/
def overlay (ops : List Byte) (lo : Nat) (v : List Byte) : List Byte :=
  (List.range 32).map (fun i =>
    if lo ≤ i + 24 ∧ i + 24 < lo + v.length then v.getD (i + 24 - lo) 0 else ops.getD i 0)

/-- The native descriptor a version-1 descriptor stands for (R322, R323), with its IOVA in the buffer field. -/
def DescV1.native (v : DescV1) : Desc :=
  let base := padTo 32 v.ops
  let ops := match v1BufField v.opcode with
    | some lo => overlay base lo (leBytes 8 v.iova)
    | none => base
  { opcode := v.opcode, flags := v.flags, target := v.target, seq := v.seq, launch := 0, deadline := 0,
    ops := if v.opcode = 0x30 then overlay ops 38 [255] else ops,
    cookie := 0, own := v.own, format := v.format, crcOk := v.crcOk }

/-- The same with the translated bus address in the buffer field, as it is mirrored (R323, R405). -/
def DescV1.nativeAt (v : DescV1) (addr : Nat) : Desc := DescV1.native { v with iova := addr }

/-- Step 5 of R324: the limits of R322 and R323, and bits [63:36] of the IOVA are 0. -/
def DescV1.ok (v : DescV1) : Bool :=
  v1Opcode v.opcode && !v.flags.testBit 0 && !v.flags.testBit 4 && decide (v.flags < 64) && decide (v.iova < 2 ^ 36) &&
  (match v1BufField v.opcode with
   | none => v.iova == 0
   | some _ => true) &&
  (match v.opcode with
   | 0x30 => !(leNat (slice v.ops 5 1)).testBit 2
   | 0x31 => leNat (slice v.ops 0 8) == 0
   | 0x50 => leNat (slice v.ops 0 1) == 0
   | _ => true)

/-! ### Completion entries (R317) -/

/-- The 16 bytes of a completion entry. -/
def complBytes (seq : Word) (atoll status : Nat) (late cancelLate notFinal : Bool) (tt : Nat) : List Byte :=
  leBytes 4 seq.toNat ++
  leBytes 2 (atoll + (if late then 256 else 0) + (if cancelLate then 512 else 0) + (if notFinal then 1024 else 0)) ++
  leBytes 2 status ++ leBytes 8 tt

/-- Bus address of byte `k` of a buffer. -/
def bufAddr (b : Buf) (k : Nat) : Nat :=
  match b.pages with
  | [] => b.addr + k
  | ps => ps.getD ((b.addr % 4096 + k) / 4096) 0 + (b.addr + k) % 4096

end Sys2Proof.Machine
end

