-- ==== Sys2Proof/Machine/Flags.lean ====
section
/-! DEFINITION. Codes and status bits: the completion codes of R319 and their order under R320, object codes of R423, and
the codes that status registers, records and headers carry. -/

namespace Sys2Proof.Machine

/-! ### Completion status (R319, R320) -/

def stOK : Nat := 0x0000
def stLate : Nat := 0x0001
def stGate : Nat := 0x0002
def stState : Nat := 0x0003
def stCancelled : Nat := 0x0004
def stBadCrc : Nat := 0x0005
def stBadOperand : Nat := 0x0006
def stTranslation : Nat := 0x0007
def stPreempted : Nat := 0x0008
def stNoAck : Nat := 0x0009
def stRetryLimit : Nat := 0x000A
def stBusOff : Nat := 0x000B
def stCancelLate : Nat := 0x000C
def stLoopClosed : Nat := 0x000D
def stNotActive : Nat := 0x000E
def stPresetRange : Nat := 0x000F
def stLogFailed : Nat := 0x0010
def stOvershoot : Nat := 0x0011

/-- The one STATUS of a completion under R320: `code` is the outcome of the rule that completed the action, and `bus` is
true for a bus frame, which shows a late cancel in Q_CANCEL_LATE alone. -/
def finalStatus (code : Nat) (late cancelLate bus : Bool) : Nat :=
  if code ≠ stOK ∧ code ≠ stLate ∧ code ≠ stCancelled ∧ code ≠ stPreempted ∧ code ≠ stCancelLate ∧ code ≠ stOvershoot then
    code
  else if code = stCancelled ∨ code = stPreempted then code
  else if code = stCancelLate ∨ (cancelLate = true ∧ bus = false) then stCancelLate
  else if late then stLate
  else if code = stOvershoot then stOvershoot
  else stOK

/-! ### Object codes (R423) -/

def objDevice : Nat := 0
def objAxis (a : Nat) : Nat := 0x0A00 + a
def objAtoll (n : Nat) : Nat := 0x0900 + n
def objChan (n : Nat) : Nat := 0x0C00 + n
def objDoor (d : Nat) : Nat := 0x0D00 + d
def objEvt (e : Nat) : Nat := 0x0E00 + e
def objGroup (g : Nat) : Nat := 0x0F00 + g
def objOut (o : Nat) : Nat := 0x0F20 + o
def objSout (j : Nat) : Nat := 0x0F40 + j
def objSin (j : Nat) : Nat := 0x0F60 + j
def objIn (i : Nat) : Nat := 0x0F80 + i
def objCtx (i : Nat) : Nat := 0x1000 + i
/-- Object code of output `o` of the 36, the safety outputs last. -/
def objAnyOut (o : Fin 36) : Nat := if o.val < 32 then objOut o.val else objSout (o.val - 32)

/-! ### Codes of states -/

/-- Doorway state codes of R61. -/
def DwState.code : DwState → Nat
  | .lockedClosed => 0x0 | .unlocking => 0x1 | .stepOut => 0x2 | .opening => 0x3 | .opened => 0x4 | .closeWarning => 0x5
  | .closing => 0x6 | .finalClose => 0x7 | .stepIn => 0x8 | .locking => 0x9 | .reopening => 0xA | .obstacleHold => 0xB
  | .egress => 0xC | .isolated => 0xD | .seqFault => 0xE | .disabled => 0xF
/-- Time state codes of R485. -/
def TtState.code : TtState → Nat
  | .unset => 0 | .set => 1 | .acquiring => 2 | .locked => 3 | .holdover => 4
/-- Atoll state codes of R282. -/
def AtState.code : AtState → Nat
  | .idle => 0 | .running => 1 | .stalled => 2 | .halted => 3 | .disabled => 4
/-- Halt reason codes of R282. -/
def AtReason.code : AtReason → Nat
  | .none => 0 | .badFormat => 1 | .badCrc => 2 | .dmaRead => 3 | .translation => 4 | .linkDown => 5
/-- Summit state codes of R394. -/
def Summit.code : Summit → Nat
  | .off => 0 | .standby => 1 | .claiming => 2 | .backoff => 3 | .holding => 4 | .demoted => 5
/-- Cairn state codes of R434. -/
def CairnState.code : CairnState → Nat
  | .running => 0 | .failed => 1 | .stopped => 2 | .scanning => 3
/-- Segment codes of R121. -/
def Seg.code : Seg → Nat
  | .idle => 0x0 | .start => 0x1 | .a1 => 0x2 | .a2 => 0x3 | .ridge => 0x4 | .d2 => 0x5 | .d1 => 0x6 | .stop => 0x7
  | .frozen => 0x8 | .track => 0x9
/-- Obstacle cause codes of R113. -/
def ObstCause.code : ObstCause → Nat
  | .force => 1 | .edge => 2 | .external => 3 | .edgeUnknown => 4
/-- Partner context state codes of R499. -/
def PcState.code : PcState → Nat
  | .free => 0 | .new => 1 | .live => 2 | .silent => 3
/-- Host-lost cause codes of R445. -/
def lostCode : LostCause → Nat
  | .linkDown => 1 | .perst => 2 | .hotReset => 3 | .d3hot => 4

end Sys2Proof.Machine
end

