-- ==== Sys2Proof/Machine/Ops.lean ====
section
/-! DEFINITION. The named operations every command shares: access to the numbered objects, train time and its cycles, the
record queue, the event matrix, interrupt messages and link writes, completions, and gaining and losing the Summit. -/

namespace Sys2Proof.Machine

/-! ### Access to the numbered objects -/

def Dev.ax (x : Dev) (a : AxisId) : Axis := x.axes.get a
def Dev.modAx (a : AxisId) (f : Axis → Axis) (x : Dev) : Dev := { x with axes := x.axes.set a.val (f (x.ax a)) a.isLt }
def Dev.dw (x : Dev) (d : DoorId) : Door := x.doors.get d
def Dev.modDw (d : DoorId) (f : Door → Door) (x : Dev) : Dev := { x with doors := x.doors.set d.val (f (x.dw d)) d.isLt }
def Dev.atl (x : Dev) (n : AtollId) : Atoll := x.atolls.get n
def Dev.modAtl (n : AtollId) (f : Atoll → Atoll) (x : Dev) : Dev :=
  { x with atolls := x.atolls.set n.val (f (x.atl n)) n.isLt }
def Dev.ch (x : Dev) (c : ChanId) : Chan := x.chans.get c
def Dev.modCh (c : ChanId) (f : Chan → Chan) (x : Dev) : Dev := { x with chans := x.chans.set c.val (f (x.ch c)) c.isLt }
def Dev.capu (x : Dev) (u : Fin 4) : Capture := x.caps.get u
def Dev.modCap (u : Fin 4) (f : Capture → Capture) (x : Dev) : Dev := { x with caps := x.caps.set u.val (f (x.capu u)) u.isLt }
def Dev.ctx (x : Dev) (i : Fin 256) : Ctx := x.parts.ctx.get i
def Dev.modCtx (i : Fin 256) (f : Ctx → Ctx) (x : Dev) : Dev :=
  { x with parts := { x.parts with ctx := x.parts.ctx.set i.val (f (x.ctx i)) i.isLt } }
def Dev.inPin (x : Dev) (i : InId) : InPin := x.fio.ins.get i
def Dev.modIn (i : InId) (f : InPin → InPin) (x : Dev) : Dev :=
  { x with fio := { x.fio with ins := x.fio.ins.set i.val (f (x.inPin i)) i.isLt } }
def Dev.sin (x : Dev) (j : Fin 8) : SafeIn := x.fio.sins.get j
def Dev.modSin (j : Fin 8) (f : SafeIn → SafeIn) (x : Dev) : Dev :=
  { x with fio := { x.fio with sins := x.fio.sins.set j.val (f (x.sin j)) j.isLt } }
def Dev.outPin (x : Dev) (o : OutId) : OutPin := x.fio.outs.get o
def Dev.modOut (o : OutId) (f : OutPin → OutPin) (x : Dev) : Dev :=
  { x with fio := { x.fio with outs := x.fio.outs.set o.val (f (x.outPin o)) o.isLt } }
def Dev.sout (x : Dev) (j : Fin 4) : OutPin := x.fio.souts.get j
def Dev.modSout (j : Fin 4) (f : OutPin → OutPin) (x : Dev) : Dev :=
  { x with fio := { x.fio with souts := x.fio.souts.set j.val (f (x.sout j)) j.isLt } }
def Dev.grp (x : Dev) (g : Fin 8) : Grp := x.fio.grps.get g
def Dev.modGrp (g : Fin 8) (f : Grp → Grp) (x : Dev) : Dev :=
  { x with fio := { x.fio with grps := x.fio.grps.set g.val (f (x.grp g)) g.isLt } }
/-- Output `o` of the 36, the safety outputs last. -/
def Dev.anyOut (x : Dev) (o : Fin 36) : OutPin :=
  if h : o.val < 32 then x.outPin ⟨o.val, h⟩ else x.sout ⟨o.val - 32, by omega⟩
def Dev.modAnyOut (o : Fin 36) (f : OutPin → OutPin) (x : Dev) : Dev :=
  if h : o.val < 32 then x.modOut ⟨o.val, h⟩ f else x.modSout ⟨o.val - 32, by omega⟩ f

/-- One pass over `n` numbered objects in ascending order. -/
def Dev.each (n : Nat) (f : Fin n → Dev → Dev) (x : Dev) : Dev := (List.finRange n).foldl (fun y i => f i y) x
/-- One pass over a list. -/
def Dev.over {α : Type} (l : List α) (f : α → Dev → Dev) (x : Dev) : Dev := l.foldl (fun y i => f i y) x
/-- `f` where the condition holds, nothing otherwise. -/
def Dev.when (b : Bool) (f : Dev → Dev) (x : Dev) : Dev := if b then f x else x
/-- The outcome of a command that changes the block but not its set-up registers. -/
def State.run (s : State) (f : Memory → Dev → Dev) : Host.Outcome State Fault Refusal :=
  .next { s with dev := f s.cfg s.dev }
/-- The same for a command of an island that runs only out of reset and awake; it has no effect otherwise (R462, R473). (DEDUCED: log entry 8) -/
def State.live (s : State) (f : Memory → Dev → Dev) : Host.Outcome State Fault Refusal :=
  s.run (fun K x => if x.keeper.phase = .run then f K x else x)

/-! ### Counters -/

/-- A flag as a number. -/
def b2n (b : Bool) : Nat := if b then 1 else 0
/-- One more, saturating at the largest value of `bits` bits (R479). -/
def satInc (bits v : Nat) : Nat := if v + 1 < 2 ^ bits then v + 1 else 2 ^ bits - 1
/-- One more, wrapping at `bits` bits. -/
def wrapInc (bits v : Nat) : Nat := (v + 1) % 2 ^ bits
/-- A value limited to [lo, hi]. -/
def clampI (lo hi v : Int) : Int := max lo (min hi v)

/-! ### Train time (R29) -/

/-- Train time of the present axis cycle. -/
def Dev.tt (x : Dev) : Nat := x.time.tt
/-- Frame boundary of the present control frame (R11). -/
def Dev.frameB (x : Dev) : Nat := x.time.tt / 25000 * 25000
/-- Rate correction of one cycle in 2^−32 ns, never above 100 ppm (R29). The spec gives the correction 5 ns · rate / 10^9 and
no rounding to the fraction, so of a rate that does not come out whole a free value says which of its two neighbours it is, never
the one beyond 0.5 ps (R29, R42). (DEDUCED: log entry 12) -/
def rateStep (rate : Rat) : Int :=
  let c := max (-100000) (min 100000 rate) * 5 * 4294967296 / 1000000000
  max (-2147483) (min 2147483 (if c.den = 1 then c.num else c.floor + (if Config.rateUp rate then 1 else 0)))
/-- The increment of train time in one 5 ns cycle, in 2^−32 ns. -/
def TimeUnit.inc (t : TimeUnit) : Nat := (21474836480 + rateStep t.rate).toNat
/-- Train time in 2^−32 ns. -/
def TimeUnit.full (t : TimeUnit) : Nat := t.tt * 4294967296 + t.frac
/-- The stamp a unit takes of an edge it samples in the present axis cycle: the train time of the rising edge, or of the falling
edge half the cycle's increment later, truncated to whole ns (R10, R30). -/
def Dev.stamp (fall : Bool) (x : Dev) : Nat :=
  if fall then (x.time.full + x.time.inc / 2) / 4294967296 % 2 ^ 64 else x.time.tt
/-- `n` axis cycles pass: train time, its fraction, the frame boundaries passed and, while the recorder is out of SCANNING,
operating time move on (R10, R11, R29, R422). -/
def Dev.cycles (n : Nat) (x : Dev) : Dev :=
  let v := x.time.full + n * x.time.inc
  let tt := v / 4294967296 % 2 ^ 64
  let t := { x.time with
    cyc := x.time.cyc + n, tt := tt, frac := v % 4294967296,
    frames := x.time.frames + (tt / 25000 - x.time.tt / 25000) }
  { x with
    time := t
    cairn := { x.cairn with
      opNs := if x.cairn.st = .scanning ∨ x.keeper.phase ≠ .run then x.cairn.opNs else x.cairn.opNs + 5 * n } }
/-- Cycles until train time is at or after `t`; 0 when it already is. -/
def Dev.cyclesTo (x : Dev) (t : Nat) : Nat :=
  let goal := t * 4294967296
  if goal ≤ x.time.full then 0 else (goal - x.time.full + x.time.inc - 1) / max 1 x.time.inc
/-- The present cycle is the first whose train time is at or after a multiple of `n` ns. -/
def Dev.atMultiple (n : Nat) (x : Dev) : Bool := decide (x.time.full % (n * 4294967296) < x.time.inc)
/-- The latest multiple of `n` ns. -/
def Dev.multiple (n : Nat) (x : Dev) : Nat := x.tt / n * n
/-- The first multiple of `n` ns whose first cycle is the present one or a later one. -/
def Dev.nextMultiple (n : Nat) (x : Dev) : Nat := if x.atMultiple n then x.multiple n else (x.tt / n + 1) * n
/-- Operating time in µs (R422). -/
def Dev.optime (x : Dev) : Nat := x.cairn.opNs / 1000

/-! ### Free values -/

/-- The next fresh free value. (DESIGN CHOICE: log entry 10) -/
def Dev.fresh (x : Dev) : BitVec 64 := Config.fresh x.free
/-- Count a fresh free value as drawn. (DESIGN CHOICE: log entry 10) -/
def Dev.drawn (x : Dev) : Dev := { x with free := x.free + 1 }

/-! ### Seal, Summit, ranks -/

def Dev.isSealed (x : Dev) : Bool := x.su.sealed
/-- The unit holds the Summit (R391, R394). -/
def Dev.holding (x : Dev) : Bool := decide (x.twin.summit = .holding)
/-- Highest rank in force on the object of a code, from its own open faults (R442). -/
def Dev.rankOn (x : Dev) (tgt : Nat) : Nat :=
  x.evt.opens.foldl (fun m f => if f.tgt = tgt then max m f.rank else m) 0
/-- Rank in force on the unit (R439). -/
def Dev.unitRank (x : Dev) : Nat := x.rankOn objDevice
/-- Rank in force on a doorway. -/
def Dev.doorRank (x : Dev) (d : DoorId) : Nat := x.rankOn (objDoor d.val)
/-- Reaction in force on an axis (R440). -/
def Dev.axisRank (K : Memory) (x : Dev) (a : AxisId) : Nat :=
  max (x.rankOn (objAxis a.val))
    (match K.owner a with
     | some (d, _) => if x.doorRank d ≥ 6 then 3 else 0
     | none => 0)
/-- HEALTHY of R395. -/
def Dev.healthy (x : Dev) : Bool :=
  x.isSealed && decide (8 ≤ x.twin.wdogRun) && (match x.twin.wdogFrame with
    | some f => decide (x.time.frames ≤ f + 1)
    | none => false) && x.twin.selftest.isNone && decide (x.unitRank < 7)
/-- Byte 1 of the Isthmus header (R401). -/
def Dev.health1 (x : Dev) : Nat :=
  (if x.twin.unitB then 1 else 0) + (if x.twin.pref then 2 else 0) + (if x.isSealed then 4 else 0) +
  (if x.holding then 8 else 0) + (if x.twin.summit = .claiming then 16 else 0) + (if x.twin.stale then 32 else 0) +
  (if x.healthy then 64 else 0) + (if x.twin.summit = .demoted then 128 else 0)

/-! ### The record queue (R425, R427, R435) -/

/-- Record `e` of the queue goes after record `r`, raised now: one of the same cycle with a higher object code, or of two faults of one
object the one with the higher fault code (R425, R444). -/
def RawRec.after (r e : RawRec) : Bool :=
  decide (e.at' / 4 = r.at' / 4) && (decide (r.source < e.source) ||
    (decide (r.source = e.source ∧ r.type = 0x0020 ∧ e.type = 0x0020) &&
      decide (leNat (slice r.payload 0 2) < leNat (slice e.payload 0 2))))
/-- A raised record takes its place in the queue (R425, R444). (DEDUCED: log entry 11) -/
def enqueueRec (r : RawRec) (q : List RawRec) : List RawRec :=
  q.takeWhile (fun e => !r.after e) ++ r :: q.dropWhile (fun e => !r.after e)
/-- A record is raised: queued, or counted as lost, unwritten or raised since the power-fail warning. -/
def Dev.record (type source : Nat) (payload : List Byte) (hdr : Option Hdr) (x : Dev) : Dev :=
  let c := x.cairn
  let c' :=
    if c.st = .failed then { c with unwritten := satInc 32 c.unwritten }
    else if c.pf then { c with sincePf := c.sincePf + 1 }
    else
      let r : RawRec := ⟨type, source, padTo 8 payload, x.time.cyc, hdr⟩
      if c.queue.length < 512 then { c with queue := enqueueRec r c.queue }
      else
        let lost := { c with qlost := satInc 32 c.qlost, gapRun := c.gapRun + 1 }
        match c.queue.getLast? with
        | some e =>
          if r.after e then { lost with queue := (enqueueRec r c.queue).take 512, unplaced := c.unplaced ++ e.hdr.toList } else lost
        | none => lost
  { x with cairn := c' }

/-! ### Link output and interrupts (R292, R293, R452, R503) -/

/-- BAR4 reads its reset value where nothing was written: every vector masked (PRESUMED from PCI Express). (PRESUMED: log entry 126) -/
def bar4Reset (k : Nat) : Word := if k < 0x400 ∧ k % 16 = 12 then 1 else 0
/-- Memory requests may be issued (R270). -/
def Dev.linkOk (x : Dev) : Bool := x.host.bme && !x.host.lost
/-- A message of a vector may be sent now: MSI-X Enable set, neither Function Mask nor the vector's mask set, and the link up
(R265, R266, R293). (PRESUMED: log entry 126) -/
def Dev.msixOpen (x : Dev) (v : Fin 64) : Bool :=
  let h := x.host
  h.pcie.msixEn && !h.pcie.msixMask && !(NMap.get bar4Reset h.bar4 (16 * v.val + 12)).getLsbD 0 && x.linkOk
/-- Vector `v` is signalled: a message, or its pending bit while it is masked or no request may be issued. -/
def Dev.msix (v : Fin 64) (x : Dev) : Dev :=
  let h := x.host
  if x.msixOpen v = false then
    { x with host := { h with msixPend := h.msixPend ||| (1 <<< v.val) } }
  else { x with host := { h with link := h.link ++ [.msix v] } }
/-- Messages of the pending vectors that may now be sent, in ascending order. -/
def Dev.msixFlush (x : Dev) : Dev :=
  x.each 64 (fun v y =>
    if y.host.msixPend.getLsbD v.val ∧ y.msixOpen v = true then
      { y with host := { y.host with
          msixPend := y.host.msixPend &&& ~~~((1 : BitVec 64) <<< v.val), link := y.host.link ++ [.msix v] } }
    else y)
/-- A posted write of bytes to a bus address. -/
def Dev.post (addr : Nat) (bytes : List Byte) (x : Dev) : Dev :=
  if x.linkOk then { x with host := { x.host with link := x.host.link ++ [.write addr bytes] } }
  else if x.host.lost then x
  else { x with host := { x.host with held := x.host.held ++ [.write addr bytes] } }
/-- Bytes written into a buffer from its byte `k`, one posted write for each page they touch. -/
def Dev.postBuf (b : Buf) (k : Nat) (bytes : List Byte) (x : Dev) : Dev :=
  match b.pages with
  | [] => x.post (b.addr + k) bytes
  | _ :: _ =>
    let pos := b.addr % 4096 + k
    x.over (List.range ((pos + bytes.length + 4095) / 4096 - pos / 4096)) (fun i y =>
      let lo := max pos ((pos / 4096 + i) * 4096)
      let hi := min (pos + bytes.length) ((pos / 4096 + i + 1) * 4096)
      y.post (bufAddr b (lo - b.addr % 4096)) ((bytes.drop (lo - pos)).take (hi - lo)))
/-- The Atoll's index, state or halt reason changed (R275). -/
def Dev.changedAtl (K : Memory) (n : AtollId) (x : Dev) : Dev :=
  if K.atlWb n.val = 0 then x else x.modAtl n (fun a => { a with wbDue := true })
/-- The Atoll signals its vector once the write-back that is due has been issued; at once when none is (R292). -/
def Dev.signalAtl (K : Memory) (n : AtollId) (x : Dev) : Dev :=
  if (x.atl n).wbDue then x.modAtl n (fun a => { a with irqDue := true })
  else match finOf 64 (K.atlVec n.val) with
    | some v => x.msix v
    | none => x
/-- The Atoll enters a state with a reason. -/
def Dev.setAtl (K : Memory) (n : AtollId) (st : AtState) (r : AtReason) (x : Dev) : Dev :=
  if (x.atl n).st = st ∧ (x.atl n).reason = r then x
  else (x.modAtl n (fun a => { a with st := st, reason := r })).changedAtl K n

/-! ### Events (R448 to R454) -/

/-- An action is held for trigger `k` (R454). -/
def Memory.heldFor (K : Memory) (k : Fin 8) (p : Pend) : Bool :=
  p.held && (match p.hdr.src with
    | .host n | .mirror n => decide (n.val = K.trigAtoll k.val)
    | _ => false)
/-- The held actions a firing of trigger `k` takes: the oldest under ONE, every one under ALL (R454). -/
def Dev.trigTakes (K : Memory) (k : Fin 8) (x : Dev) : List Pend :=
  let held := x.sched.pend.filter (K.heldFor k)
  if K.trigAll k.val then held else held.take 1
/-- Trigger `k` fires for source `e`: the held actions it takes become timed actions (R454). -/
def Dev.fireOne (K : Memory) (k : Fin 8) (e : Nat) (x : Dev) : Dev :=
  let took := x.trigTakes K k
  let miss := x.evt.trigMiss.get k
  let launch := x.tt + K.trigDelay k.val
  let arm := fun (p : Pend) => { p with held := false, launch := launch, deadline := launch + K.atlSlack (K.trigAtoll k.val) }
  { x with
    evt := { x.evt with
      firings := x.evt.firings ++ [⟨k, e, x.time.cyc, took, miss⟩]
      trigMiss := if took.isEmpty then x.evt.trigMiss.set k.val (satInc 16 miss) k.isLt else x.evt.trigMiss }
    sched := { x.sched with pend := x.sched.pend.map (fun q => if took.any (fun p => decide (q.hdr.uid = p.hdr.uid)) then arm q else q) } }
/-- A firing is taken back. -/
def Dev.unfire (f : Firing) (x : Dev) : Dev :=
  { x with
    evt := { x.evt with trigMiss := x.evt.trigMiss.set f.trig.val f.miss f.trig.isLt }
    sched := { x.sched with pend := x.sched.pend.map (fun q => (f.took.find? (fun p => decide (q.hdr.uid = p.hdr.uid))).getD q) } }
/-- Source `e` fires trigger `k`: once in a cycle, and in ascending order of the sources that fire triggers in it, so those it
comes before fire after it (R450, R454). (DEDUCED: log entry 47) -/
def Dev.fireTrig (K : Memory) (k : Fin 8) (e : Nat) (x : Dev) : Dev :=
  let now := x.evt.firings.filter (fun f => decide (f.cyc = x.time.cyc))
  if now.any (fun f => decide (f.trig = k ∧ f.src ≤ e)) then x
  else
    let later := now.filter (fun f => decide (e < f.src))
    let y := later.foldl (fun z f => z.unfire f)
      ({ x with evt := { x.evt with firings := now.filter (fun f => decide (f.src ≤ e)) } } : Dev)
    (later.filter (fun f => decide (f.trig ≠ k))).foldl (fun z f => z.fireOne K f.trig f.src) (y.fireOne K k e)
/-- Place on the link of a message that source `e` signals: behind all, but before those of higher-numbered sources raised in the
same cycle (R450). -/
def Dev.signalAt (e : Nat) (x : Dev) : Nat :=
  x.evt.signals.foldl (fun n r => if r.cyc = x.time.cyc ∧ e < r.src then min n r.place else n) x.host.link.length
/-- Source `e` signals vector `v` (R450, R452). (DEDUCED: log entry 11) -/
def Dev.signal (e : Nat) (v : Fin 64) (x : Dev) : Dev :=
  if x.msixOpen v = false then x.msix v
  else
    let n := x.signalAt e
    let now := x.evt.signals.filter (fun r => decide (r.cyc = x.time.cyc))
    let moved := now.map (fun (r : Signal) => if n ≤ r.place then { r with place := r.place + 1 } else r)
    { x with
      host := { x.host with link := x.host.link.take n ++ .msix v :: x.host.link.drop n }
      evt := { x.evt with signals := moved ++ [⟨e, x.time.cyc, n⟩] } }

/-- A source of the event matrix is raised by object `obj` with condition code `cond`; `detail` fills bytes 22 to 27 of
its EVENT record (R449, R451 to R454). -/
def Dev.event (K : Memory) (e obj cond : Nat) (detail : Nat) (x : Dev) : Dev :=
  if h : e < 256 then
    let x1 := { x with evt := { x.evt with cause := x.evt.cause.set e (BitVec.ofNat 32 (obj * 65536 + cond)) h } }
    let x2 := match K.evtVec e with
      | none => x1
      | some v =>
        let was := x1.evt.pend.getLsbD e
        let y := { x1 with evt := { x1.evt with
          pend := x1.evt.pend ||| (1 <<< e), cnt := x1.evt.cnt.set e (satInc 16 (x1.evt.cnt.get ⟨e, h⟩)) h } }
        if was then y else y.signal e v
    let x3 := if K.evtCairn e && !decide (0xF0 ≤ e ∧ e ≤ 0xF5) then
        x2.record 0x0021 (objEvt e) (leBytes 1 cond ++ [0] ++ leBytes 6 detail) none
      else x2
    match K.evtTrig e with
    | none => x3
    | some k => x3.fireTrig K k e
  else x

/-- A change of the host side alone. -/
def Dev.modHost (f : HostSide → HostSide) (x : Dev) : Dev := { x with host := f x.host }
/-- An uncorrectable error of the transaction layer, bit `b` of its registers (R283): its status, with the severity the host has set;
and, where it is not masked, the First Error Pointer and the Header Log of the first one and the error message. (PRESUMED: log entry 140) -/
def Dev.uncorrectable (b : Nat) (header : BitVec 128) (x : Dev) : Dev :=
  let p := x.host.pcie
  let fatal := p.uncSev.getLsbD b
  let masked := p.uncMask.getLsbD b
  let serr := p.cmd.getLsbD 8
  let first := !masked && !p.unc.getLsbD p.firstErr
  let send := !masked && (serr || p.devCtl.getLsbD (if fatal then 2 else 1))
  x.modHost (fun h => { h with
    pcie := { p with
      unc := p.unc ||| (1#32 <<< b)
      devSta := p.devSta ||| (if fatal then 4 else 2)
      sta := if send && serr then p.sta ||| 0x4000 else p.sta
      firstErr := if first then b else p.firstErr
      headerLog := if first then header else p.headerLog }
    link := if send then h.link ++ [.errMsg fatal] else h.link })
/-- A read of host memory has ended in error: which of Unsupported Request, Completer Abort, poisoned data and completion timeout
it was is free; it shows in the status and error reporting registers (R283, R327). (PRESUMED: log entry 140) -/
def Dev.readError (x : Dev) : Dev :=
  let k := x.fresh.toNat % 4
  let y := x.drawn.modHost (fun h => { h with pcie := { h.pcie with
    sta := h.pcie.sta ||| (if k = 0 then 0x2000 else if k = 1 then 0x1000 else if k = 2 then 0x8000 else 0) } })
  if k < 2 then y
  else if k = 2 then y.drawn.drawn.uncorrectable 12 (y.fresh ++ Config.fresh (y.free + 1))
  else y.uncorrectable 14 0

/-! ### Actions and completions (R317 to R320, R387) -/

/-- An outcome takes its place: after every outcome of an earlier cycle and, within a cycle, in ascending Atoll number and
then in ring order (R292). (DEDUCED: log entry 67) -/
def insertCompl (c : Compl) (l : List Compl) : List Compl :=
  let old := l.takeWhile (fun e => decide (e.cyc < c.cyc))
  let same := l.drop old.length
  let before := same.takeWhile (fun e => decide (e.cyc = c.cyc) && decide (e.atoll.val < c.atoll.val ∨ (e.atoll.val = c.atoll.val ∧ e.uid ≤ c.uid)))
  old ++ before ++ c :: same.drop before.length
/-- A completion is due: kept for writing, or discarded and counted while the host is lost (R269, R284). (DEDUCED: log entry 65) -/
def Dev.outcome (c : Compl) (x : Dev) : Dev :=
  if x.host.lost then { x with host := { x.host with complLost := satInc 32 x.host.complLost } }
  else { x with host := { x.host with outcomes := insertCompl c x.host.outcomes } }
/-- The descriptor at DEV_IDX is not known to be held back by R286 or R287. -/
def Atoll.headOk (a : Atoll) : Bool :=
  match a.head with
  | none => true
  | some h => (!h.fence || a.inChain || a.live.isEmpty) && (h.look || a.live.all (fun l => l.released))
/-- An Atoll that is IDLE for an ineligible descriptor runs on once it is eligible (R282, R286, R287). -/
def Atoll.reeval (a : Atoll) : Atoll :=
  if a.st = .idle ∧ a.head.isSome = true ∧ a.headOk = true then
    { a with st := .running, wbDue := a.wbDue || (match a.head with
        | some h => h.wb
        | none => false) }
  else a
/-- Descriptors of an Atoll are dropped from those accepted and not completed. -/
def Atoll.done (now : Nat) (p : Live → Bool) (a : Atoll) : Atoll :=
  let rest := a.live.filter (fun l => !(p l))
  Atoll.reeval { a with
    live := rest
    relAt := if a.live.all (fun l => l.released) then a.relAt else now
    doneAt := if a.live.isEmpty then a.doneAt else now }
/-- The outcome of an action: an entry of the completion Atoll for a host action, nothing for any other source. `tt` is the
TT field of R318 and `bus` is true for a bus frame. -/
def Dev.completeTt (h : Hdr) (code : Nat) (bus : Bool) (tt : Nat) (x : Dev) (after : Nat := 0) : Dev :=
  match h.src with
  | .host n =>
    (x.modAtl n (Atoll.done x.time.cyc (fun l => decide (l.uid = h.uid)))).outcome
      { atoll := n, seq := h.seq, status := finalStatus code h.late h.cancelLate bus, late := h.late
        cancelLate := h.cancelLate, notFinal := false, tt := tt, irq := h.irq, uid := h.uid, cyc := x.time.cyc + after }
  | _ => x
/-- The outcome of a released action: its TT field is the actual launch TT (R318). -/
def Dev.complete (h : Hdr) (code : Nat) (x : Dev) : Dev := x.completeTt h code false h.tt
/-- The same for an action that may have no header, a move or a command a sequencer issues itself. -/
def Dev.completeOpt (h : Option Hdr) (code : Nat) (x : Dev) : Dev :=
  match h with
  | some h => x.complete h code
  | none => x

/-- The BUS_COMMAND record, MAP_STATUS and the mapper's events, once every action of a mapped frame is decided (R387). -/
def Dev.mapDone (K : Memory) (m : Mapped) (x : Dev) : Dev :=
  let p : List Byte := [m.cmd, BitVec.ofNat 8 m.source, m.accepted, m.gateRef, m.stateRef,
    BitVec.ofNat 8 ((if m.late then 1 else 0) + (if m.full then 2 else 0)), BitVec.ofNat 8 (m.source / 256), m.byte3]
  let y := { x with parts := { x.parts with
    mapStatus := p, mapped := x.parts.mapped.filter (fun q => decide (q.key ≠ m.key)) } }
  let z := (y.record 0x0013 (m.ch.val * 256 + m.rule) p none).event K 0xE7 objDevice 1 0
  if m.gateRef ≠ 0 ∨ m.stateRef ≠ 0 then z.event K 0xE8 objDevice 1 0 else z

/-- One target of a mapped frame is decided (R387). -/
def Dev.mapDecide (K : Memory) (key : Nat) (d : DoorId) (code : Nat) (late : Bool) (x : Dev) : Dev :=
  match x.parts.mapped.find? (fun m => decide (m.key = key)) with
  | none => x
  | some m =>
    let bit : BitVec 8 := 1 <<< d.val
    let ok := decide (code = stOK ∨ code = stLate)
    let m' := { m with
      todo := m.todo &&& ~~~bit
      accepted := if ok then m.accepted ||| bit else m.accepted
      gateRef := if code = stGate then m.gateRef ||| bit else m.gateRef
      stateRef := if !ok && decide (code ≠ stGate) then m.stateRef ||| bit else m.stateRef
      late := m.late || late }
    let y := { x with parts := { x.parts with
      mapped := x.parts.mapped.map (fun q => if q.key = key then m' else q) } }
    if m'.todo = 0 then y.mapDone K m' else y

/-- The outcome of a doorway command, for a host action and for a mapped one. -/
def Dev.doorOutcome (K : Memory) (h : Hdr) (d : DoorId) (code : Nat) (x : Dev) : Dev :=
  match h.src with
  | .mapped _ k => x.mapDecide K k d code h.late
  | _ => x.complete h code

/-- The next accept number. -/
def Dev.newUid (x : Dev) : Dev := { x with sched := { x.sched with nextUid := x.sched.nextUid + 1 } }
/-- The header of an action the device issues itself, launched now. -/
def Dev.ownHdr (x : Dev) (src : Src) : Hdr :=
  { src := src, uid := x.sched.nextUid, seq := 0, irq := false, mirror := false, tt := x.tt, late := false,
    cancelLate := false }

/-! ### Gaining and losing the Summit (R394, R398, R399, R418) -/

/-- The SUMMIT record of a change of cause `cause`, and the SUMMIT_CHANGE source. -/
def Dev.summitRecord (K : Memory) (cause : Nat) (x : Dev) : Dev :=
  (x.record 0x0030 (if x.twin.unitB then 0xB001 else 0xB000)
    (leBytes 1 cause ++ leBytes 1 x.health1 ++ leBytes 4 x.twin.mseqApplied ++ leBytes 1 x.twin.peer ++ [0]) none).event
    K 0xEC objDevice 1 0
/-- The driver of the shared clocks of a pair changes: decimators on such a clock give invalid outputs until their windows are full
again, and a new driver starts SDCK and the SSI clock at their next aligned instants. A single unit drives its clocks throughout (R236). -/
def Dev.clockDriverChange (K : Memory) (x : Dev) : Dev :=
  if !x.twin.en then x
  else x.each 24 (fun a y => y.modAx a (fun v =>
    let p := { v.port with sdWait := true, sdPh := 2 * max 1 (K.sdDiv a.val), sdAt := x.time.cyc, ssiAt := none }
    { v with port :=
      if K.sdManch a.val then p
      else { p with sdGrace := some x.time.cyc, sd := p.sd.map (fun c => { c with bits := [], cnt := 0, run := 0 }) } }))
/-- The unit leaves HOLDING for a state: gate-command outputs go to high impedance (R398). -/
def Dev.leaveHolding (K : Memory) (cause : Nat) (nxt : Summit) (x : Dev) : Dev :=
  let y := { x with twin := { x.twin with summit := nxt, drive := false } }
  let z := (y.each 24 (fun a v => v.modAx a (fun w => { w with port := { w.port with out := .hiZ } }))).clockDriverChange K
  z.summitRecord K cause
/-- A frame format is enabled, by the adopted candidate where there is one (R346, R350). -/
def Dev.fmtOn (K : Memory) (x : Dev) (c : ChanId) (f : Fmt) : Bool :=
  let v := x.ch c
  if v.rateFound then
    match f with
    | .cc => true
    | .fd => K.bit (chBase c.val + 0x280 + 16 * v.rateUsed) 2
    | .xl => K.bit (chBase c.val + 0x280 + 16 * v.rateUsed) 3
  else K.fmtEn c.val f
/-- The formats a channel of the given number is configured for. -/
def Dev.fmtFor (K : Memory) (x : Dev) (n : Nat) (f : Fmt) : Bool :=
  match finOf 8 n with
  | some c => x.fmtOn K c f
  | none => false
/-- The unit enters HOLDING: diagnosis starts with cleared timers, a batch being received is discarded, and a stale unit
makes a safe-hold takeover in its first frame (R399, R408, R412). -/
def Dev.enterHolding (K : Memory) (cause : Nat) (x : Dev) : Dev :=
  let t := x.twin
  let y := { x with twin := { t with
    summit := .holding, held := true, drive := t.en, safeTake := t.stale
    rx := none, mirrorDiscard := if t.rx.isSome then satInc 32 t.mirrorDiscard else t.mirrorDiscard } }
  let clr := fun (o : OutPin) => { o with timer := 0, lowLoad := 0, reported := false, noOutput := false, backFed := false }
  let z := ((y.each 32 (fun o v => v.modOut o clr)).each 4 (fun j v => v.modSout j clr)).clockDriverChange K
  z.summitRecord K (if t.stale then 0x03 else cause)
/-- A reaction of rank Unit demotion is in force: the unit releases the Summit (R394). -/
def Dev.demote (K : Memory) (cause : Nat) (x : Dev) : Dev :=
  match x.twin.summit with
  | .holding => x.leaveHolding K cause .demoted
  | .standby | .claiming | .backoff => { x with twin := { x.twin with summit := .demoted, drive := false } }
  | .off | .demoted => x

/-! ### Ledger (R89, R429) -/

/-- Counter `i` of doorway `d` counts one, saturating; a commit becomes due within 20 ms. -/
def Dev.ledgerAdd (d : DoorId) (i : Fin 8) (n : Nat) (x : Dev) : Dev :=
  let y := x.modDw d (fun w => { w with
    ledger := w.ledger.set i.val (min (w.ledger.get i + n) (2 ^ 32 - 1)) i.isLt })
  { y with cairn := { y.cairn with
    dirtyAt := match y.cairn.dirtyAt with
      | some c => some c
      | none => some y.time.cyc } }

end Sys2Proof.Machine
end

