-- ==== Sys2Proof/Machine/Motion.lean ====
section
/-! DEFINITION. The profile generator of one axis (R115 to R138, R142): the per-period algorithm, blending, stops, changes
while moving and the move queue, as functions of the generator's own data. -/

namespace Sys2Proof.Machine

/-- Nearest whole quotient, halves rounded up (away from zero for a natural number). -/
def rdiv (n d : Nat) : Nat := (2 * n + d) / (2 * d)
/-- Nearest whole quotient of an integer, ties away from zero. -/
def rdivI (n : Int) (d : Nat) : Int := if n < 0 then -(rdiv n.natAbs d : Int) else (rdiv n.natAbs d : Int)
/-- 2^32, the set-point's fraction (R120). -/
def fx : Int := 4294967296
/-- A set-point in whole counts, ties away from zero (R122). -/
def wholeCount (x : Int) : Int := rdivI x 4294967296

/-- What one period of a generator reads besides its own data. -/
structure GenEnv where
  /-- Period code p of R11. -/
  p : Nat
  edge : Int
  sideNeg : Bool
  /-- Closing direction while the creep extension is in force (R124). -/
  ext : Option Int
  /-- Prediction limit in force, counts/s (R103). -/
  pred : Option Nat
  /-- Measured position latched at the boundary; none for a stepper and for a planned period. -/
  meas : Option Int
deriving DecidableEq, Repr

/-- Speeds in 2^−16 counts/s and speed changes of one period, of one profile set (R120). -/
structure Rates where
  start : Nat
  vb : Nat
  ridge : Nat
  vs : Nat
  creep : Nat
  blend : Nat
  a1 : Nat
  a2 : Nat
  d2 : Nat
  d1 : Nat
  /-- D2 and D1 in counts/s². -/
  D2 : Nat
  D1 : Nat
deriving DecidableEq, Repr

/-- Speed change of one period of code `p` at a rate in counts/s², in 2^−16 counts/s. -/
def rateT (p r : Nat) : Nat := rdiv (r * 65536 * 2 ^ p) 40000
/-- The rates of a profile set at period code `p`. -/
def ratesOf (p : Nat) (s : ProfSet) : Rates :=
  { start := s.vStart * 65536, vb := s.vBreak * 65536, ridge := s.vRidge * 65536, vs := s.vStop * 65536
    creep := s.vCreep * 65536, blend := s.vBlend * 65536, a1 := rateT p s.a1, a2 := rateT p s.a2
    d2 := rateT p s.d2, d1 := rateT p s.d1, D2 := s.d2, D1 := s.d1 }
/-- Advance of one period from speed `v` to speed `vc`, in 2^−32 counts: (v + vc) / 2 × T. -/
def adv (p v vc : Nat) : Nat := rdiv ((v + vc) * 65536 * 2 ^ p) 80000
/-- down(v, w) of R120. -/
def down (r : Rates) (v w : Nat) : Nat :=
  if v > r.vb then max (v - r.d2) (max r.vb w) else max (v - r.d1) w
/-- S(v, w) of R120 in 2^−32 counts; each quotient is rounded as R120 rounds a product. -/
def stopDist (r : Rates) (v w : Nat) : Nat :=
  if v ≤ w then 0
  else if w < r.vb ∧ r.vb < v then
    rdiv (v * v - r.vb * r.vb) (2 * r.D2) + rdiv (r.vb * r.vb - w * w) (2 * r.D1)
  else if v > r.vb then rdiv (v * v - w * w) (2 * r.D2)
  else rdiv (v * v - w * w) (2 * r.D1)
/-- Segment of a period whose speed goes from `v` to `vc` (R121). -/
def segOf (r : Rates) (v vc : Nat) : Seg :=
  if vc > v then (if v < r.vb then .a1 else .a2)
  else if vc < v then (if v > r.vb then .d2 else .d1)
  else .ridge

def Gen.rates (g : Gen) (e : GenEnv) (s : Fin 4) : Rates := ratesOf e.p (g.sets.get s)
/-- Direction of CREEP_SIDE. -/
def GenEnv.side (e : GenEnv) : Int := if e.sideNeg then -1 else 1
/-- The set-point lies in the creep zone (the set of positions of R123). -/
def GenEnv.inZone (e : GenEnv) (x : Int) : Bool := decide (0 ≤ (x - e.edge * fx) * e.side)
/-- A move in direction `dir` is a closing move under the creep extension (R124). -/
def GenEnv.extOn (e : GenEnv) (dir : Int) : Bool := decide (e.ext = some dir)

/-- A constraint point of R119: distance ahead, speed, the rates that govern it, and 0 creep edge, 1 target, 2 and up the joints. -/
structure ConPt where
  dist : Int
  w : Nat
  r : Rates
  kind : Nat
deriving DecidableEq, Repr

/-- Rates, speed limit and constraint points of a current move (R118, R119, R131, R136). -/
def genCtx (e : GenEnv) (g : Gen) (m : Move) : Rates × Nat × List ConPt :=
  let pc := g.rates e m.set
  let r := match g.joints with
    | j :: _ => g.rates e j.move.set
    | [] => pc
  let ext := e.extOn g.dir
  let creep := decide (pc.creep ≠ 0) && (ext || decide (g.dir = e.side))
  let inz := ext || e.inZone g.x
  let lim := min pc.ridge (g.cmdLimit * 65536)
  let lim := match e.pred with
    | some v => min lim (v * 65536)
    | none => lim
  let lim := g.joints.foldl (fun l j => min l (g.rates e j.move.set).ridge) lim
  let lim := if creep && inz then min lim pc.creep else lim
  let lim := if g.short = 0 then lim
    else min lim (match g.joints[g.short - 2]?, decide (2 ≤ g.short) with
      | some j, true => j.speed
      | _, _ => pc.vs)
  let pts := [ConPt.mk (g.dir * (m.target * fx - g.x)) pc.vs pc 1] ++
    g.joints.zipIdx.map (fun j => ConPt.mk (g.dir * (j.1.pos * fx - g.x)) j.1.speed (g.rates e j.1.move.set) (2 + j.2)) ++
    (if creep && !inz then [ConPt.mk (g.dir * (e.edge * fx - g.x)) pc.creep r 0] else [])
  (r, lim, pts)

/-- Step 1 of R120: the candidate speed from the limit. -/
def candSpeed (r : Rates) (v lim : Nat) : Nat :=
  if v < lim then (if v < r.vb then min (v + r.a1) (min r.vb lim) else min (v + r.a2) lim)
  else if v > lim then down r v lim
  else v
/-- What the braking check gives: the speed, the end points that bound, the latest first, and the rates that govern the change of speed:
those of the candidate, or of a point that calls for a fall (R131). A point that only caps a rise leaves them. -/
structure Braked where
  vc : Nat
  ends : List Nat
  r : Rates
deriving DecidableEq, Repr

/-- Step 2 of R120: the braking check against each point ahead, from the candidate speed `vc` of the rates `r`. -/
def brake (e : GenEnv) (v : Nat) (pts : List ConPt) (r : Rates) (vc : Nat) : Braked :=
  pts.foldl (fun (acc : Braked) q =>
    if 0 < q.dist ∧ q.dist - (adv e.p v acc.vc : Int) < (stopDist q.r acc.vc q.w : Int) then
      let w := if v > q.w then down q.r v q.w else q.w
      { vc := min acc.vc w, ends := if q.kind = 0 then acc.ends else q.kind :: acc.ends
        r := if w < acc.vc ∧ w < v then q.r else acc.r }
    else acc) { vc := vc, ends := [], r := r }
/-- What a period of a current move comes to: the rates that set its speed, those of the point ahead that called for a fall among
them (R121, R131), the speed, the end point that bound, and whether this is the hand-over period of the move: its own end binds,
or would be reached (R131). -/
structure PeriodSpeed where
  r : Rates
  vc : Nat
  bound : Nat
  due : Bool
deriving DecidableEq, Repr

/-- Steps 1 and 2 of R120 for a current move. -/
def genSpeed (e : GenEnv) (g : Gen) (m : Move) : PeriodSpeed :=
  let c := genCtx e g m
  let b := brake e g.v c.2.2 c.1 (candSpeed c.1 g.v c.2.1)
  { r := b.r, vc := b.vc, bound := b.ends.head?.getD g.short
    due := decide (1 ∈ b.ends) || decide (g.dir * (m.target * fx - g.x) ≤ (adv e.p g.v b.vc : Int)) }

/-- Reasons of R143: 1 TARGET, 2 STOPPED, 3 REPLACED, 4 FLUSHED. -/
structure MoveEnd where
  move : Move
  reason : Nat
deriving DecidableEq, Repr

/-- A field of a profile set written from a PROFILE_CHANGE word (R302). -/
def setField (s : ProfSet) (i v : Nat) : ProfSet :=
  match i with
  | 0 => { s with vStart := v } | 1 => { s with vBreak := v } | 2 => { s with vRidge := v } | 3 => { s with vStop := v }
  | 4 => { s with a1 := v } | 5 => { s with a2 := v } | 6 => { s with d2 := v } | 7 => { s with d1 := v }
  | 8 => { s with vCreep := v } | 9 => { s with vBlend := v }
  | _ => s
/-- A set with the masked fields replaced. -/
def applyMask (s : ProfSet) (mask : BitVec 11) (vals : List Word) : ProfSet :=
  (List.range 10).foldl (fun s i => if mask.getLsbD i then setField s i (vals.getD i 0).toNat else s) s
/-- A change written into the working copies (R117, R135). -/
def applyChange (c : SetChange) (g : Gen) : Gen :=
  let g1 := if c.mask.getLsbD 10 then { g with cmdLimit := (c.vals.getD 10 0).toNat } else g
  { g1 with sets := g1.sets.set c.set.val (applyMask (g1.sets.get c.set) c.mask c.vals) c.set.isLt }
/-- R116: the relations between the fields of a set. -/
def setOk (s : ProfSet) : Bool :=
  decide (s.vStart ≤ s.vBreak ∧ s.vBreak ≤ s.vRidge ∧ s.vStop ≤ s.vBreak ∧ (s.vCreep = 0 ∨ s.vStop ≤ s.vCreep))

/-- A change that no longer shortens a stop under way. (DEDUCED: log entry 42) -/
def noShort (c : SetChange) : SetChange := { c with short := 0 }
/-- Profile sets the present motion uses. -/
def Gen.uses (g : Gen) (s : Fin 4) : Bool :=
  (match g.cur with
   | some m => decide (m.set = s)
   | none => false) ||
  g.joints.any (fun j => decide (j.move.set = s)) ||
  (match g.ramp with
   | some r => decide (r.set = s)
   | none => false)
/-- A move ends: a held change applies at the end of the move it was held for, behind an earlier change of its set that is still to
apply, unless a move that runs on uses its set (R135, R136). -/
def endMove (m : Move) (reason : Nat) (ge : Gen × List MoveEnd) : Gen × List MoveEnd :=
  let g := ge.1
  let due := g.heldChanges.filter (fun c => !g.uses c.set)
  let behind := fun (c : SetChange) => g.next.any (fun d => decide (d.set = c.set))
  ({ (due.filter (fun c => !behind c)).foldl (fun g c => applyChange c g) g with
      heldChanges := g.heldChanges.filter (fun c => g.uses c.set)
      next := g.next.map noShort ++ due.filter behind },
   ge.2 ++ [⟨m, reason⟩])

/-- Joint speed of R130 for the joint at the end of `m` before `n`; 0 when V_BLEND of `n` forbids blending. -/
def jointSpeed (e : GenEnv) (g : Gen) (m n : Move) : Nat :=
  let rn := g.rates e n.set
  let rm := g.rates e m.set
  if rn.blend = 0 then 0
  else
    let s := min rn.blend (min rm.ridge (min rn.ridge (g.cmdLimit * 65536)))
    if rn.creep ≠ 0 ∧ (e.extOn g.dir = true ∨ (g.dir = e.side ∧ e.inZone (m.target * fx) = true)) then min s rn.creep else s
/-- The move behind `m` is blendable into it, with its joint speed (R130). -/
def blendable (e : GenEnv) (g : Gen) (m n : Move) : Option Nat :=
  if g.dir * (n.target - m.target) ≤ 0 then none
  else if jointSpeed e g m n = 0 then none
  else some (jointSpeed e g m n)

/-- An end point code after the nearest joint is passed. -/
def lessJoint (k : Nat) : Nat := if k = 2 then 0 else if 3 ≤ k then k - 1 else k
/-- Joints that the set-point has reached are passed: the moves that end at them complete (R131, R143). -/
def passJoints : List Joint → Gen × List MoveEnd → Gen × List MoveEnd
  | [], ge => ge
  | j :: rest, ge =>
    if 0 ≤ ge.1.dir * (ge.1.x - j.pos * fx) then
      passJoints rest (endMove j.move 1
        ({ ge.1 with joints := rest, short := lessJoint ge.1.short, bound := lessJoint ge.1.bound }, ge.2))
    else ge
def passJoint (ge : Gen × List MoveEnd) : Gen × List MoveEnd := passJoints ge.1.joints ge

/-- At rest: the head move took effect while the axis moved, so its overshoot is known (R138). -/
def atRest (g : Gen) : Gen :=
  match g.queue with
  | m :: rest =>
    match m.dirOld with
    | some d =>
      let o := d * (wholeCount g.x - m.target)
      if 0 < o then
        { g with
          queue := { m with overshoot := true } :: rest
          overshoot := min o.toNat 4294967295
          overshootSeq := match m.hdr with
            | some h => h.seq
            | none => 0 }
      else g
    | none => g
  | [] => g

/-- Step 3 of R120 with speed `vc`: the advance, the Stop jump at the target, and passing a joint. -/
def genAdvance (e : GenEnv) (g : Gen) (m : Move) (r : Rates) (vc : Nat) (first : Bool) : Gen × List MoveEnd :=
  let step : Int := adv e.p g.v vc
  if g.dir * (m.target * fx - g.x) ≤ step then
    let a := passJoint ({ g with x := m.target * fx }, [])
    let b := endMove m 1 ({ a.1 with cur := none, v := 0, seg := .stop, short := 0, bound := 0 }, a.2)
    (atRest b.1, b.2)
  else
    passJoint ({ g with x := g.x + g.dir * step, v := vc, seg := if first then .start else segOf r g.v vc }, [])

/-- The speed of a period of the current move, the queue handed over to as far as its hand-over periods are due (R131). -/
def genHand (e : GenEnv) : Nat → Gen → Move → Gen × Move × PeriodSpeed
  | 0, g, m => (g, m, genSpeed e g m)
  | n + 1, g, m =>
    let s := genSpeed e g m
    if g.hoDone || !s.due then (g, m, s)
    else match g.queue with
      | [] => ({ g with hoDone := true }, m, s)
      | k :: rest =>
        match blendable e g m k with
        | some js => genHand e n { g with cur := some k, queue := rest, joints := g.joints ++ [⟨m.target, js, m⟩], hoDone := false } k
        | none => ({ g with hoDone := true }, m, s)
/-- A period of current move `m`; `first` is its first from standstill. -/
def genRun (e : GenEnv) (g : Gen) (m : Move) (first : Bool) : Gen × List MoveEnd :=
  let h := genHand e g.queue.length g m
  genAdvance e { h.1 with bound := h.2.2.bound, hoDone := h.1.hoDone || h.2.2.due } h.2.1 h.2.2.r h.2.2.vc first
/-- A move period: the head of the queue starts from standstill, or the current move goes on (R120, R128). A move that ends at
once leaves the next one to start from the same rest (R138). -/
def genMove (e : GenEnv) (g : Gen) : Gen × List MoveEnd :=
  match g.cur, g.queue with
  | none, [] => ({ g with v := 0, seg := .idle }, [])
  | none, m :: rest =>
    let g1 := { g with queue := rest, hoDone := false, bound := 0, short := 0 }
    if m.target * fx = g.x then
      let b := endMove m 1 ({ g1 with v := 0, seg := .idle }, [])
      (atRest b.1, b.2)
    else
      let g2 := { g1 with cur := some m, dir := if g.x < m.target * fx then 1 else -1 }
      genRun e { g2 with v := min (g2.rates e m.set).start (genCtx e g2 m).2.1 } m true
  | some m, _ => genRun e g m false

/-- The moves of joints and the current move end with a reason. -/
def endCurrent (reason : Nat) (ge : Gen × List MoveEnd) : Gen × List MoveEnd :=
  let a := ge.1.joints.foldl (fun (b : Gen × List MoveEnd) j => endMove j.move reason ({ b.1 with joints := b.1.joints.drop 1 }, b.2)) ge
  match a.1.cur with
  | some m => endMove m reason ({ a.1 with cur := none }, a.2)
  | none => a

/-- A period of a stop ramp (R132). The ramp of R137 belongs to no current move: a change held on it stays held past its end, until
the move that follows it ends (R135). (DESIGN CHOICE: log entry 162) -/
def genRamp (e : GenEnv) (g : Gen) (rp : Ramp) : Gen × List MoveEnd :=
  let r := g.rates e rp.set
  let vc := if g.v ≤ r.vs then g.v else down r g.v r.vs
  let step : Int := adv e.p g.v vc
  let hit := match g.cur with
    | some m => rp.ofMove && decide (g.dir * (m.target * fx - g.x) ≤ step)
    | none => false
  match g.cur, hit with
  | some m, true =>
    let a := passJoint ({ g with x := m.target * fx }, [])
    let b := endMove m 1 ({ a.1 with cur := none, ramp := none, v := 0, seg := .stop, short := 0, bound := 0 }, a.2)
    (atRest b.1, b.2)
  | _, _ =>
    let a := passJoint ({ g with x := g.x + g.dir * step }, [])
    if r.vs < vc then ({ a.1 with v := vc, seg := segOf r g.v vc }, a.2)
    else
      let b := endCurrent 2 ({ a.1 with v := 0, ramp := none, seg := .stop, x := wholeCount a.1.x * fx, short := 0, bound := 0 }, a.2)
      (atRest b.1, b.2)

/-- One period of the generator (R120). -/
def genStep (e : GenEnv) (g : Gen) : Gen × List MoveEnd :=
  match g.seg with
  | .frozen => (g, [])
  | .track => ({ g with v := 0, x := (e.meas.map (fun p => p * fx)).getD g.x }, [])
  | _ =>
    match g.ramp with
    | some rp => genRamp e g rp
    | none => genMove e g

/-- A change of CMD_LIMIT alone (R135). -/
def SetChange.limitOnly (c : SetChange) : Bool := decide (c.mask.toNat = 0x400)
/-- The speed of every joint taken afresh (R130, R135). -/
def rejoin (e : GenEnv) (g : Gen) : Gen :=
  { g with joints := (g.joints.zip ((g.joints.drop 1).map Joint.move ++ g.cur.toList)).map (fun j =>
      let js := jointSpeed e g j.1.move j.2
      if js = 0 then j.1 else { j.1 with speed := js }) }
/-- The period begins: changes that took effect in the preceding one apply before anything acts in it (R135), a joint's speed among
them (R130). A change of CMD_LIMIT alone leaves the speed of a joint already handed over as it is. (DEDUCED: log entry 42; DESIGN CHOICE: log entry 162) -/
def genBegin (e : GenEnv) (g : Gen) : Gen :=
  let g1 := g.next.foldl (fun g c =>
    let g' := applyChange c g
    if c.short ≠ 0 ∧ g.cur.isSome then { g' with short := c.short } else g')
    { g with next := [] }
  if g.next.all SetChange.limitOnly then g1 else rejoin e g1

/-- Every queued move is flushed (R125, R132, R133). -/
def flushQueue (g : Gen) : Gen × List MoveEnd := ({ g with queue := [] }, g.queue.map (fun m => ⟨m, 4⟩))
/-- A ramp stop takes effect: the queue is flushed; a FROZEN or TRACK stop, and a ramp under way, stand (R132, R134). While a joint
is pending the ramp follows the set of the current move, as R132 has it, not that of the move before the joint. (DESIGN CHOICE: log entry 162) -/
def genStop (g : Gen) : Gen × List MoveEnd :=
  let f := flushQueue g
  match g.seg, g.ramp, g.cur with
  | .frozen, _, _ => f
  | .track, _, _ => f
  | _, none, some m => ({ f.1 with ramp := some ⟨m.set, true⟩ }, f.2)
  | _, _, _ => f
/-- A freeze takes effect, at the set-point of the preceding period or at a given position (R133, R107). The current move ends
before the flushed ones, so MOVE_END shows the last flushed one; a MOVE_NOW ends the flushed ones first. (DESIGN CHOICE: log entry 163) -/
def genFreeze (pos : Option Int) (g : Gen) : Gen × List MoveEnd :=
  if g.seg = .track then flushQueue g
  else
    let f := flushQueue g
    let c := endCurrent 2 ({ f.1 with
      seg := .frozen, v := 0, ramp := none, short := 0, bound := 0
      x := match pos with
        | some p => p * fx
        | none => if g.seg = .frozen then g.x else wholeCount g.x * fx }, [])
    (c.1, c.2 ++ f.2)
/-- A reaction of rank Coils off takes effect (R133). (DESIGN CHOICE: log entry 163) -/
def genTrack (g : Gen) : Gen × List MoveEnd :=
  let f := flushQueue g
  let c := endCurrent 2 ({ f.1 with seg := .track, v := 0, ramp := none, short := 0, bound := 0 }, [])
  (c.1, c.2 ++ f.2)
/-- Following takes the generator over at its present set-point: what a host had moving is at rest, ended as a stop ends it (R165, R167). (DESIGN CHOICE: log entry 173) -/
def genFollow (g : Gen) : Gen × List MoveEnd :=
  let f := flushQueue g
  let c := endCurrent 2 ({ f.1 with seg := .idle, v := 0, ramp := none, short := 0, bound := 0 }, [])
  (c.1, c.2 ++ f.2)
/-- A freeze or track is no longer called for: the axis is at rest there (R133). -/
def genRelease (g : Gen) : Gen :=
  if g.seg = .frozen ∨ g.seg = .track then { g with seg := .idle, v := 0, x := wholeCount g.x * fx } else g

/-- Moves of the queue, the current move and an unpassed joint's move included (R126). (DESIGN CHOICE: log entry 177) -/
def Gen.len (g : Gen) : Nat :=
  g.queue.length + (if g.cur.isSome then 1 else 0) + g.joints.length
/-- The axis moves: it has a current move or a stop ramp. -/
def Gen.moving (g : Gen) : Bool := g.cur.isSome || g.ramp.isSome
/-- Target a RELATIVE offset of MOVE counts from (R127). (DEDUCED: log entry 154) -/
def Gen.lastTarget (g : Gen) : Int :=
  match g.queue.getLast?, g.cur with
  | some m, _ => m.target
  | none, some m => m.target
  | none, none => wholeCount g.x
/-- MOVE with room in the queue (R126, R138). -/
def genAppend (m : Move) (g : Gen) : Gen :=
  { g with queue := g.queue ++ [{ m with dirOld := if 0 < g.v then some g.dir else none }] }
/-- MOVE_NOW (R125, R129, R137). (DESIGN CHOICE: log entry 163) -/
def genMoveNow (e : GenEnv) (m : Move) (g : Gen) : Gen × List MoveEnd :=
  let f := flushQueue g
  let m1 := { m with dirOld := if 0 < g.v then some g.dir else none }
  match g.cur, g.ramp with
  | some _, none =>
    let c := endCurrent 3 f
    let r := c.1.rates e m.set
    if c.1.dir * (m.target * fx - c.1.x) < (stopDist r c.1.v r.vs : Int) then
      ({ c.1 with ramp := some ⟨m.set, false⟩, queue := [m1], short := 0, bound := 0 }, c.2)
    else ({ c.1 with cur := some m, hoDone := false, bound := 0, short := 0 }, c.2)
  | _, _ => ({ f.1 with queue := [m1] }, f.2)

/-- S to the speed of each point ahead under the sets of `g` (R135). -/
def stopNeeds (e : GenEnv) (g : Gen) : List (Int × Nat × Nat) :=
  match g.ramp, g.cur with
  | some rp, _ =>
    let r := g.rates e rp.set
    [(0, stopDist r g.v r.vs, 1)]
  | none, some m =>
    (genCtx e g m).2.2.filterMap (fun q => if 0 < q.dist then some (q.dist, stopDist q.r g.v q.w, q.kind) else none)
  | none, none => []
/-- The generator as it would stand with a set replaced and CMD_LIMIT changed, the speeds of joints taken under the new values
(R135). -/
def withSet (e : GenEnv) (s : Fin 4) (v : ProfSet) (lim : Nat) (g : Gen) : Gen :=
  rejoin e { g with sets := g.sets.set s.val v s.isLt, cmdLimit := lim }
/-- The judgement of R135 on a change to a set in use: none to hold it, else the end point whose stop it shortens. -/
def judgeChange (e : GenEnv) (s : Fin 4) (v : ProfSet) (lim : Nat) (g : Gen) : Option Nat :=
  let before := stopNeeds e g
  let after := stopNeeds e (withSet e s v lim g)
  if g.ramp.isSome ∨ g.bound ≠ 0 then
    let k := if g.ramp.isSome then 1 else g.bound
    match before.find? (fun q => decide (q.2.2 = k)), after.find? (fun q => decide (q.2.2 = k)) with
    | some o, some n =>
      if n.2.1 ≤ o.2.1 then some (if g.ramp.isNone ∧ n.2.1 < o.2.1 then k else 0) else none
    | _, _ => some 0
  else if after.all (fun q => decide ((q.2.1 : Int) ≤ q.1)) then some 0
  else none
/-- PROFILE_CHANGE at its effect (R135): the generator after it, or none where R116 or `ok` forbids the new set. -/
def genChange (e : GenEnv) (ok : ProfSet → Bool) (s : Fin 4) (mask : BitVec 11) (vals : List Word) (g : Gen) : Option Gen :=
  let c : SetChange := { set := s, mask := mask, vals := vals }
  if c.limitOnly then some { g with next := g.next ++ [c] }
  else
    let base := (g.next ++ g.heldChanges).foldl (fun v d => if d.set = s then applyMask v d.mask d.vals else v) (g.sets.get s)
    let new := applyMask base mask vals
    if setOk new && ok new then
      if g.heldChanges.any (fun d => decide (d.set = s)) then some { g with heldChanges := g.heldChanges ++ [c] }
      else if g.uses s then
        match judgeChange e s new (if mask.getLsbD 10 then (vals.getD 10 0).toNat else g.cmdLimit) g with
        | some k => some { g with next := g.next ++ [{ c with short := k }] }
        | none => some { g with heldChanges := g.heldChanges ++ [c] }
      else some { g with next := g.next ++ [c] }
    else none

/-- A change with its CMD_LIMIT left out. -/
def SetChange.noLimit (c : SetChange) : SetChange := { c with mask := c.mask &&& 0x3FF }
/-- The planned set-point, speed and segment of period k + 8 (R142): R120 run forward eight times with no action and no
measurement, CMD_LIMIT held at its present value. -/
def genPlan (e : GenEnv) (g : Gen) : Gen :=
  (List.range 8).foldl (fun g _ => (genStep { e with meas := none } (genBegin e g)).1)
    { g with
      next := (g.next.filter (fun c => !c.limitOnly)).map SetChange.noLimit
      heldChanges := g.heldChanges.map SetChange.noLimit }

end Sys2Proof.Machine
end

