-- ==== Sys2Proof/Machine/Faults.lean ====
section
/-! DEFINITION. Faults and reactions (R439 to R446): raising a fault with its record and event, the reaction on an axis or
the unit, and the end of a fault; with the axis operations a reaction uses. -/

namespace Sys2Proof.Machine

/-! ### Axis operations -/

/-- The reported position (R244), a stepper's being its set-point (R163). -/
def Dev.axPos (K : Memory) (x : Dev) (a : AxisId) : Int :=
  if K.axKind a.val = 2 then wholeCount (x.ax a).gen.x else (x.ax a).port.h + (x.ax a).posOff
/-- The axis takes its set-points from step-and-direction pulses (R165, R167). -/
def Dev.following (K : Memory) (x : Dev) (a : AxisId) : Bool :=
  x.isSealed && K.followEn a.val && !(x.ax a).fol.out
/-- The 48-bit event detail of an axis source (R453). -/
def Dev.axDetail (K : Memory) (x : Dev) (a : AxisId) : Nat := unsx 48 (x.axPos K a)

/-- Moves end: MOVE_END and its source, and the completion of each (R143). (DESIGN CHOICE: log entries 155, 179) -/
def Dev.endMoves (K : Memory) (a : AxisId) (ends : List MoveEnd) (x : Dev) : Dev :=
  x.over ends (fun m y =>
    let y1 := y.modAx a (fun v => { v with gen := { v.gen with
      endReason := m.reason
      endSeq := match m.move.hdr with
        | some h => h.seq
        | none => 0 } })
    let y2 := y1.event K (0x78 + a.val) (objAxis a.val) 1 (y1.axDetail K a)
    y2.completeOpt m.move.hdr
      (if m.reason = 4 then stCancelled else if m.reason = 1 ∧ m.move.overshoot then stOvershoot else stOK))
/-- A generator function applied to an axis, with the moves it ends. -/
def Dev.onGen (K : Memory) (a : AxisId) (f : Gen → Gen × List MoveEnd) (x : Dev) : Dev :=
  let r := f (x.ax a).gen
  (x.modAx a (fun v => { v with gen := r.1 })).endMoves K a r.2
/-- A following axis stops following: the generator takes over from its set-point and last speed (R167). (DEDUCED: log entries 41, 156) -/
def Dev.endFollow (K : Memory) (a : AxisId) (x : Dev) : Dev :=
  if x.following K a then
    x.modAx a (fun v => { v with
      fol := { v.fol with out := true }
      gen := { v.gen with
        seg := .idle, ramp := if v.gen.v = 0 then none else some ⟨0, false⟩ } })
  else x
/-- A ramp stop of an axis (R132, R167). (DEDUCED: log entry 41) -/
def Dev.rampStop (K : Memory) (a : AxisId) (x : Dev) : Dev := (x.endFollow K a).onGen K a genStop
/-- A freeze of an axis (R133, R107). -/
def Dev.freezeAxis (K : Memory) (a : AxisId) (pos : Option Int) (x : Dev) : Dev :=
  (x.endFollow K a).onGen K a (genFreeze pos)
/-- The set-point of an axis follows the measured position from now on (R133). -/
def Dev.trackAxis (K : Memory) (a : AxisId) (x : Dev) : Dev := (x.endFollow K a).onGen K a genTrack
/-- An order to the generator of an axis, taken at its next period boundary (R62, R114, R151). (DEDUCED: log entry 157) -/
def Dev.order (a : AxisId) (o : GenOrd) (x : Dev) : Dev := x.modAx a (fun v => { v with orders := v.orders ++ [o] })
/-- The reaction of a rank on an axis (R439). -/
def Dev.axisReact (a : AxisId) (rank : Nat) (x : Dev) : Dev :=
  if rank = 3 then x.order a .stop
  else if rank = 4 then x.order a (.freeze none)
  else if rank = 5 then x.order a .track
  else x

/-! ### Raising and ending faults -/

/-- A reaction ordered in the present cycle gives way to a higher one raised in it (R444). (DEDUCED: log entry 172) -/
def Dev.unReact (a : AxisId) (rank : Nat) (x : Dev) : Dev :=
  let drop := fun (o : GenOrd) => x.modAx a (fun v => { v with orders := (v.orders.reverse.erase o).reverse })
  if rank = 3 then drop .stop else if rank = 4 then drop (.freeze none) else x
/-- The faults raised so far in the present cycle on one object and with one target count as one raise (R444): the FAULT records of
the earlier ones hold the rank then in force. (DEDUCED: log entry 172) -/
def Dev.joinRaise (j : FaultRaise) (x : Dev) : Dev :=
  let inForce := BitVec.ofNat 8 (max j.before j.rank)
  let join := fun (q : RawRec) =>
    if q.type = 0x0020 ∧ q.source = j.obj ∧ q.at' = j.cyc ∧ leNat (slice q.payload 0 2) ∈ j.codes then
      { q with payload := q.payload.set 3 inForce } else q
  { x with
    evt := { x.evt with raises :=
      x.evt.raises.filter (fun f => decide (f.cyc = x.time.cyc ∧ ¬ (f.obj = j.obj ∧ f.tgt = j.tgt))) ++ [j] }
    cairn := { x.cairn with queue := x.cairn.queue.map join } }
/-- The axis an object code names. -/
def axisOf (obj : Nat) : Option AxisId := if 0x0A00 ≤ obj then finOf 24 (obj - 0x0A00) else none
/-- The doorway an object code names. -/
def doorOf (obj : Nat) : Option DoorId := if 0x0D00 ≤ obj then finOf 8 (obj - 0x0D00) else none
/-- FLT_RANK of a code (R446, R486). -/
def Memory.fltRank (K : Memory) (c : Nat) : Nat :=
  K.bits (0x0F00 + 8 * (c / 256) + 4 * (c % 16 / 8)) (4 * (c % 8)) 3
/-- The highest rank at or below `r` that the object of code `obj` takes (R446). -/
def rankFor (obj r : Nat) : Nat :=
  if (axisOf obj).isSome then r
  else if (doorOf obj).isSome then (if 3 ≤ r ∧ r ≤ 5 then 2 else r)
  else if 0x1000 ≤ obj then min r 2
  else if 3 ≤ r ∧ r ≤ 6 then 2
  else r
/-- Rank in force on the object a reaction acts on (R440). -/
def Dev.rankInForce (K : Memory) (x : Dev) (tgt : Nat) : Nat :=
  match axisOf tgt with
  | some a => x.axisRank K a
  | none => x.rankOn tgt
/-- SUMMIT record cause of a demotion by fault `code` (R418). -/
def demoteCause (code : Nat) : Nat :=
  if code = 0x0400 then 0x11 else if code = 0x0402 then 0x14 else 0x12

/-- A prediction of a doorway is discarded: nothing of it comes back, be the period it was made in late (R28). -/
def Dev.discardPred (K : Memory) (d : DoorId) (x : Dev) : Dev :=
  (x.over (K.doorAxes d.val) (fun l y => y.modAx l.2 (fun v => { v with eng := { v.eng with
    predSave := v.eng.predSave.map (fun s => { s with live := false, exceeded := false }) } }))).modDw d
    (fun w => { w with predLive := false })
/-- A fault is raised at rank `r0` (R441, R442, R444, R446, R448): its record, its event, its reaction where that is higher
than the one in force, and a unit out of OFF is DEMOTED by rank 7 whatever state it is in (R394). `keep` says that its ending condition is other than "at once". The overrun reaction reaches the
generator only at the end of its repeated period (R198), so its raise leaves the generator alone. (DEDUCED: log entry 172) -/
def Dev.fault (K : Memory) (code obj r0 : Nat) (detail : List Byte) (keep : Bool) (x : Dev) : Dev :=
  let r1 := rankFor obj r0
  let own := (axisOf obj).bind (fun a => K.owner a)
  let tgt := if r1 = 7 then objDevice
    else if r1 = 6 then (match axisOf obj, own with
      | some _, some (d, _) => objDoor d.val
      | _, _ => obj)
    else obj
  let r := if r1 = 6 ∧ (axisOf obj).isSome ∧ own.isNone then 3 else r1
  let now := x.evt.raises.filter (fun f => decide (f.cyc = x.time.cyc))
  let j := (now.find? (fun f => decide (f.obj = obj ∧ f.tgt = tgt))).getD ⟨obj, tgt, x.time.cyc, [], x.rankInForce K tgt, 0⟩
  let before := max (max j.before j.rank) (x.rankInForce K tgt)
  let x0 := (x.joinRaise { j with codes := j.codes ++ [code], rank := max j.rank r }).when (decide (3 ≤ r ∧ before < r)) (fun y =>
    match axisOf tgt with
    | some a => y.unReact a (if j.before < j.rank ∧ j.codes ≠ [0x0203] then j.rank else 0)
    | none => y)
  let x1 := if code = 0x0503 then x0
    else x0.record 0x0020 obj (leBytes 2 code ++ leBytes 1 r ++ leBytes 1 (max before r) ++ padTo 4 detail) none
  let x2 := if 2 ≤ r then x1.event K (0xF0 + code / 256) obj code 0 else x1
  let x3 :=
    if keep ∨ 3 ≤ r then
      let rest := x2.evt.opens.filter (fun f => decide (¬ (f.code = code ∧ f.obj = obj)))
      let old := (x2.evt.opens.filter (fun f => decide (f.code = code ∧ f.obj = obj ∧ f.tgt = tgt))).foldl
        (fun m f => max m f.rank) 0
      { x2 with evt := { x2.evt with opens := rest ++ [⟨code, obj, tgt, max old r⟩] } }
    else x2
  let x4 :=
    if 3 ≤ r then
      let y := if tgt = objDevice ∧ x3.evt.opens.any (fun f => decide (f.code = 0x0400)) then
        { x3 with twin := { x3.twin with wdogRun := 0 } } else x3
      y.each 24 (fun a z =>
        if (tgt = objDevice ∨ tgt = objAxis a.val) ∧
            z.evt.opens.any (fun f => decide (f.code = 0x0202 ∧ f.obj = objAxis a.val)) ∧ code ≠ 0x0202 then
          z.modAx a (fun v => { v with stillCnt := 0, still := false }) else z)
    else x3
  let x5 := x4.when (decide (tgt = objDevice ∧ r = 7)) (Dev.demote K (demoteCause code))
  if before < r then
    match axisOf tgt with
    | some a =>
      let y := match own with
        | some (d, _) => x5.when (decide (3 ≤ r)) (Dev.discardPred K d)
        | none => x5
      if code = 0x0203 then y else y.axisReact a r
    | none =>
      match doorOf tgt with
      | some d =>
        if r = 6 then (x5.discardPred K d).over (K.doorAxes d.val) (fun i y => y.axisReact i.2 3) else x5
      | none => x5
  else x5

/-- A fault whose rank FLT_RANK chooses and which ends at once (R445, R446). -/
def Dev.faultSet (K : Memory) (code obj : Nat) (detail : List Byte) (x : Dev) : Dev :=
  x.fault K code obj (K.fltRank code) detail false

/-- The cause with which a unit gains the Summit by itself (R418). -/
def Dev.gainCause (x : Dev) : Nat := if !x.twin.held && !x.twin.seenLow then 0x01 else 0x02
/-- With no reaction of rank Unit demotion in force a demoted unit goes on: to STANDBY, or to the Summit on a single unit
(R391, R394). -/
def Dev.settleUnit (K : Memory) (x : Dev) : Dev :=
  if x.twin.summit = .demoted ∧ x.unitRank < 7 then
    if x.twin.en then { x with twin := { x.twin with summit := .standby } }
    else if x.isSealed then x.enterHolding K x.gainCause
    else { x with twin := { x.twin with summit := .off } }
  else x
/-- The open faults that meet a test end (R442); nothing is recorded. A fault raised at rank 7 ends only under R397. -/
def Dev.endFaults (K : Memory) (p : OpenFault → Bool) (x : Dev) : Dev :=
  ({ x with evt := { x.evt with opens := x.evt.opens.filter (fun f => !(p f) || decide (f.rank = 7)) } }).settleUnit K
/-- The faults of one code on one object end. -/
def Dev.endFault (K : Memory) (code obj : Nat) (x : Dev) : Dev :=
  x.endFaults K (fun f => decide (f.code = code ∧ f.obj = obj))
/-- A fault of rank 3 or higher that ends at once ends when its object has come to rest (R445). (DEDUCED: log entry 171) -/
def Dev.endAtRest (K : Memory) (x : Dev) : Dev :=
  x.endFaults K (fun f =>
    faultSettable f.code &&
    (match axisOf f.tgt, doorOf f.tgt with
     | some a, _ => (x.ax a).still
     | none, some d => (List.range 4).all (fun i =>
        match K.doorAx d.val i with
        | some a => (x.ax a).still
        | none => true)
     | none, none => false))
/-- A fault is open. -/
def Dev.isOpen (x : Dev) (code obj : Nat) : Bool := x.evt.opens.any (fun f => decide (f.code = code ∧ f.obj = obj))

end Sys2Proof.Machine
end

