-- ==== Sys2Proof/Machine/Trig.lean ====
section
/-! DEFINITION. The real values the spec defines by a formula with sines, roots or powers (R161, R176, R178, R205, R224),
computed in integers to a bound far below any digit a rule rounds to. A value so close to a tie that the bound does not decide
it is rounded by a free value. -/

namespace Sys2Proof.Machine

/-- 2^64, the scale of a `Near`. -/
def nearOne : Int := 18446744073709551616
/-- A whole number. -/
def Near.ofInt (n : Int) : Near := ⟨n * nearOne, 0⟩
def Near.add (a b : Near) : Near := ⟨a.v + b.v, a.err + b.err⟩
def Near.neg (a : Near) : Near := ⟨-a.v, a.err⟩
def Near.sub (a b : Near) : Near := a.add b.neg
/-- A whole multiple. -/
def Near.scale (n : Int) (a : Near) : Near := ⟨n * a.v, n.natAbs * a.err⟩
/-- A whole quotient, exact where it comes out even. -/
def Near.over (d : Nat) (a : Near) : Near :=
  if a.v % d = 0 ∧ a.err = 0 then ⟨a.v / d, 0⟩ else ⟨a.v / d, a.err / d + 2⟩
def Near.mul (a b : Near) : Near :=
  let p := a.v * b.v
  if a.err = 0 ∧ b.err = 0 ∧ p % nearOne = 0 then ⟨p / nearOne, 0⟩
  else ⟨p / nearOne, (a.v.natAbs * b.err + b.v.natAbs * a.err + a.err * b.err) / 18446744073709551616 + 2⟩
def Near.max (a b : Near) : Near := ⟨Max.max a.v b.v, Max.max a.err b.err⟩
def Near.min (a b : Near) : Near := ⟨Min.min a.v b.v, Max.max a.err b.err⟩
/-- The nearest integer, ties away from zero. -/
def Near.round (a : Near) : Int :=
  let lo := rdivI (a.v - a.err) 18446744073709551616
  let hi := rdivI (a.v + a.err) 18446744073709551616
  if lo = hi then lo else if Config.tieUp a.v then hi else lo
/-- One of the two neighbouring integers of a value whose rounding no rule states; the value itself where it is whole. -/
def Near.either (a : Near) : Int :=
  let lo := (a.v - a.err) / nearOne
  let hi := -(-(a.v + a.err) / nearOne)
  lo + (Config.pick a.v : Int) % (hi - lo + 1)

/-! ### Roots, sines and cosines -/

/-- The square root of 3, and 1 and 2 over it. -/
def sqrt3 : Near := ⟨31950697969885030203, 1⟩
def inv3 : Near := ⟨10650232656628343401, 1⟩
def two3 : Near := ⟨21300465313256686802, 1⟩

/-- The sine of `x` / 2^96, from 0 to half of π, by 18 terms of its series, in 2^−96. -/
def sinSeries (x : Nat) : Int :=
  let q := x * x / 2 ^ 96
  ((List.range 18).foldl (fun (a : Nat × Int) k =>
    (a.1 * q / 2 ^ 96 / ((2 * k + 2) * (2 * k + 3)), if k % 2 = 0 then a.2 + a.1 else a.2 - a.1)) (x, 0)).2
/-- The sine of `n` in 2^bits parts of a turn; `bits` is 2 or more. A quarter turn and its multiples are exact. -/
def sinTurn (bits n : Nat) : Near :=
  let w := 2 ^ (bits - 2)
  let r := n % w
  let rise := fun (k : Nat) =>
    if k = 0 then Near.ofInt 0 else if k = w then .ofInt 1
    else (⟨sinSeries (k * 124451306656115542615260972311 / w) / 4294967296, 2⟩ : Near)
  match n / w % 4 with
  | 0 => rise r
  | 1 => rise (w - r)
  | 2 => (rise r).neg
  | _ => (rise (w - r)).neg
def cosTurn (bits n : Nat) : Near := sinTurn bits (n + 2 ^ (bits - 2))

/-! ### Powers, for the logarithmic sweep (R205) -/

/-- The binary logarithm of `n` in 2^−96, by repeated squaring; 0 of 0. -/
def log2Fixed (n : Nat) : Nat :=
  let e := Nat.log2 n
  ((List.range 96).foldl (fun (a : Nat × Nat) _ =>
    let s := a.1 * a.1 / 2 ^ 256
    if 2 ^ 257 ≤ s then (s / 2, 2 * a.2 + 1) else (s, 2 * a.2)) (n * 2 ^ 256 / 2 ^ e, e)).2
/-- 2 to the power `x` / 2^96, in 2^−64. -/
def exp2Fixed (x : Nat) : Nat :=
  let f := x % 2 ^ 96 * 54916777467707473351141471128 / 2 ^ 96
  let m := ((List.range 28).foldl (fun (a : Nat × Nat) k => (a.1 * f / 2 ^ 96 / (k + 1), a.2 + a.1)) (2 ^ 96, 0)).2
  m * 2 ^ (x / 2 ^ 96) / 2 ^ 32
/-- f0 × (f1 / f0)^(num / den) for frequencies below 2^24. -/
def sweepPow (f0 f1 num den : Nat) : Near :=
  if f0 = f1 then .ofInt f0
  else
    let a : Int := log2Fixed f0
    let b : Int := log2Fixed f1
    ⟨exp2Fixed (a + (b - a) * num / den).toNat, 2 ^ 26⟩

end Sys2Proof.Machine
end

