-- ==== Sys2Proof/Machine/Bfp.lean ====
section
/-! DEFINITION. Block floating-point arithmetic of the control engine (R171 to R173): rounding shifts, renormalisation and
the sum of stages and added vectors, in exact integers. -/

namespace Sys2Proof.Machine

/-- Shift right by `k`, rounded to the nearest with ties away from zero (R172). -/
def rsh (a : Int) (k : Nat) : Int :=
  if k = 0 then a
  else if a < 0 then -(((a.natAbs + 2 ^ (k - 1)) / 2 ^ k : Nat) : Int)
  else (((a.natAbs + 2 ^ (k - 1)) / 2 ^ k : Nat) : Int)
/-- Shift right by a signed count. -/
def shiftBy (a : Int) (k : Int) : Int := if k ≤ 0 then a * 2 ^ (-k).toNat else rsh a k.toNat
/-- Bits of the two's complement form of `a`, its sign bit included. -/
def bitLen (a : Int) : Nat :=
  let n := if a < 0 then a.natAbs - 1 else a.natAbs
  (if n = 0 then 0 else Nat.log2 n + 1) + 1
/-- Largest mantissa. -/
def manMax : Int := 8388607

/-- Renormalisation of elements `acc`, each of value acc / 2^f × 2^e (step 4 of R172, R173): 24-bit mantissas with the
exponent to match; none where the exponent would be above 127. -/
def Bfp.renorm (f : Nat) (e : Int) (acc : List Int) : Option Bfp :=
  if acc.all (fun a => a == 0) then some ⟨-128, acc⟩
  else
    let l := acc.foldl (fun m a => if a = 0 then m else max m (bitLen a)) 0
    let k0 : Int := (l : Int) - 24
    let k := if (acc.map (fun a => shiftBy a k0)).any (fun m => decide (manMax < m)) then k0 + 1 else k0
    let m := acc.map (fun a => shiftBy a k)
    let x := e + k + 23 - (f : Int)
    if 127 < x then none
    else if x < -128 then some ⟨-128, m.map (fun a => rsh a (-128 - x).toNat)⟩
    else some ⟨x, m⟩

/-- A term of a sum: its scale exponent and, for each row, its products at 46 fraction bits. -/
structure Term where
  exp : Int
  rows : List (List Int)
deriving DecidableEq, Repr

/-- The products of a stage (R172). -/
def Block.stage (b : Block) (v : Bfp) : Term :=
  { exp := b.exp + v.e
    rows := (List.range b.rows).map (fun i => (List.range b.cols).map (fun j => b.m.getD (i * b.cols + j) 0 * v.m.getD j 0)) }
/-- An added vector, placed at 46 fraction bits. -/
def Bfp.term (v : Bfp) : Term := { exp := v.e, rows := v.m.map (fun a => [a * 8388608]) }
/-- The same with its sign turned. -/
def Term.neg (t : Term) : Term := { t with rows := t.rows.map (fun r => r.map (fun a => -a)) }
/-- One product of one row. -/
def Term.one (e p : Int) : Term := ⟨e, [[p]]⟩

/-- Row sums of terms in the accumulator, scaled by 2^Eacc (steps 1 to 3 of R172). -/
def accumulate (ts : List Term) (n : Nat) : Int × List Int :=
  let top := match ts with
    | [] => -128
    | t :: r => r.foldl (fun m u => max m u.exp) t.exp
  (top, (List.range n).map (fun i =>
    ts.foldl (fun s t =>
      let d := (top - t.exp).toNat
      (t.rows.getD i []).foldl (fun s p => if 56 ≤ d then s else s + rsh p d) s) 0))
/-- The sum of stages and added vectors with `n` elements (R172). -/
def combine (ts : List Term) (n : Nat) : Option Bfp :=
  let a := accumulate ts n
  Bfp.renorm 46 a.1 a.2

/-- The value of element `i` as an integer of `f` fraction bits, rounded to nearest with ties away from zero. (DEDUCED: log entry 38) -/
def Bfp.fixed (v : Bfp) (i : Nat) (f : Nat) : Int := shiftBy (v.m.getD i 0) (23 - v.e - (f : Int))
/-- Element `i` as a vector of its own. -/
def Bfp.elem (v : Bfp) (i : Nat) : Bfp := ⟨v.e, [v.m.getD i 0]⟩
/-- An output of 15 fraction bits as a one-element vector. -/
def bfpOfQ15 (u : Int) : Bfp := ⟨0, [u * 256]⟩
/-- Square root rounded toward zero, of a number below 2^64. -/
def isqrt (n : Nat) : Nat :=
  (List.range 32).foldl (fun r i =>
    let t := r + 2 ^ (31 - i)
    if t * t ≤ n then t else r) 0

end Sys2Proof.Machine
end

