-- ==== Sys2Proof/Machine/Engine.lean ====
section
/-! DEFINITION. The control engine (R168 to R200) with test-signal injection, manual mode, hand-over and following-error
supervision (R204 to R219): the shape and validity of a program, admission, and the two passes of a computed period. -/

namespace Sys2Proof.Machine

/-! ### Programs (R174 to R180) -/

/-- The shape a program header sets (R175). -/
structure Shape where
  n : Nat
  m : Nat
  q : Nat
  pos : Nat
  notches : Nat
  force : Bool
  three : Bool
  zi : Int
  sel : List Nat
deriving DecidableEq, Repr

/-- The fields of the two data words of a HEADER block. (DESIGN CHOICE: log entry 181) -/
def shapeOf (b : Block) : Shape :=
  let w1 := (b.m.getD 0 0).toNat
  let w2 := (b.m.getD 1 0).toNat
  { n := w1 % 16, m := w1 / 16 % 4, q := w1 / 256 % 8, pos := w1 / 4096 % 16, notches := w1 / 65536 % 4
    force := w1.testBit 18, three := w1.testBit 19, zi := sext 8 (w1 / 2 ^ 24)
    sel := (List.range 4).map (fun i => w2 / 16 ^ i % 16) }
/-- A loaded block. -/
def Eng.block (e : Eng) (i : Nat) : Option Block := (e.prog.toList.getD i none)
/-- A loaded block, or an empty one. -/
def Eng.blk (e : Eng) (i : Nat) : Block := (e.block i).getD ⟨0, 0, 0, []⟩
/-- The shape of the loaded header; the empty shape without one. -/
def Eng.shape (e : Eng) : Shape := shapeOf (e.blk 0)
/-- Rows and columns that block `i` must have (R179); none for an identifier that is not defined. (DESIGN CHOICE: log entry 183) -/
def blockDims (s : Shape) (i : Nat) : Option (Nat × Nat) :=
  match i with
  | 0 => some (1, 2)
  | 1 => some (s.n, s.n) | 2 => some (s.n, s.m) | 3 => some (s.n, 3) | 4 => some (s.q, s.n) | 5 => some (s.n, s.q)
  | 6 => some (s.m, s.n) | 7 => some (s.m, 3) | 8 => some (s.m, 1) | 9 => some (1, s.n)
  | 10 | 11 | 12 | 13 => some (1, 5)
  | _ => none
/-- The shape requires block `i` (R179). -/
def blockNeeded (s : Shape) (i : Nat) : Bool :=
  decide (i ≤ 8) || (decide (i = 9) && s.force) ||
  (decide (i = 10 ∨ i = 11) && decide (i - 10 < s.notches)) ||
  (decide (i = 12 ∨ i = 13) && decide (i - 12 < s.notches) && decide (s.m = 2))
/-- A measurement selector is defined and allowed for the motor kind (R176). -/
def selAllowed (three : Bool) (c : Nat) : Bool :=
  decide (c = 1 ∨ c = 4 ∨ c = 5 ∨ c = 6) || (three && decide (c = 2 ∨ c = 3))
/-- R174: the program is valid. -/
def Eng.progValid (e : Eng) : Bool :=
  let s := e.shape
  (e.block 0).isSome && decide (1 ≤ s.n ∧ s.n ≤ 12 ∧ 1 ≤ s.q ∧ s.q ≤ 4) &&
  decide (s.m = if s.three then 2 else 1) &&
  (List.range s.q).all (fun i => selAllowed s.three (s.sel.getD i 0)) &&
  decide (s.pos < s.n ∨ s.pos = 15) && decide (s.notches ≤ 2) &&
  (List.range 14).all (fun i => !blockNeeded s i || (e.block i).isSome)

/-! ### Admission (R195, R196) -/

/-- The axis is a leaf of an enabled doorway with FORCE_DET_EN set. -/
def Memory.detLeaf (K : Memory) (a : AxisId) : Option DoorId :=
  match K.owner a with
  | some (d, r) => if r < 2 ∧ K.forceDetEn d.val = true then some d else none
  | none => none
/-- The same with PRED_EN. -/
def Memory.predLeaf (K : Memory) (a : AxisId) : Bool :=
  match K.detLeaf a with
  | some d => K.predEn d.val
  | none => false
/-- Pass-1 and pass-2 charge of a program in MAC slots (R195). -/
def charge (s : Shape) (pr : Bool) : Nat :=
  2 * s.q * s.n + s.m * (s.n + 4) + s.n * (s.n + s.m + 3) + (if s.force then s.n else 0) + 5 * s.m * s.notches +
  (if s.three then 80 else 60) + (if pr then 8 * s.n * (s.n + s.m) + s.n else 0)
/-- Charge of an axis. -/
def Dev.axCharge (K : Memory) (x : Dev) (a : AxisId) : Nat :=
  if K.axKind a.val = 1 then charge (x.ax a).eng.shape (K.predLeaf a) else 0
/-- Sum of the charges of the servo axes. -/
def Dev.sumCharge (K : Memory) (x : Dev) : Nat := (List.finRange 24).foldl (fun s a => s + x.axCharge K a) 0
/-- Admission (R196): reason code and axis; `own` is the axis of a LOOP_CLOSE. -/
def Dev.admission (K : Memory) (x : Dev) (own : Option AxisId) : Nat × Nat :=
  let bad := (List.finRange 24).filterMap (fun a =>
    if K.axKind a.val ≠ 1 then none
    else if !(x.ax a).eng.progValid then some (1, a.val)
    else if (K.detLeaf a).isSome && !(x.ax a).eng.shape.force then some (2, a.val)
    else none)
  match bad with
  | r :: _ => r
  | [] => if 128000 < x.sumCharge K then (3, (own.map Fin.val).getD 0) else (0, 0)
/-- ADM_STATUS, ENG_LOAD and ENG_COST after an admission check. -/
def Dev.admitAll (K : Memory) (own : Option AxisId) (x : Dev) : Dev :=
  let r := x.admission K own
  let y := { x with eng := { x.eng with
    load := (x.sumCharge K * 1000 + 159999) / 160000, admReason := r.1, admAxis := r.2 } }
  y.each 24 (fun a z => z.modAx a (fun v => { v with eng := { v.eng with cost := x.axCharge K a } }))

/-! ### Test-signal injection (R204 to R206) -/

/-- Feedback tap of the PRBS of order `n`. -/
def prbsTap (n : Nat) : Nat := match n with | 7 => 6 | 9 => 5 | 11 => 9 | 15 => 14 | _ => 18
/-- One step of the PRBS register of order `n`. -/
def prbsStep (n r : Nat) : Nat :=
  (2 * r + (if r.testBit (n - 1) != r.testBit (prbsTap n - 1) then 1 else 0)) % 2 ^ n
/-- Periods an injection lasts at period code `p`; none runs until stopped. -/
def injTotal (p : Nat) (f : InjForm) : Option Nat :=
  match f with
  | .prbs n hold cyc => if cyc = 0 then none else some (cyc * (2 ^ n - 1) * hold)
  | .sweep _ _ ts _ => some ((ts * 40 + 2 ^ p - 1) / 2 ^ p)
  | .step len => if len = 0 then none else some len
/-- The generator at its start: the PRBS register holds all ones, the phase is 0. -/
def injStart (o : InjectOps) (h : Hdr) : Inj :=
  { ops := o, hdr := h, reg := match o.form with
      | .prbs n _ _ => 2 ^ n - 1
      | _ => 0 }
/-- The sine of a phase of 32 bits per turn in 2^−23, within one unit of the true value (R205): the nearest unit, or the other
one the bound allows. -/
def sweepSine (phase : Nat) : Int :=
  let s := sinTurn 32 phase
  let u : Int := 2199023255552
  let n := rdivI s.v 2199023255552
  let d := s.v - n * u
  if Config.pick s.v % 2 = 0 ∨ d.natAbs ≤ s.err then n else if 0 < d then n + 1 else n - 1
/-- Phase advance of a sweep at period n of `t` µs, in 2^−32 turn (R205); the rounding of one that is not whole is not
stated. -/
def sweepStep (f0 f1 ts : Nat) (log : Bool) (t n : Nat) : Int :=
  let f : Near := if log then sweepPow f0 f1 (t * n) (1000 * ts)
    else ((Near.ofInt f0).scale (1000 * ts)).add ((Near.ofInt ((f1 : Int) - f0)).scale (t * n))
  ((f.scale (t * 4294967296)).over (100000000 * (if log then 1 else 1000 * ts))).either
/-- Value s of the present period. -/
def injValue (j : Inj) : Bfp :=
  match j.ops.form with
  | .prbs n _ _ => ⟨j.ops.aExp, [if j.reg.testBit (n - 1) then j.ops.aMan else -j.ops.aMan]⟩
  | .sweep _ _ _ _ => ⟨j.ops.aExp, [rsh (j.ops.aMan * sweepSine j.reg) 23]⟩
  | .step _ => ⟨j.ops.aExp, [j.ops.aMan]⟩
/-- The generator after a computed period. -/
def injNext (p : Nat) (j : Inj) : Inj :=
  { j with
    n := j.n + 1
    reg := match j.ops.form with
      | .prbs n hold _ => if (j.n + 1) % hold = 0 then prbsStep n j.reg else j.reg
      | .sweep f0 f1 ts log => unsx 32 (j.reg + sweepStep f0 f1 ts log (25 * 2 ^ p) j.n)
      | .step _ => j.reg }
def InjPoint_code (p : InjPoint) : Nat := match p with | .ref => 1 | .out => 2 | .meas => 3
def InjForm_code (f : InjForm) : Nat := match f with | .prbs _ _ _ => 1 | .sweep _ _ _ _ => 2 | .step _ => 3

/-! ### One computed period -/

/-- What a computed period of a servo axis reads besides the engine's own data. -/
structure EngEnv where
  /-- Period code. -/
  p : Nat
  /-- Raw counter plus position offset at B, in counts, and the raw counter alone. -/
  pos : Int
  raw : Int
  /-- Set-point of this period and of the one before, in 2^−32 count. -/
  sp : Int
  spPrev : Int
  /-- Signed set-point speeds of this period and of the one before, in 2^−16 counts/s. -/
  v : Int
  vPrev : Int
  theta : Nat
  adv : Bool
  cur : Currents
  uLim : Nat
  slew : Nat
  hoRow : Nat
  hoZlim : Nat
  hoFade : Nat
  fgMan : Int
  fgExp : Int
deriving DecidableEq, Repr

/-- What a computed period gives besides the engine's new data. -/
structure EngOut where
  eng : Eng
  wrapped : Bool
  /-- A hand-over was made (true) or refused (false). -/
  handOver : Option Bool
deriving DecidableEq, Repr

/-- The reference vector r (R179). -/
def refVec (v : EngEnv) : Bfp :=
  (Bfp.renorm 19 0 [v.v * 8, (v.v - v.vPrev) * 40000 * 2 ^ (3 - v.p), 524288]).getD {}
/-- A quotient of 46-bit-scaled parts as Q15.1 newtons: value a / 2^46 × 2^e in half newtons, saturated (R91). -/
def q15_1 (e a : Int) : Int := clampI (-32768) 32767 (shiftBy a (45 - e))
/-- The force estimate from a state vector. (DEDUCED: log entry 38) -/
def forceOf (e : Eng) (x : Bfp) : Int :=
  let a := accumulate [(e.blk 9).stage x] 1
  q15_1 a.1 (a.2.getD 0 0)
/-- Clarke and Park transforms of the samples of channels U and V (R176): id and iq at 32 fraction bits, as the other
quantities of y. -/
def park (theta : Nat) (iu iv : Int) : Int × Int :=
  let ia := Near.ofInt iu
  let ib := inv3.scale (iu + 2 * iv)
  let c := cosTurn 16 theta
  let s := sinTurn 16 theta
  ((((ia.mul c).add (ib.mul s)).scale fx).round, (((ib.mul c).sub (ia.mul s)).scale fx).round)
/-- Measured quantity of selector `c` at 32 fraction bits (R176). -/
def measure (v : EngEnv) (fe : Int) (c : Nat) : Int :=
  match c with
  | 1 => fe
  | 2 => (park v.theta v.cur.iu v.cur.iv).1
  | 3 => (park v.theta v.cur.iu v.cur.iv).2
  | 4 => v.cur.iu * fx
  | 5 => v.cur.iv * fx
  | 6 => v.cur.iw * fx
  | _ => 0
/-- FE of R176 in 2^−32 count. -/
def feOf (pos sp : Int) : Int := clampI (-9223372036854775807) 9223372036854775807 (pos * fx - sp)
/-- The rebase of R181, exact before its one renormalisation. -/
def rebase (x : Bfp) (i : Nat) (d : Int) : Option Bfp :=
  let f := max 32 (23 - x.e).toNat
  let up : Nat := ((f : Int) - (23 - x.e)).toNat
  Bfp.renorm f 0 ((List.range x.m.length).map (fun j =>
    x.m.getD j 0 * 2 ^ up - (if j = i then d * 2 ^ (f - 32) else 0)))
/-- A one-slot vector of `n` elements. -/
def oneSlot (n i : Nat) (s : Bfp) : Bfp := ⟨s.e, (List.range n).map (fun j => if j = i then s.m.getD 0 0 else 0)⟩
/-- One notch section (R185): output and new states, all renormalised. -/
def notchSection (b : Block) (e st : Bfp) : Option (Bfp × Bfp) :=
  let c := fun (i : Nat) (v : Bfp) => Term.one (b.exp + v.e) (b.m.getD i 0 * v.m.getD 0 0)
  match combine [c 0 e, (st.elem 0).term] 1 with
  | none => none
  | some f =>
    let top := fun (t : Term) => { t with rows := t.rows ++ [[]] }
    let low := fun (t : Term) => { t with rows := [] :: t.rows }
    match combine [top (c 1 e), top (c 3 f).neg, top (st.elem 1).term, low (c 2 e), low (c 4 f).neg] 2 with
    | none => none
    | some s => some (f, s)
/-- The sections of output `row` in order; none with the block whose result left the range. -/
def notchChain (e : Eng) (row : Nat) (u : Bfp) (notch : Vector Bfp 4) : Except Nat (Bfp × Vector Bfp 4) :=
  (List.range (min 2 e.shape.notches)).foldl (fun acc i =>
    match acc with
    | .error k => .error k
    | .ok (f, ns) =>
      let j := 2 * row + i
      match notchSection (e.blk (10 + j)) f (ns.toList.getD j {}) with
      | none => .error (10 + j)
      | some (f', s') => .ok (f', if h : j < 4 then ns.set j s' h else ns)) (.ok (u, notch))
/-- The state a notch section takes at a hand-over with input `u` in 2^−15 (R215); none where it leaves the range (R173). -/
def notchPreset (b : Block) (u : Int) : Option Bfp :=
  let f := (23 - b.exp).toNat
  let up := ((f : Int) - (23 - b.exp)).toNat
  let c := fun (i : Nat) => b.m.getD i 0 * 2 ^ up
  Bfp.renorm (f + 15) 0 [(2 ^ f - c 0) * u, (c 2 - c 4) * u]
/-- The states the notch sections take at a hand-over with the outputs `u` applied before; none with the block whose result left the
range (R173, R215). -/
def notchPresets (e : Eng) (u : Nat → Int) : Except Nat (Vector Bfp 4) :=
  (List.range 4).foldl (fun acc j =>
    match acc with
    | .error k => .error k
    | .ok ns =>
      if hj : j < 4 then
        if j % 2 < e.shape.notches ∧ j / 2 < e.shape.m then
          match notchPreset (e.blk (10 + j)) (u (j / 2)) with
          | some p => .ok (ns.set j p hj)
          | none => .error (10 + j)
        else .ok ns
      else .ok ns) (.ok e.notch)
/-- A vector element as 16-bit output, saturated (R186). -/
def q15 (u : Bfp) : Int := clampI (-32768) 32767 (u.fixed 0 15)
/-- The output limit of R186 on the converted rows. -/
def limitU (three : Bool) (lim : Nat) (a b : Int) : Int × Int :=
  if three then
    let s := (a * a + b * b).toNat
    if lim * lim < s then
      let sc := fun (c : Int) =>
        let r : Int := isqrt (c.natAbs * c.natAbs * (lim * lim) / s)
        if c < 0 then -r else r
      (sc a, sc b)
    else (a, b)
  else (clampI (-(lim : Int)) lim a, 0)
/-- KI·z: z enters as a vector mantissa of exponent 23, so no bit of it is lost. (DEDUCED: log entry 38) -/
def kiTerm (e : Eng) (z : Int) : Term :=
  ⟨(e.blk 8).exp + 23, (List.range e.shape.m).map (fun i => [(e.blk 8).m.getD i 0 * z])⟩
/-- K·x̂ + KR·r, its rows one result with one exponent (R172). -/
def ctlTerms (e : Eng) (x r : Bfp) : List Term := [(e.blk 6).stage x, (e.blk 7).stage r]
/-- A value m / 2^23 × 2^e less an output of 15 fraction bits, and their common fraction bits. -/
def q15Minus (u : Int) (c : Bfp) : Int × Nat :=
  let f := max 15 (23 - c.e).toNat
  (u * 2 ^ (f - 15) - c.m.getD 0 0 * 2 ^ ((f : Int) - (23 - c.e)).toNat, f)
/-- The integrator preset zp of R215, before its range check. -/
def presetZ (e : Eng) (h : Nat) (uL : Int) (c : Bfp) : Option Int :=
  let k := (e.blk 8).m.getD h 0
  if k = 0 then none
  else
    let n := q15Minus uL c
    let t : Int := 23 - (e.blk 8).exp - (n.2 : Int)
    let num := if 0 ≤ t then n.1 * 2 ^ t.toNat else n.1
    let den := if 0 ≤ t then k.natAbs else k.natAbs * 2 ^ (-t).toNat
    some (if k < 0 then -(rdivI num den) else rdivI num den)
/-- An integrator preset within HO_ZLIM. -/
def inZlim (lim : Nat) (z : Option Int) : Option Int := z.bind (fun z => if z.natAbs ≤ lim then some z else none)

/-- The engine's data at the first computed period after one that was not computed (R194). -/
def engReengage (e : Eng) : Eng :=
  let n := e.shape.n
  { e with
    xp := ⟨-128, List.replicate n 0⟩, z := 0, notch := Vector.replicate 4 ⟨-128, [0, 0]⟩, thetaPrev := 0, missCnt := 0
    u0 := 0, u1 := 0, feAcc := 0, refS := 0 }
/-- HO_ROW with its default by motor kind (R203, R495). -/
def hoRowOf (row : Nat) (three : Bool) : Nat := if row = 0 ∨ row = 1 then row else if three then 1 else 0
/-- Targets of the manual rows (R211). (DEDUCED: log entry 38) -/
def manTargets (v : EngEnv) (e : Eng) : Int × Int :=
  match e.mode with
  | .manualF =>
    let t := clampI (-32768) 32767 (shiftBy (v.fgMan * e.man0) (23 - v.fgExp))
    if hoRowOf v.hoRow e.shape.three = 1 then (0, t) else (t, 0)
  | _ => (e.man0, e.man1)
/-- One step of a manual row towards its target. -/
def slewTo (slew : Nat) (m t : Int) : Int := m + clampI (-(slew : Int)) slew (t - m)
/-- The time update (R181): none where it leaves the range. -/
def timeUpdate (e : Eng) (xh r : Bfp) (u0 u1 : Int) : Option Bfp :=
  combine [(e.blk 1).stage xh, (e.blk 2).stage ⟨0, [u0 * 256, u1 * 256]⟩, (e.blk 3).stage r] e.shape.n

/-- A result or the block it failed at. -/
def orBlock {α : Type} (k : Nat) : Option α → Except Nat α
  | some a => .ok a
  | none => .error k
/-- The hand-over of R215 and the forced hand-over of R214, with c and the row terms of this period: the engine after it,
and whether it was made; or the block whose result left the range (R173). -/
def handOver (v : EngEnv) (e : Eng) (xh r : Bfp) : Except Nat (Eng × Bool) := do
  let s := e.shape
  let h := hoRowOf v.hoRow s.three
  let g := 1 - h
  let uL := fun (row : Nat) => if row = 0 then e.u0 else e.u1
  let c ← orBlock 6 (combine (ctlTerms e xh r) s.m)
  let zq := inZlim v.hoZlim (presetZ e h (uL h) (c.elem h))
  if zq.isNone && !e.forced then pure ({ e with hoStatus := 2 }, false)
  else
    let z := zq.getD 0
    let notch ← notchPresets e uL
    let cg ← orBlock 6 (combine (ctlTerms e xh r ++ [kiTerm e z]) s.m)
    let d := q15Minus (uL g) (cg.elem g)
    let off ← orBlock 6 (Bfp.renorm d.2 0 [d.1])
    pure ({ e with
      z := z, notch := notch, off := off, offI := if s.three && decide (v.hoFade ≠ 0) then some 0 else none
      mode := .auto, forced := false, manNew := false, feAcc := 0
      hoZ := if zq.isSome then z else e.hoZ
      hoStatus := if zq.isSome then 1 else 3 }, true)

/-- u by the control line, in automatic mode, with the hand-over offset of R216: one result of m elements (R172). -/
def autoU (v : EngEnv) (e : Eng) (xh r : Bfp) : Option Bfp :=
  let m := e.shape.m
  let base := ctlTerms e xh r ++ [kiTerm e e.z]
  match e.offI with
  | some i =>
    if i ≤ v.hoFade then
      combine (base ++ [(oneSlot m (1 - hoRowOf v.hoRow e.shape.three)
        ⟨e.off.e, [rdivI (e.off.m.getD 0 0 * ((v.hoFade : Int) - i)) (max 1 v.hoFade)]⟩).term]) m
    else combine base m
  | none => combine base m

/-- The running injection adds at point `p`. -/
def Eng.injAt (e : Eng) (p : InjPoint) : Bool :=
  match e.inj with
  | some j => decide (j.ops.point = p)
  | none => false
/-- Value the running injection gives in this period. -/
def Eng.injNow (e : Eng) : Bfp :=
  match e.inj with
  | some j => injValue j
  | none => {}
/-- Row or slot the running injection names. -/
def Eng.injRow (e : Eng) : Nat :=
  match e.inj with
  | some j => j.ops.row
  | none => 0
/-- What the axis holds before the period, kept for a miss (R197). -/
def Eng.saved (e : Eng) : EngSave :=
  { xp := e.xp, z := e.z, notch := e.notch, force := e.force, u0 := e.u0, u1 := e.u1, runCnt := e.runCnt, feAcc := e.feAcc
    inj := e.inj, injCount := e.injCount, missCnt := e.missCnt }

/-- Pass 1 up to the control line (R181): measurement, corrected estimate, force, integrator; with the wrap of R187. (DESIGN CHOICE: log entry 184) -/
def engObserve (v : EngEnv) (first : Bool) (e : Eng) : Except Nat (Eng × Bool) := do
  let s := e.shape
  let refS := if e.injAt .ref then e.injNow.fixed 0 32 else 0
  let sp := v.sp + refS
  let fe := feOf v.pos sp
  let x0 ← if first ∨ s.pos = 15 then pure e.xp else orBlock 1 (rebase e.xp s.pos (sp - (v.spPrev + e.refS)))
  let y0 := (Bfp.renorm 32 0 ((List.range s.q).map (fun i => measure v fe (s.sel.getD i 0)))).getD {}
  let y ← if e.injAt .meas ∧ e.injRow < s.q then orBlock 4 (combine [y0.term, (oneSlot s.q e.injRow e.injNow).term] s.q)
    else pure y0
  let d ← orBlock 4 (combine [y.term, ((e.blk 4).stage x0).neg] s.q)
  let xh ← orBlock 5 (combine [x0.term, (e.blk 5).stage d] s.n)
  let zs := e.z + shiftBy fe (32 - s.zi)
  let z := sext 32 (unsx 32 zs)
  pure ({ e with
    xh := xh, y := y, z := z, fe := fe, refS := refS, force := if s.force then forceOf e xh else e.force
    intWraps := if zs = z then e.intWraps else satInc 16 e.intWraps }, decide (zs ≠ z))

/-- Mode of the period: the hand-over that is due, or one step of the manual rows (R211, R214, R215). -/
def engMode (v : EngEnv) (r : Bfp) (e : Eng) : Except Nat (Eng × Option Bool) := do
  let h ← if e.mode ≠ .auto ∧ (e.forced = true ∨ e.autoReq ≠ []) then (handOver v e e.xh r).map (fun h => (h.1, some h.2))
    else pure (e, none)
  let e3 := h.1
  pure (if e3.mode = .auto then e3
    else if e3.manNew then { e3 with m0 := e3.u0, m1 := e3.u1, manNew := false }
    else
      let t := manTargets v e3
      { e3 with m0 := slewTo v.slew e3.m0 t.1, m1 := slewTo v.slew e3.m1 t.2 }, h.2)

/-- One row of u from the control line through its notches and an OUT injection (R181, R185, R204). -/
def engRow (e : Eng) (u : Bfp) (i : Nat) (notch : Vector Bfp 4) : Except Nat (Bfp × Vector Bfp 4) := do
  let f ← notchChain e i (if e.mode = .auto then u.elem i else bfpOfQ15 (if i = 0 then e.m0 else e.m1)) notch
  let g ← if e.injAt .out ∧ e.injRow = i then orBlock 6 (combine [f.1.term, e.injNow.term] 1) else pure f.1
  pure (g, f.2)

/-- The period count of the hand-over offset after an automatic period, computed or not (R216). -/
def fadeOn (fade : Nat) (i : Option Nat) : Option Nat := i.bind (fun i => if i < fade then some (i + 1) else none)
/-- The end of a period: the applied output and the time update, with what the next period starts from (R178, R181). INJ_COUNT shows
the count of the periods the injection has run, n + 1 once period n has (R206). (DESIGN CHOICE: log entry 164) -/
def engFinish (v : EngEnv) (first : Bool) (r : Bfp) (e : Eng) (ga gb : Bfp) (notch : Vector Bfp 4) : Except Nat Eng := do
  let s := e.shape
  let qa := q15 ga
  let qb := if s.m = 2 then q15 gb else 0
  let l := limitU s.three v.uLim qa qb
  let changed := decide (l.1 ≠ qa ∨ l.2 ≠ qb ∨ ga.fixed 0 15 ≠ qa ∨ (s.m = 2 ∧ gb.fixed 0 15 ≠ qb))
  let xp ← orBlock 1 (timeUpdate e e.xh r l.1 l.2)
  let dth := sext 16 ((v.theta + 65536 - e.thetaPrev) % 65536)
  let lead : Int := if v.adv && !first then rdivI (3 * dth) 2 else 0
  pure { e with
    xp := xp, notch := notch, u0 := l.1, u1 := l.2, uRaw0 := ga, uRaw1 := gb, uSat := changed
    theta := v.theta, thetaPrev := v.theta, thetaOut := unsx 16 ((v.theta : Int) + lead)
    computed := true, reengaged := first, missed := false, missCnt := 0
    offI := fadeOn v.hoFade e.offI
    injVal := e.injNow
    inj := e.inj.map (injNext v.p)
    injCount := match e.inj with
      | some j => j.n + 1
      | none => e.injCount }

/-- Pass 1 for one axis and period (R181); an error names the block whose result left the range (R173). (DESIGN CHOICE: log entry 184) -/
def engPass1 (v : EngEnv) (e0 : Eng) : Except Nat EngOut := do
  let first := !e0.computed
  let e1 := if first then engReengage e0 else e0
  let o ← engObserve v first { e1 with save := some e1.saved }
  let r := refVec v
  let m ← engMode v r o.1
  let u ← if m.1.mode = .auto then orBlock 6 (autoU v m.1 m.1.xh r) else pure {}
  let a ← engRow m.1 u 0 m.1.notch
  let b ← if m.1.shape.m = 2 then engRow m.1 u 1 a.2 else pure ({}, a.2)
  let e ← engFinish v first r m.1 a.1 b.1 b.2
  pure { eng := e, wrapped := o.2, handOver := m.2 }

/-- Pass 2 (R102, R182): the predicted force in half newtons; none where it leaves the range. -/
def engPass2 (e : Eng) : Option Int :=
  let x8 := (List.range 8).foldl (fun (x : Option Bfp) _ =>
    match x with
    | none => none
    | some x => combine [(e.blk 1).stage x, (e.blk 2).stage ⟨0, [e.u0 * 256, e.u1 * 256]⟩] e.shape.n) (some e.xh)
  x8.map (forceOf e)

/-- Duties of an output (R224), the inverse Park transform at θout of R178 first; W of a brushed output is not driven. -/
def outDuty (sine : Bool) (e : Eng) : Duty :=
  let half : Near := ⟨9223372036854775808, 0⟩
  if e.shape.three then
    let c := cosTurn 16 e.thetaOut
    let s := sinTurn 16 e.thetaOut
    let ua := ((c.scale e.u0).sub (s.scale e.u1)).over 32768
    let ub := ((s.scale e.u0).add (c.scale e.u1)).over 32768
    let k := fun (v : Near) => if sine then v else two3.mul v
    let q := (sqrt3.mul ub).over 2
    let vU := k ua
    let vV := k (q.sub (ua.over 2))
    let vW := k ((q.neg).sub (ua.over 2))
    let vo := if sine then Near.ofInt 0 else (((vU.max vV).max vW).add ((vU.min vV).min vW)).over 2
    let d := fun (v : Near) => half.add ((v.sub vo).over 2)
    ⟨d vU, d vV, d vW⟩
  else
    let u : Near := (Near.ofInt e.u0).over 65536
    ⟨half.add u, half.sub u, Near.ofInt 0⟩

/-- A period becomes a miss (R197): the output repeats, and what abandoned work would have changed keeps its last completed
values; finished work keeps them, but for a time update with the repeated output. Where that leaves the range (R173) the second part
is true, and the period's values go back as in abandoned work. A hand-over made in
the period stands, with its offset at its next period (R215, R216), and so do the INT_WRAP event and INT_WRAP_CNT of a wrap in it,
which name what the period did. (DESIGN CHOICE: log entries 164, 185) -/
def engMiss (finished : Bool) (r : Bfp) (e : Eng) : Eng × Bool :=
  match e.save with
  | none => (e, false)
  | some s =>
    let rep := { e with
      u0 := s.u0, u1 := s.u1, runCnt := s.runCnt, feAcc := s.feAcc, inj := s.inj, injCount := s.injCount
      missed := true, f8 := none, missCnt := s.missCnt + 1, save := none }
    let back := { rep with xp := s.xp, z := s.z, notch := s.notch, force := s.force }
    if finished then
      match timeUpdate e e.xh r s.u0 s.u1 with
      | some p => ({ rep with xp := p }, false)
      | none => (back, true)
    else (back, false)

end Sys2Proof.Machine
end

