-- ==== Sys2Proof/Machine/Axes.lean ====
section
/-! DEFINITION. The axes between and at period boundaries (R139 to R167, R189, R194, R206, R212 to R246): standstill and coil
modes, gate-command outputs, references, limits, following, feedback errors, manual mode and injections, and the engine's
passes on one axis. -/

namespace Sys2Proof.Machine

/-! ### What governs an axis -/

/-- State of the doorway that owns an axis. -/
def Dev.ownerState (K : Memory) (x : Dev) (a : AxisId) : Option DwState := (K.owner a).map (fun o => (x.dw o.1).st)
/-- The axis is owned by an enabled doorway that is not in SEQ_FAULT (R60). -/
def Dev.reserved (K : Memory) (x : Dev) (a : AxisId) : Bool :=
  match x.ownerState K a with
  | some st => decide (st ≠ .seqFault)
  | none => false
/-- The gate is shut for the doorway that owns the axis. -/
def Dev.gateShutFor (K : Memory) (x : Dev) (a : AxisId) : Bool :=
  match K.owner a with
  | some (d, _) => !(x.dw d).gate
  | none => false
/-- A servo axis whose loop is open (R189, R190). -/
def Dev.loopOpen (K : Memory) (x : Dev) (a : AxisId) : Bool := decide (K.axKind a.val = 1) && !(x.ax a).eng.loopClosed
/-- An input role is asserted (R59). -/
def Dev.asserted (x : Dev) (i : Option InId) (low : Bool) : Bool :=
  match i with
  | some i => !(x.inPin i).unknown && ((x.inPin i).lvl != low)
  | none => false
/-- An input role reports UNKNOWN. -/
def Dev.unknownIn (x : Dev) (i : Option InId) : Bool :=
  match i with
  | some i => (x.inPin i).unknown
  | none => false
/-- A limit input is asserted; one that reports UNKNOWN counts as asserted (R149). -/
def Dev.limit (K : Memory) (x : Dev) (a : AxisId) (neg : Bool) : Bool :=
  x.asserted (K.limIn a.val neg) (K.limLow a.val neg) || x.unknownIn (K.limIn a.val neg)
/-- Reaction in force on an axis as its gate outputs and its generator see it: an overrun reaction counts from the end of
its repeated period (R198). -/
def Dev.outRank (K : Memory) (x : Dev) (a : AxisId) : Nat :=
  if (x.ax a).port.lateWait = 0 then x.axisRank K a
  else { x with evt := { x.evt with opens := x.evt.opens.filter (fun f =>
    decide (¬ (f.code = 0x0203 ∧ f.obj = objAxis a.val))) } }.axisRank K a
/-- Coil mode OFF or SHORTED is applied (R148). -/
def Axis.coilOpen (v : Axis) : Bool := decide (v.coil = some .off ∨ v.coil = some .shorted)
/-- The engine computes the axis in this period (R169). -/
def Dev.computes (K : Memory) (x : Dev) (a : AxisId) : Bool :=
  x.isSealed && decide (K.axKind a.val = 1) && (x.ax a).eng.loopClosed && !(x.ax a).coilOpen &&
  decide (x.axisRank K a ≠ 4 ∧ x.axisRank K a ≠ 5)
/-- The axis has a current move or a following input (R161). (DESIGN CHOICE: log entry 180) -/
def Dev.axMoving (K : Memory) (x : Dev) (a : AxisId) : Bool := (x.ax a).gen.cur.isSome || x.following K a
/-- States in which leaves are armed (R99). -/
def DwState.armed (s : DwState) : Bool :=
  match s with
  | .opening | .reopening | .closing | .finalClose => true
  | _ => false
/-- The armed direction of a leaf is the opening one: that of its doorway's armed state, and on a stop ramp that outlasts such a
state that of the state which issued the ramp (R99). -/
def Dev.armDir (x : Dev) (d : DoorId) (a : AxisId) : Bool :=
  if (x.dw d).st.armed then (x.dw d).armOpen else (x.ax a).trailOpen
/-- What a period of the generator reads (R118, R123, R124). -/
def Dev.genEnv (K : Memory) (x : Dev) (a : AxisId) : GenEnv :=
  let own := K.owner a
  let leaf := match own with
    | some (d, r) => if r < 2 then some (d, r) else none
    | none => none
  { p := K.periodCode a.val, edge := K.creepEdge a.val, sideNeg := K.creepNeg a.val
    ext := match leaf with
      | some (d, r) => if (x.dw d).creepExt then some (if K.openNeg d.val r then 1 else -1) else none
      | none => none
    pred := match leaf with
      | some (d, _) => if (x.dw d).predLive then some (K.predSpeed d.val (!x.armDir d a)) else none
      | none => none
    meas := if K.axKind a.val = 2 then none else some (x.ax a).posB }

/-! ### Coil modes and gate outputs (R144 to R148, R222, R225) -/

/-- Coil of a code of R146. -/
def coilOf (c : Nat) : Coil := match c with | 1 => .off | 2 => .shorted | _ => .hold
/-- Coil mode the axis takes at standstill in the state that governs it; none while a reaction forbids one (R82, R147). A leaf that
stands in OBSTACLE_HOLD before its relief move holds. (DEDUCED: log entry 26; DESIGN CHOICE: log entry 165) -/
def Dev.coilFor (K : Memory) (x : Dev) (a : AxisId) : Option Coil :=
  let r := x.axisRank K a
  match K.owner a with
  | none => if 3 ≤ r then none else some (coilOf (K.coilMode a.val 5))
  | some (d, role) =>
    let w := x.dw d
    match w.st with
    | .seqFault =>
      if 4 ≤ r then none
      else if w.cause = 0x0B then some .hold
      else some (coilOf (K.coilMode a.val 4))
    | .lockedClosed => if 3 ≤ r then none else some (coilOf (K.coilMode a.val 0))
    | .opened => if 3 ≤ r then none else some (coilOf (K.coilMode a.val 1))
    | .obstacleHold =>
      if 3 ≤ r then none
      else if role < 2 ∧ (if role = 0 then w.after1 else w.after2) ≠ AfterStop.none then some .hold
      else some (coilOf (K.coilMode a.val 2))
    | .isolated => if 3 ≤ r then none else some (coilOf (K.coilMode a.val 3))
    | .egress => some .off
    | _ => if 3 ≤ r then none else some (coilOf (K.coilMode a.val 5))
/-- Gate-command outputs by the first row of R222 that applies. -/
def Dev.gateWant (K : Memory) (x : Dev) (a : AxisId) : GateOut :=
  let v := x.ax a
  let r := x.outRank K a
  if !x.holding || !x.isSealed then .hiZ
  else if v.port.fltLatched || v.port.ocLatched then .low
  else if K.axKind a.val = 0 || x.loopOpen K a || decide (v.coil = some .off) || decide (r = 5) then .off
  else if decide (v.coil = some .shorted) || decide (r = 4) then .shorted
  else .pwm
/-- The port drives a brushed motor: the axis is a servo whose program is brushed (R146). -/
def Dev.brushed (K : Memory) (x : Dev) (a : AxisId) : Bool := decide (K.axKind a.val = 1) && !(x.ax a).eng.shape.three
/-- GH and GL of one phase under PWM, `k` ticks after the valley of a carrier period of half period `n` (R225): compare value
`c`, dead time and shortest pulse in ticks. -/
def pwmLeg (n c dead minp k : Nat) : Bool × Bool :=
  let high := 2 * (n - c)
  let low := 2 * (c - dead)
  if high < minp ∨ high = 0 then (false, true)
  else if low < minp then (true, false)
  else (decide (c ≤ k ∧ k < 2 * n - c), decide (k + dead < c ∨ 2 * n - c + dead ≤ k))
/-- Ticks after a valley before which GH and GL of a phase do not turn on, from the carrier period before it (R225): GH follows a GL that is
on up to the valley by DEAD_TIME, and GL a GH that turned off by then. (DESIGN CHOICE: log entry 166) -/
def pwmLag (n c dead minp : Nat) : Nat × Nat :=
  let last := pwmLeg n c dead minp (2 * n - 1)
  (if last.2 then dead else 0,
   if last.1 then dead else if (pwmLeg n c dead minp n).1 then dead - c else 0)
/-- GH and GL of the three phases, GH_U in bit 0 to GL_W in bit 5, as the pattern in force asks for them (R146, R222, R225). -/
def Dev.gateLevels (K : Memory) (x : Dev) (a : AxisId) : BitVec 6 :=
  let p := (x.ax a).port
  let b := x.brushed K a
  match p.out with
  | .hiZ | .low | .off => 0
  | .shorted => if b then 0b011000 else 0b111000
  | .pwm =>
    let t := x.time.cyc - p.valleyAt
    let leg := fun (c : Nat) (lag : Nat × Nat) =>
      let q := pwmLeg p.half c (K.deadTime a.val) (K.minPulse a.val) (t % (2 * p.half))
      (q.1 && decide (lag.1 ≤ t), q.2 && decide (lag.2 ≤ t))
    let u := leg p.cU p.lagU
    let v := leg p.cV p.lagV
    let w := if b then (false, false) else leg p.cW p.lagW
    BitVec.ofNat 6 (b2n u.1 + 2 * b2n v.1 + 4 * b2n w.1 + 8 * b2n u.2 + 16 * b2n v.2 + 32 * b2n w.2)
/-- The levels the gate-command pins show; none at high impedance. An output that turns on at a change of pattern
does so DEAD_TIME later (R222). (DESIGN CHOICE: log entry 166) -/
def Dev.gatePins (K : Memory) (x : Dev) (a : AxisId) : Option (BitVec 6) :=
  let p := (x.ax a).port
  if p.out = .hiZ then none
  else
    some (if x.time.cyc - p.outAt < K.deadTime a.val then x.gateLevels K a &&& p.outOld else x.gateLevels K a)
/-- The gate-command outputs take a pattern. -/
def Dev.setGate (K : Memory) (a : AxisId) (o : GateOut) (x : Dev) : Dev :=
  if (x.ax a).port.out = o then x
  else
    let old := (x.gatePins K a).getD 0
    x.modAx a (fun v => { v with port := { v.port with out := o, outAt := x.time.cyc, outOld := old } })
/-- The changes of R222 that do not wait for a carrier valley. -/
def Dev.gateNow (K : Memory) (a : AxisId) (x : Dev) : Dev :=
  let o := (x.ax a).port.out
  x.setGate K a (match x.gateWant K a, o with
    | .hiZ, _ => GateOut.hiZ
    | _, .hiZ => .hiZ
    | .low, _ => .low
    | _, .low => .low
    | .off, _ => .off
    | .shorted, _ => .shorted
    | .pwm, _ => o)
/-- Every port takes the changes of R222 that do not wait. -/
def Dev.gatesNow (K : Memory) (x : Dev) : Dev := x.each 24 (fun a y => y.gateNow K a)
/-- Half period of the carrier period that begins now, CAR_N × (1 + δ) rounded, with δ within ±DITHER (R227). -/
def Memory.halfOf (K : Memory) (a : AxisId) (prbs : Nat) : Nat :=
  let n := K.carN a.val
  match K.dither a.val with
  | 0 => n
  | k =>
    let pc := if k = 3 then 4 else k
    let lo := rdiv (n * (100 - pc)) 100
    lo + Config.ditherPick prbs n % (rdiv (n * (100 + pc)) 100 - lo + 1)
/-- One step of the dither PRBS x^16 + x^14 + x^13 + x^11 + 1. -/
def ditherStep (r : Nat) : Nat :=
  (2 * r + (((if r.testBit 15 then 1 else 0) + (if r.testBit 13 then 1 else 0) + (if r.testBit 12 then 1 else 0) +
    (if r.testBit 10 then 1 else 0)) % 2)) % 65536
/-- The carrier is synchronous: undithered, with a period that divides 200 µs (R226). -/
def Memory.carSync (K : Memory) (a : AxisId) : Bool := decide (K.dither a.val = 0 ∧ 200000 % (10 * K.carN a.val) = 0)
/-- Compare value of a duty in a carrier period of half period `n` (R225). -/
def compareOf (n : Nat) (d : Near) : Nat := (((Near.ofInt 1).sub d).scale n).round.toNat
/-- A carrier valley at cycle `c`: the written output is loaded, its compare values are taken with the new half period, and
waiting changes of the outputs take effect (R222, R225 to R227). An output whose counterpart was on up to the valley waits for the dead
time (R225). (DESIGN CHOICE: log entries 158, 166) -/
def Dev.valley (K : Memory) (a : AxisId) (c : Nat) (x : Dev) : Dev :=
  let same := decide ((x.ax a).port.out = .pwm) && decide (x.gateWant K a = .pwm)
  let y := x.setGate K a (x.gateWant K a)
  y.modAx a (fun v =>
    let p := v.port
    let d := p.staged.getD p.duty
    let n := K.halfOf a p.prbs
    let lag := fun (c : Nat) => if same then pwmLag p.half c (K.deadTime a.val) (K.minPulse a.val) else (0, 0)
    { v with port := { p with
      duty := d, staged := none, half := n, valleyAt := c
      lagU := lag p.cU, lagV := lag p.cV, lagW := lag p.cW
      cU := compareOf n d.u, cV := compareOf n d.v, cW := compareOf n d.w
      prbs := if K.dither a.val = 0 then p.prbs else ditherStep p.prbs } })
/-- Cycle of the next valley of a port (R226, R227): of a synchronous carrier the first cycle at or after the next multiple of its
period, of any other 2N ticks after the valley before. (DEDUCED: log entry 137) -/
def Dev.nextValley (K : Memory) (x : Dev) (a : AxisId) : Nat :=
  let p := (x.ax a).port
  let per := 10 * K.carN a.val
  if K.carSync a then
    if x.atMultiple per ∧ p.valleyAt ≠ x.time.cyc then x.time.cyc
    else x.time.cyc + x.cyclesTo ((x.tt / per + 1) * per)
  else p.valleyAt + 2 * p.half
/-- The first carrier period of a port, from the seal instant (R227). (DESIGN CHOICE: log entry 158) -/
def Dev.carrierStart (K : Memory) (a : AxisId) (x : Dev) : Dev :=
  (x.modAx a (fun v => { v with port := { v.port with prbs := Config.ditherSeed.toNat } })).valley K a x.time.cyc

/-! ### Manual mode and injections (R206, R212 to R214) -/

/-- Manual mode ends (R214): by a forced hand-over in a computed period; in one that is not computed the preset has no c to
start from, so z becomes 0 at once. (DEDUCED: log entry 138) -/
def Dev.endManual (K : Memory) (a : AxisId) (x : Dev) : Dev :=
  let e := (x.ax a).eng
  if e.mode = .auto then x
  else if x.computes K a then x.modAx a (fun v => { v with eng := { v.eng with forced := true } })
  else
    (x.modAx a (fun v => { v with eng := { v.eng with
      mode := .auto, forced := false, manNew := false, feAcc := 0, z := 0, offI := none, hoStatus := 3, autoReq := [] } })).over e.autoReq
      (fun h y => y.complete h stOK)
/-- The running injection ends with a code of INJ_STATUS and a status. -/
def Dev.endInj (a : AxisId) (code st : Nat) (x : Dev) : Dev :=
  match (x.ax a).eng.inj with
  | none => x
  | some j =>
    (x.modAx a (fun v => { v with eng := { v.eng with inj := none, injEnd := code } })).complete j.hdr st
/-- The conditions of R201 but TEST_EN and the gate, where `comp` says that the engine computes the axis in the period. -/
def Dev.mayWork (K : Memory) (x : Dev) (a : AxisId) (comp : Bool) : Bool :=
  x.isSealed && decide (K.axKind a.val = 1) && (x.ax a).eng.loopClosed && comp && !x.reserved K a &&
  decide (x.axisRank K a < 3) && !x.following K a
/-- An injection ends where it is due (R206): after its last value, by INJECT_STOP, by a failed condition or by the gate. -/
def Dev.injDue (K : Memory) (a : AxisId) (comp : Bool) (x : Dev) : Dev :=
  match (x.ax a).eng.inj with
  | none => x
  | some j =>
    if (match injTotal (K.periodCode a.val) j.ops.form with
        | some t => decide (t ≤ j.n)
        | none => false) then x.endInj a 1 stOK
    else if j.stop then x.endInj a 3 stCancelled
    else if !x.mayWork K a comp then x.endInj a 4 stCancelled
    else if x.gateShutFor K a then x.endInj a 5 stCancelled
    else x
/-- Ends of manual mode that a period boundary finds (R214). -/
def Dev.manDue (K : Memory) (a : AxisId) (x : Dev) : Dev :=
  if (x.ax a).eng.mode ≠ .auto ∧
      (3 ≤ x.axisRank K a ∨ x.gateShutFor K a = true ∨ (x.ax a).eng.loopClosed = false ∨ x.isSealed = false) then
    x.endManual K a
  else x

/-! ### References (R153 to R159) -/

/-- A shift of the reference frame by Δ (R155): offset, set-point, previous compare value and tracked position move, and a latch that
waits moves with its frame. -/
def Dev.shift (a : AxisId) (dl : Int) (x : Dev) : Dev :=
  x.modAx a (fun v => { v with
    posOff := v.posOff + dl, posB := v.posB + dl, refLatch := v.refLatch.map (· + dl)
    gen := { v.gen with x := v.gen.x + dl * fx, xPrev := v.gen.xPrev + dl * fx }
    fol := { v.fol with base := v.fol.base + dl * fx }
    cmp := { v.cmp with prev := v.cmp.prev + dl * fx }
    posUncertain := false })
/-- A shift by Δ, with what reports it: REF_DELTA and REF_DONE (R155). -/
def Dev.refReport (K : Memory) (a : AxisId) (dl : Int) (x : Dev) : Dev :=
  ((x.shift a dl).modAx a (fun v => { v with refDelta := dl })).event K (0xA8 + a.val) (objAxis a.val) 3
    (unsx 48 (x.axPos K a + dl))
/-- The shift of a reference latch Pl to a reference position (R155). (DEDUCED: log entry 40) -/
def Dev.refShift (K : Memory) (a : AxisId) (refPos pl : Int) (x : Dev) : Dev :=
  (x.refReport K a (refPos - pl)).modAx a (fun v => { v with referenced := true })
/-- Each index correction ρ that waits is applied as a Δ, with no stop and no change to REFERENCED (R159). It ends no arming. -/
def Dev.idxDue (K : Memory) (a : AxisId) (x : Dev) : Dev :=
  (x.modAx a (fun v => { v with idxFix := [] })).over (x.ax a).idxFix (fun rho y => y.refReport K a rho)
/-- A latch that has reached the core island is applied at the axis's period boundary, after an index correction (R155,
R159). (DEDUCED: log entry 40) -/
def Dev.refDue (K : Memory) (a : AxisId) (x : Dev) : Dev :=
  let y := x.idxDue K a
  match (y.ax a).refArm, (y.ax a).refLatch with
  | some o, some pl =>
    let z := (y.modAx a (fun v => { v with refArm := none, refLatch := none })).refShift K a o.refPos pl
    if o.stop then z.rampStop K a else z
  | none, some _ => y.modAx a (fun v => { v with refLatch := none })
  | _, none => y

/-! ### Compare unit (R139, R140, R163) -/

/-- Source value of the compare unit in this period. -/
def Dev.cmpValue (K : Memory) (x : Dev) (a : AxisId) : Int :=
  if (x.ax a).cmp.measured && decide (K.axKind a.val ≠ 2) then (x.ax a).posB * fx else (x.ax a).gen.x
/-- The compare unit fires: CMP_HIT, and a step retraction that waits for it (R76, R139). -/
def Dev.cmpFire (K : Memory) (a : AxisId) (x : Dev) : Dev :=
  let y := (x.modAx a (fun v => { v with cmp := { v.cmp with armed := false, behind := false, fire := false } })).event K
    (0x60 + a.val) (objAxis a.val) 1 (x.axDetail K a)
  match K.owner a with
  | some (d, 0) =>
    if (y.dw d).retractArmed ∧ ((y.dw d).st = .closing ∨ (y.dw d).st = .finalClose) then
      y.modDw d (fun w => { w with retract := true, retractArmed := false })
    else y
  | _ => y
/-- The test of R140 when a COMPARE_SET takes effect: whether the compare position is behind. -/
def Dev.cmpTest (K : Memory) (a : AxisId) (x : Dev) : Dev :=
  let c := x.cmpValue K a
  x.modAx a (fun v =>
    let m := v.cmp
    let b := if m.neg then decide (c ≤ m.pos * fx) else decide (m.pos * fx ≤ c)
    { v with cmp := { m with behind := b, fire := b && m.fire, prev := c, isNew := false } })
/-- One evaluation of the compare unit (R139). -/
def Dev.cmpPeriod (K : Memory) (a : AxisId) (x : Dev) : Dev :=
  let m := (x.ax a).cmp
  let c := x.cmpValue K a
  let y := x.modAx a (fun v => { v with cmp := { v.cmp with prev := c } })
  if !m.armed then y
  else if m.isNew then x.cmpTest K a
  else if m.behind && m.fire then y.cmpFire K a
  else if (if m.neg then decide (m.pos * fx < m.prev ∧ c ≤ m.pos * fx) else decide (m.prev < m.pos * fx ∧ m.pos * fx ≤ c)) then
    y.cmpFire K a
  else y

/-! ### Following (R165 to R167) -/

/-- The set-point of a following axis at a period boundary (R166). -/
def Dev.followPeriod (K : Memory) (a : AxisId) (x : Dev) : Dev :=
  let f := (x.ax a).fol
  let ratio : Int := K.followRatio a.val
  let run := x.frameB - f.start
  let done := decide (f.span ≤ run)
  let frac : Int := if done then fx else rdivI ((run : Int) * fx) (max 1 f.span)
  let part := if f.remaining = 0 then 0 else f.dirPrev * ratio * frac
  let nx := f.base + part
  x.modAx a (fun v =>
    let dv := rdivI ((nx - v.gen.x) * 40000) (65536 * 2 ^ K.periodCode a.val)
    { v with
      fol := if f.remaining = 0 then f
        else if done then { f with base := nx, remaining := 0 } else { f with remaining := ratio * (fx - frac) }
      gen := { v.gen with x := nx, v := dv.natAbs, dir := if dv < 0 then -1 else 1, seg := .idle } })
/-- A coarse step of direction `s` and stamp `ts` for a following axis (R166, R167). A step before it that is not all spread is finished
at once, so that each counts FOLLOW_RATIO in the end (R165). (DESIGN CHOICE: log entry 174) -/
def Dev.coarseFor (K : Memory) (a : AxisId) (s : Int) (ts : Nat) (x : Dev) : Dev :=
  x.modAx a (fun v =>
    let f := v.fol
    let cnt := sext 32 (unsx 32 (f.count + s))
    if f.out then { v with fol := { f with count := cnt, dropped := satInc 32 f.dropped } }
    else
      let mg := 100000 * K.followMaxGap a.val
      let gap := match f.tsPrev with
        | none => mg
        | some t => if s = f.dirPrev then min (ts - t) mg else mg
      { v with fol := { f with
          base := if f.remaining = 0 then f.base else f.base + f.dirPrev * (K.followRatio a.val : Int) * fx
          start := ts, span := max gap (K.period a.val), remaining := (K.followRatio a.val : Int) * fx
          dirPrev := s, tsPrev := some ts, count := cnt } })

/-! ### One period of the generator -/

/-- Why a generator holds its set-point at a boundary: 0 it does not, 1 FROZEN, 2 TRACK (R107, R133, R148, R189, R212). -/
def Dev.axHold (K : Memory) (x : Dev) (a : AxisId) : Nat :=
  let v := x.ax a
  let r := x.outRank K a
  if r = 5 ∨ x.loopOpen K a = true ∨ v.eng.mode ≠ .auto ∨ x.ownerState K a = some .egress then 2
  else if r = 4 then 1
  else if v.coilOpen then 2
  else if v.freeze then 1
  else 0
/-- What waits in the orders of an axis takes effect, oldest first (R62, R114, R133, R151). (DEDUCED: log entry 157) -/
def Dev.takeOrders (K : Memory) (a : AxisId) (x : Dev) : Dev :=
  (x.modAx a (fun v => { v with orders := [] })).over (x.ax a).orders (fun o y =>
    match o with
    | .stop => y.rampStop K a
    | .freeze p => y.freezeAxis K a p
    | .track => y.trackAxis K a
    | .move target set => y.onGen K a (genMoveNow (y.genEnv K a) { target := target, set := set, hdr := none }))
/-- A queued move, or a coarse step of a following axis, ends a coil mode or a freeze that no reaction holds (R133, R148). -/
def Dev.moveStarts (K : Memory) (a : AxisId) (x : Dev) : Dev :=
  if ((x.ax a).gen.queue.isEmpty ∧ ¬ (x.following K a = true ∧ (x.ax a).fol.remaining ≠ 0)) ∨ 4 ≤ x.outRank K a ∨
      x.ownerState K a = some .egress then x
  else x.modAx a (fun v => { v with coil := none, freeze := false })
/-- The hold takes or leaves the generator. Only a reaction takes an axis out of following (R167). -/
def Dev.applyHold (K : Memory) (a : AxisId) (x : Dev) : Dev :=
  match x.axHold K a with
  | 2 =>
    if (x.ax a).gen.seg = .track then x
    else if x.outRank K a = 5 then x.trackAxis K a
    else x.onGen K a genTrack
  | 1 =>
    if (x.ax a).gen.seg = .frozen then x
    else if (x.ax a).gen.seg = .track then
      x.modAx a (fun v => { v with gen := { v.gen with seg := .frozen, v := 0, x := wholeCount v.gen.x * fx } })
    else x.freezeAxis K a none
  | _ => x.modAx a (fun v => { v with gen := genRelease v.gen })
/-- A move from `from'` to `target` (in 2^−32 count) is an opening action of the doorway that owns the axis (R73). -/
def Memory.openingMove (K : Memory) (a : AxisId) (from' target : Int) : Bool :=
  match K.owner a with
  | none => false
  | some (d, r) =>
    let dl := target - from'
    if r < 2 then (if K.openNeg d.val r then decide (dl < 0) else decide (0 < dl))
    else
      let goal := (if r = 2 then K.dwPos d.val 4 else K.dwPos d.val 7) * fx
      decide (0 < dl * (goal - from'))
/-- The head of the queue becomes current in this period from standstill (R128). -/
def Gen.starts (g : Gen) : Bool :=
  g.cur.isNone && g.ramp.isNone && !g.queue.isEmpty && decide (g.seg ≠ .frozen ∧ g.seg ≠ .track)
/-- The status that refuses the move about to start: towards an asserted limit (R152, R303), or an opening action while the gate
is shut (R73). -/
def Dev.startRefused (K : Memory) (x : Dev) (a : AxisId) : Option Nat :=
  let g := (x.ax a).gen
  match g.starts, g.queue with
  | true, m :: _ =>
    if x.gateShutFor K a && K.openingMove a g.x (m.target * fx) then some stGate
    else if (g.x < m.target * fx ∧ x.limit K a false = true) ∨ (m.target * fx < g.x ∧ x.limit K a true = true) then some stState
    else none
  | _, _ => none
/-- The period of a generator begins, with the profile changes that apply in it (R135). (DEDUCED: log entry 42) -/
def Dev.genOpen (K : Memory) (a : AxisId) (x : Dev) : Dev :=
  x.modAx a (fun v => { v with gen := genBegin (x.genEnv K a) v.gen })
/-- The generator makes its period: a following axis follows, a refused move completes
in place of starting, any other runs R120. -/
def Dev.genPeriod (K : Memory) (a : AxisId) (x : Dev) : Dev :=
  let e := x.genEnv K a
  if x.following K a ∧ x.axHold K a = 0 then x.followPeriod K a
  else match x.startRefused K a, (x.ax a).gen.queue with
    | some st, m :: rest =>
      (x.modAx a (fun v => { v with gen := atRest { v.gen with queue := rest, seg := .idle } })).completeOpt m.hdr st
    | _, _ =>
      let y := x.onGen K a (genStep e)
      if x.following K a then y.modAx a (fun v => { v with fol := { v.fol with base := v.gen.x } }) else y

/-- Planned values of period k + 8 (R105, R142). -/
def Dev.lookAhead (K : Memory) (a : AxisId) (x : Dev) : Dev :=
  let e := x.genEnv K a
  x.modAx a (fun v =>
    let p := genPlan e v.gen
    let lim := match v.gen.cur with
      | some m => (genCtx e v.gen m).2.1 / 65536
      | none => min v.gen.cmdLimit (e.pred.getD v.gen.cmdLimit)
    { v with gen := { v.gen with
        laPos := wholeCount p.x, laSpeed := rdiv p.v 65536, laSeg := p.seg, laLimit := lim, predOn := e.pred.isSome } })
/-- The axis has no current move in this period: segment IDLE, FROZEN or TRACK, manual mode counting as a move, and so does one that
became current in the period and is over (R128, R144, R152, R212). -/
def Axis.noMove (v : Axis) : Bool :=
  !v.gen.moving && v.gen.joints.isEmpty && !v.began && decide (v.eng.mode = .auto) &&
    (decide (v.gen.seg = .idle) || decide (v.gen.seg = .frozen) || decide (v.gen.seg = .track))
/-- Settle condition and standstill (R144): a stepper settles in a period without a move, a servo where it measures near. (DEDUCED: log entries 29, 31) -/
def Dev.settle (K : Memory) (a : AxisId) (x : Dev) : Dev :=
  let v := x.ax a
  let near := (decide (K.axKind a.val = 2) && v.noMove) || decide (K.axKind a.val = 1) &&
    decide ((v.posB * fx - v.gen.x).natAbs ≤ K.stillWindow a.val * 4294967296)
  let n := if near then v.stillCnt + 1 else 0
  x.modAx a (fun v => { v with stillCnt := min n 256, still := v.still && v.noMove && near })
/-- The coil mode of a standing axis, where one applies (R148). -/
def Dev.takeCoil (K : Memory) (a : AxisId) (x : Dev) : Dev :=
  if (x.ax a).still ∧ (x.ax a).gen.queue.isEmpty = true ∧ x.isSealed = true then
    let c := x.coilFor K a
    (x.modAx a (fun v => { v with coil := c })).gateNow K a
  else x
/-- The axis comes to standstill: the bit, its event, the faults it ends and the coil mode (R144, R148, R445). -/
def Dev.standstill (K : Memory) (a : AxisId) (x : Dev) : Dev :=
  let v := x.ax a
  if !v.still && v.noMove && decide (max 1 (K.stillTime a.val) ≤ v.stillCnt) then
    let y := (x.modAx a (fun v => { v with still := true })).event K (0x90 + a.val) (objAxis a.val) 1 (x.axDetail K a)
    ((y.endFault K 0x0202 (objAxis a.val)).endAtRest K).takeCoil K a
  else x
/-- LIMIT_STOP of one limit input, where its condition holds and none of that limit is open (R149, R150, R152). -/
def Dev.limitStop (K : Memory) (a : AxisId) (neg : Bool) (x : Dev) : Dev :=
  let v := x.ax a
  let known := if neg then v.limNeg else v.limPos
  if x.limit K a neg && decide (0 < v.gen.v) && decide (v.gen.dir = if neg then -1 else 1) && !known then
    let r := if K.limHard a.val then (if K.limCoilOff a.val then 5 else 4) else 3
    ((x.modAx a (fun w => { w with
      limLatched := true, limPos := w.limPos || !neg, limNeg := w.limNeg || neg })).fault K 0x0200 (objAxis a.val) r
      (leBytes 1 (if neg then 1 else 0)) true).gateNow K a
  else x
/-- One period of axis `a` in step 3 of R20: generator, compare unit, referencing, standstill and look-ahead. (DEDUCED: log entries 40, 171) -/
def Dev.axisPeriod (K : Memory) (a : AxisId) (x : Dev) : Dev :=
  let g := (x.ax a).gen
  let old : PredSave :=
    { laPos := g.laPos, laSpeed := g.laSpeed, laSeg := g.laSeg, laForce := g.laForce, laEnv := g.laEnv, laLimit := g.laLimit
      live := ((K.owner a).map (fun o => (x.dw o.1).predLive)).getD false, quiet := (x.ax a).eng.predQuiet }
  let x0 := x.modAx a (fun v => { v with
    gen := { v.gen with xPrev := v.gen.x, vPrev := v.gen.dir * v.gen.v }, eng := { v.eng with predSave := some old } })
  let x1 := ((x0.takeOrders K a).moveStarts K a).applyHold K a
  let started := (x1.ax a).gen.starts
  let x2 := (x1.genPeriod K a).modAx a (fun v => { v with
    trail := v.trail && v.gen.ramp.isSome
    still := v.still && !started && !v.gen.moving, began := started
    eng :=
      if v.eng.startPend ∧ v.gen.ramp.isNone ∧ v.gen.queue.isEmpty then { v.eng with startPend := false, startAt := some 0 }
      else { v.eng with startAt := v.eng.startAt.map (· + 1) } })
  let x3 := if (x2.ax a).gen.moving then x2
    else ((x2.over (x2.ax a).gen.stops (fun h y => y.complete h stOK)).modAx a (fun v => { v with gen := { v.gen with stops := [] } }))
  let x4 := ((x3.cmpPeriod K a).refDue K a).lookAhead K a
  let x5 := ((x4.settle K a).standstill K a).takeCoil K a
  let x6 := (if (x5.ax a).coilOpen then x5.applyHold K a else x5).when (x5.ax a).still (Dev.endAtRest K)
  (x6.limitStop K a false).limitStop K a true

/-! ### Feedback error periods (R243) -/

/-- FEEDBACK_LOSS is raised on a servo axis, and on an axis that follows its port (R243). -/
def Dev.feedbackLoss (K : Memory) (a : AxisId) (x : Dev) : Dev :=
  let cause := (x.ax a).port.fbCause
  let raise := fun (b : AxisId) (y : Dev) =>
    if y.isOpen 0x0209 (objAxis b.val) then y
    else (y.modAx b (fun v => { v with port := { v.port with fbLatched := true } })).fault K 0x0209 (objAxis b.val) 5
      (leBytes 1 cause) true
  if (x.ax a).port.fbRun < max 1 (K.fbErrLimit a.val) then x
  else
    let y := if K.axKind a.val = 1 then raise a x else x
    y.each 24 (fun b z => if z.following K b ∧ K.followPort b.val = a ∧ b ≠ a then raise b z else z)
/-- Neither unit of a pair holds the Summit, so no unit drives a shared clock (R236). (DEDUCED: log entry 44) -/
def Dev.unclaimed (x : Dev) : Bool := x.twin.en && !x.holding && x.twin.see
/-- The running feedback period ends at boundary B: its count moves or resets. In a period in which the pair was unclaimed, SSI errors and
losses of channels on the shared clock do neither, and from the claim on the first 3 · SD_OSR bits of either unit are exempt; a
Manchester channel runs on its modulator's own clock (R232, R236). (DEDUCED: log entry 44) -/
def Dev.feedbackPeriod (K : Memory) (a : AxisId) (x : Dev) : Dev :=
  let p := (x.ax a).port
  let bits := 3 * K.sdOsr a.val * K.sdDiv a.val
  let within := fun (n : Nat) (at' : Option Nat) => match at' with
    | some c => decide (x.time.cyc < c + n)
    | none => false
  let claimed := if x.twin.en then x.twin.claimedAt else none
  let gap := x.unclaimed || within (K.period a.val / 5) claimed
  let grace := within bits p.sdGrace || within bits claimed
  let sdOut := !K.sdManch a.val && (gap || grace)
  let cause := if p.wireBreak ≠ 0 then 1 else if p.ssiBad && !gap then 2 else if decide (p.sdLoss ≠ 0) && !sdOut then 3
    else if K.elecPort a.val && (p.hall == 0 || p.hall == 7) then 4 else p.fbCause
  if cause = 0 ∧ (p.ssiBad = true ∨ p.sdLoss ≠ 0) then
    x.modAx a (fun v => { v with port := { v.port with fbCause := 0, ssiBad := false } })
  else if cause = 0 then
    x.modAx a (fun v => { v with port := { v.port with
      fbRun := 0, fbQuiet := min (v.port.fbQuiet + 1) 255, sdGrace := if grace then v.port.sdGrace else none } })
  else
    let y := x.modAx a (fun v => { v with port := { v.port with
      fbRun := min (v.port.fbRun + 1) 255, fbQuiet := 0, fbCause := cause, ssiBad := false } })
    (y.feedbackLoss K a).modAx a (fun v => { v with port := { v.port with fbCause := 0 } })

/-! ### The engine on one axis (R181, R197 to R200, R218) -/

/-- The electrical angle at B (R177). -/
def Dev.thetaOf (K : Memory) (x : Dev) (a : AxisId) : Nat :=
  if K.elecPort a.val then (x.ax a).port.hallAng
  else unsx 16 ((x.ax a).rawB * K.elecPerCount a.val / 65536 + K.elecZero a.val)
/-- The output limit in force (R186). -/
def Dev.uLimit (K : Memory) (x : Dev) (a : AxisId) : Nat :=
  if x.ownerState K a = some .finalClose then K.uLimFinal a.val else K.uLim a.val
/-- What pass 1 reads for an axis. -/
def Dev.engEnv (K : Memory) (x : Dev) (a : AxisId) : EngEnv :=
  let v := x.ax a
  { p := K.periodCode a.val, pos := v.rawB + v.posOff, raw := v.rawB, sp := v.gen.x, spPrev := v.gen.xPrev
    v := v.gen.dir * v.gen.v, vPrev := v.gen.vPrev, theta := x.thetaOf K a, adv := K.elecAdv a.val
    cur := v.port.cur, uLim := x.uLimit K a, slew := K.manSlew a.val, hoRow := K.hoRow a.val, hoZlim := K.hoZlim a.val
    hoFade := K.hoFade a.val, fgMan := K.manFgainMan a.val, fgExp := K.manFgainExp a.val }
/-- ENG_RANGE or ENG_ECC on an axis, with the block that has to be reloaded (R173, R200). -/
def Dev.engFault (K : Memory) (a : AxisId) (code block : Nat) (detail : List Byte) (x : Dev) : Dev :=
  (x.modAx a (fun v => { v with eng := { v.eng with badBlocks := v.eng.badBlocks ||| (1 <<< block) } })).fault K code
    (objAxis a.val) 5 detail true
/-- A result of block `b` leaves the range (R173): ENG_RANGE, and the result of the period is discarded. -/
def Dev.engRange (K : Memory) (a : AxisId) (b : Nat) (x : Dev) : Dev :=
  (x.modAx a (fun v => { v with
    eng := { v.eng with computed := false, f8 := none, save := none, missed := false }
    port := { v.port with computed := none } })).engFault K a 0x0205 b (leBytes 1 b)
/-- FOLLOW_ERR is raised once its accumulator has reached FE_TIME (R218). -/
def Dev.followErr (K : Memory) (a : AxisId) (x : Dev) : Dev :=
  let e := (x.ax a).eng
  if e.feAcc < max 1 (K.feTime a.val) * 100 then x
  else
    let r := match K.feReact a.val with
      | 0 => 3
      | 1 => 4
      | _ => 5
    (x.modAx a (fun v => { v with eng := { v.eng with feAcc := 0, feLatched := true } })).fault K 0x0201 (objAxis a.val) r
      (leBytes 4 (unsx 32 (clampI (-2147483648) 2147483647 (wholeCount e.fe)))) true
/-- The following-error supervisor of a computed period in automatic mode (R218, R219). -/
def Dev.supervise (K : Memory) (a : AxisId) (x : Dev) : Dev :=
  let e := (x.ax a).eng
  if e.mode ≠ .auto then x
  else
    let m := e.fe.natAbs
    let t := 25 * 2 ^ K.periodCode a.val
    let above := decide (K.feLim a.val * 4294967296 < m)
    let warn := decide (K.feWarn a.val ≠ 0 ∧ K.feWarn a.val * 4294967296 < m)
    let y := x.modAx a (fun v => { v with eng := { v.eng with
      feAcc := if above then v.eng.feAcc + t else v.eng.feAcc - t
      fePeak := max v.eng.fePeak m, feWarnAbove := warn } })
    if warn && !e.feWarnAbove then y.event K (0xA8 + a.val) (objAxis a.val) 2 (y.axDetail K a) else y
/-- The peaks a cycle summary reports (R90). -/
def Dev.cyclePeaks (K : Memory) (a : AxisId) (x : Dev) : Dev :=
  match K.owner a with
  | some (d, r) =>
    if r < 2 ∧ (x.dw d).cycOn = true then
      let e := (x.ax a).eng
      x.modDw d (fun w => { w with
        peakForce := max w.peakForce e.force.natAbs, maxFe := max w.maxFe (e.fe.natAbs / 4294967296) })
    else x
  | none => x
/-- Pass 1 on axis `a` (R181), its output handed to the port and its hand-over completed. Re-engagement ends the injection that runs,
one that took effect at this boundary too (R206). (DESIGN CHOICE: log entries 164, 182) -/
def Dev.pass1 (K : Memory) (a : AxisId) (x : Dev) : Dev :=
  if !x.computes K a then
    x.modAx a (fun v => { v with
      eng := { v.eng with
        computed := false, save := none, injVal := {}, f8 := none, missed := false
        offI := if v.eng.mode = .auto then fadeOn (K.hoFade a.val) v.eng.offI else v.eng.offI }
      port := { v.port with computed := none } })
  else
    let x0 := if (x.ax a).eng.computed then x else x.endInj a 6 stCancelled
    let v0 := (x0.ax a).eng
    match engPass1 (x0.engEnv K a) v0 with
    | .error b => x0.engRange K a b
    | .ok o =>
      let y := x0.modAx a (fun v => { v with
        eng := o.eng
        port := { v.port with computed := some (outDuty (K.pwmSine a.val) o.eng) } })
      let y1 := if o.wrapped then y.event K (0xA8 + a.val) (objAxis a.val) 1 (y.axDetail K a) else y
      let y2 := match o.handOver with
        | some ok =>
          (y1.modAx a (fun v => { v with eng := { v.eng with autoReq := [] } })).over v0.autoReq
            (fun h z => z.complete h (if ok then stOK else stPresetRange))
        | none => y1
      (y2.supervise K a).cyclePeaks K a
/-- A miss of axis `a` (R197): COMPUTE_LATE, the miss count and what the period keeps; a leaf's period has no force estimate, so what it
confirmed is gone, and ENG_RANGE comes beside it where the late time update leaves the range. (DEDUCED: log entry 96; DESIGN CHOICE: log entry 185) -/
def Dev.computeLate (K : Memory) (a : AxisId) (finished : Bool) (x : Dev) : Dev :=
  let r := refVec (x.engEnv K a)
  let x := match K.owner a with
    | some (d, i) => x.modDw d (fun w => { w with
        detect := w.detect.filter (fun t => !(decide (i < 2) && t.leaf2 == (i == 1))) })
    | none => x
  let e := engMiss finished r (x.ax a).eng
  let y := x.modAx a (fun v => { v with eng := e.1, port := { v.port with computed := none } })
  let n := e.1.missCnt
  let z := if n < max 1 (K.lateLimit a.val) then y.fault K 0x0203 (objAxis a.val) 2 (leBytes 1 n) true
    else y.modAx a (fun v => { v with eng := { v.eng with overDue := true } })
  z.when e.2 (fun u => u.engFault K a 0x0205 1 (leBytes 1 1))
/-- The overrun reaction, once the miss count has reached LATE_LIMIT (R198). -/
def Dev.overrun (K : Memory) (a : AxisId) (x : Dev) : Dev :=
  let e := (x.ax a).eng
  if !e.overDue then x
  else
    (x.modAx a (fun v => { v with
      eng := { v.eng with lateLatched := true, overDue := false }, port := { v.port with lateWait := 2 } })).fault K 0x0203 (objAxis a.val)
      (if K.lateShorted a.val then 4 else 5) (leBytes 1 e.missCnt) true
/-- Phase duties of a stepper (R161), each product rounded to 2^−32. -/
def Dev.stepper (K : Memory) (a : AxisId) (x : Dev) : Dev :=
  let th := unsx 42 ((x.ax a).gen.x * 2 ^ (8 - K.mstepRes a.val))
  let amp : Int := if x.axMoving K a then K.stepAmpRun a.val else K.stepAmpHold a.val
  let duty := fun (c : Near) => (⟨9223372036854775808 + ((c.scale (amp * fx)).over 8190).round * fx, 0⟩ : Near)
  x.modAx a (fun v => { v with port := { v.port with
    computed := some ⟨duty (cosTurn 42 th), duty (sinTurn 42 th), ⟨9223372036854775808, 0⟩⟩ } })
/-- Channels whose bitstream is lost now (R235). -/
def sdLostNow (p : Port) : BitVec 3 :=
  (List.finRange 3).foldl (fun (m : BitVec 3) i => if (p.sd.get i).lost then m ||| (1 <<< i.val) else m) 0
/-- Latest valid output of a current channel, or the sample held where the running period gave none (R234, R235). -/
def Memory.latchCur (K : Memory) (a : AxisId) (p : Port) (i : Fin 3) (old : Int) : Int :=
  if K.sdEn a.val i.val && !p.sdLoss.getLsbD i.val then (p.sd.get i).out else old
/-- What a boundary of axis `a` does before step 3: the output computed in the period before is written (R22), loaded at once
where the boundary is a valley (R226), the measurements and the electrical angle are latched (R177), and what became due in that
period takes place. -/
def Dev.axisLatch (K : Memory) (a : AxisId) (x : Dev) : Dev :=
  let x0 := x.overrun K a
  let pos := x0.axPos K a
  let x1 := x0.modAx a (fun v => { v with
    posB := pos, rawB := v.port.raw
    port := { v.port with
      staged := match v.port.computed with
        | some d => some d
        | none => v.port.staged
      computed := none, lateWait := v.port.lateWait - 1
      cur := ⟨K.latchCur a v.port 0 v.port.cur.iu, K.latchCur a v.port 1 v.port.cur.iv, K.latchCur a v.port 2 v.port.cur.iw⟩ } })
  let x2 := if x1.isSealed && K.carSync a && decide (x1.frameB % (10 * K.carN a.val) = 0) then x1.valley K a x1.time.cyc else x1
  ((x2.followErr K a).feedbackPeriod K a).modAx a (fun v =>
    { v with
      eng := { v.eng with save := none, predSave := none, theta := x1.thetaOf K a }
      port := { v.port with sdLoss := sdLostNow v.port } })

end Sys2Proof.Machine
end

