-- ==== Sys2Proof/Machine/AxisActs.lean ====
section
/-! DEFINITION. The effects of the axis motion and control engine actions (R125 to R143, R153 to R157, R189 to R219, R301 to
R310), each judged in the order of its rule. -/

namespace Sys2Proof.Machine

/-- A position lies in the 48-bit signed range (R127). -/
def in48 (p : Int) : Bool := decide (-(2 ^ 47) ≤ p ∧ p < 2 ^ 47)
/-- Checks 1 to 5 of R303: the status of the first that fails. `moves` is set for MOVE and MOVE_NOW, `refs` for the
referencing actions, `manual` for the actions manual mode refuses. -/
def Dev.motionRefused (K : Memory) (x : Dev) (a : AxisId) (moves refs manual : Bool) : Bool :=
  !x.isSealed || (!refs && x.reserved K a) || x.loopOpen K a || (manual && decide ((x.ax a).eng.mode ≠ .auto)) ||
  (moves && x.following K a)
/-- MOVE (R126, R127, R303). (DESIGN CHOICE: log entry 178) -/
def Dev.effMove (K : Memory) (h : Hdr) (a : AxisId) (pos : Int) (rel : Bool) (set : Fin 4) (x : Dev) : Dev :=
  let g := (x.ax a).gen
  let target := if rel then g.lastTarget + pos else pos
  if x.motionRefused K a true false true then x.complete h stState
  else if x.gateShutFor K a && K.openingMove a (g.lastTarget * fx) (target * fx) then x.complete h stGate
  else if !in48 target then x.complete h stBadOperand
  else if 8 ≤ g.len then
    (x.modAx a (fun v => { v with gen := { v.gen with queueOvf := true } })).complete h stState
  else x.modAx a (fun v => { v with gen := genAppend { target := target, set := set, hdr := some h } v.gen })
/-- MOVE_NOW (R125, R127, R129, R137, R303). (DEDUCED: log entry 154) -/
def Dev.effMoveNow (K : Memory) (h : Hdr) (a : AxisId) (pos : Int) (rel : Bool) (set : Fin 4) (x : Dev) : Dev :=
  let g := (x.ax a).gen
  let target := if rel then wholeCount g.x + pos else pos
  if x.motionRefused K a true false true then x.complete h stState
  else if x.gateShutFor K a && K.openingMove a g.x (target * fx) then x.complete h stGate
  else if !in48 target then x.complete h stBadOperand
  else x.onGen K a (genMoveNow (x.genEnv K a) { target := target, set := set, hdr := some h })
/-- STOP (R132, R167, R214, R303). -/
def Dev.effStop (K : Memory) (h : Hdr) (a : AxisId) (x : Dev) : Dev :=
  if x.motionRefused K a false false false then x.complete h stState
  else
    let y := (x.endManual K a).rampStop K a
    if (y.ax a).gen.moving then y.modAx a (fun v => { v with gen := { v.gen with stops := v.gen.stops ++ [h] } })
    else y.complete h stOK
/-- V_RIDGE times the period stays below one full step of a stepper (R162). -/
def Memory.stepperOk (K : Memory) (a : Nat) (vRidge : Nat) : Bool :=
  decide (K.axKind a ≠ 2) || decide (vRidge * K.period a < 2 ^ K.mstepRes a * 1000000000)
/-- PROFILE_CHANGE (R116, R135, R162, R303). (DEDUCED: log entry 42) -/
def Dev.effProfile (K : Memory) (h : Hdr) (a : AxisId) (set : Fin 4) (mask : BitVec 11) (vals : List Word) (x : Dev) : Dev :=
  if x.motionRefused K a false false false then x.complete h stState
  else
    match genChange (x.genEnv K a) (fun s => K.stepperOk a.val s.vRidge) set mask vals (x.ax a).gen with
    | some g => (x.modAx a (fun v => { v with gen := g })).complete h stOK
    | none => x.complete h stBadOperand
/-- COMPARE_SET (R140, R163, R303). `frame` is set for an action of the running frame, whose test waits for the set-point of
this period. -/
def Dev.effCompareSet (K : Memory) (frame : Bool) (h : Hdr) (a : AxisId) (c : Int) (neg measured passed : Bool) (x : Dev) : Dev :=
  if x.motionRefused K a false false false then x.complete h stState
  else if measured && decide (K.axKind a.val = 2) then x.complete h stBadOperand
  else
    let y := x.modAx a (fun v => { v with cmp := { v.cmp with
      armed := true, pos := c, neg := neg, measured := measured, behind := false, fire := passed, isNew := true } })
    (if frame then y else y.cmpTest K a).complete h stOK
/-- COMPARE_OFF (R140, R303). -/
def Dev.effCompareOff (K : Memory) (h : Hdr) (a : AxisId) (x : Dev) : Dev :=
  if x.motionRefused K a false false false then x.complete h stState
  else
    (x.modAx a (fun v => { v with cmp := { v.cmp with armed := false, behind := false, fire := false, isNew := false } })).complete
      h stOK
/-- The doorway of the axis is in LOCKED_CLOSED, ISOLATED or SEQ_FAULT, or there is none (R157). -/
def Dev.refRest (K : Memory) (x : Dev) (a : AxisId) : Bool :=
  match x.ownerState K a with
  | some st => decide (st = .lockedClosed ∨ st = .isolated ∨ st = .seqFault)
  | none => true
/-- REF_ARM (R153, R157, R303). -/
def Dev.effRefArm (K : Memory) (h : Hdr) (a : AxisId) (o : RefArmOps) (x : Dev) : Dev :=
  if x.motionRefused K a false true true then x.complete h stState
  else if o.stop && x.reserved K a then x.complete h stState
  else if decide (o.src = .index) && (decide (K.axKind a.val = 2) || decide (K.fbMode a.val ≠ 1)) then x.complete h stBadOperand
  else (x.modAx a (fun v => { v with refArm := some o, refLatch := none })).complete h stOK
/-- REF_OFF (R153, R157, R303). -/
def Dev.effRefOff (K : Memory) (h : Hdr) (a : AxisId) (x : Dev) : Dev :=
  if x.motionRefused K a false true false then x.complete h stState
  else (x.modAx a (fun v => { v with refArm := none, refLatch := none })).complete h stOK
/-- REF_SET (R155 to R157, R303). `frame` is set for an action of the running frame, whose look-ahead comes with its period; without
it the look-ahead is taken from the shifted set-point at once (R155). -/
def Dev.effRefSet (K : Memory) (frame : Bool) (h : Hdr) (a : AxisId) (pos : Int) (x : Dev) : Dev :=
  if x.motionRefused K a false true true then x.complete h stState
  else if !(x.ax a).still || !x.refRest K a then x.complete h stState
  else
    let y := x.refShift K a pos (x.axPos K a)
    (if frame then y else y.lookAhead K a).complete h stOK

/-! ### Control engine family -/

/-- LOOP_OPEN (R189, R190). The boundary at which it takes effect is the one from which the axis is not computed and shows OFF and
TRACK; LOOP_CLOSE resumes computing at its boundary likewise. (DESIGN CHOICE: log entry 167) -/
def Dev.effLoopOpen (K : Memory) (h : Hdr) (a : AxisId) (x : Dev) : Dev :=
  if K.axKind a.val ≠ 1 then x.complete h stBadOperand
  else if !(x.ax a).eng.loopClosed then x.complete h stOK
  else if !x.isSealed || !(x.ax a).still || x.reserved K a then x.complete h stState
  else
    let y := x.modAx a (fun v => { v with eng := { v.eng with loopClosed := false } })
    ((((y.endManual K a).endInj a 4 stCancelled).applyHold K a).gateNow K a).complete h stOK
/-- The faults of the engine that a closed loop ends, once every block they named has been reloaded (R200). -/
def Dev.endEngFaults (K : Memory) (a : AxisId) (x : Dev) : Dev :=
  if (x.ax a).eng.badBlocks = 0 then (x.endFault K 0x0205 (objAxis a.val)).endFault K 0x0206 (objAxis a.val) else x
/-- LOOP_CLOSE (R189, R192, R196). (DESIGN CHOICE: log entry 167) -/
def Dev.effLoopClose (K : Memory) (h : Hdr) (a : AxisId) (x : Dev) : Dev :=
  if K.axKind a.val ≠ 1 then x.complete h stBadOperand
  else if (x.ax a).eng.loopClosed then x.complete h stOK
  else
    let y := x.admitAll K (some a)
    if !(x.ax a).eng.progValid || decide (y.eng.admReason ≠ 0) then y.complete h stState
    else ((y.modAx a (fun v => { v with eng := { v.eng with loopClosed := true } })).endEngFaults K a).complete h stOK

/-- Word `i` of a buffer of little-endian 32-bit words. -/
def wordAt (l : List Byte) (i : Nat) : Nat := leNat (slice l (4 * i) 4)
/-- The block a buffer holds in the form of R180. -/
def blockOf (l : List Byte) : Nat × Block :=
  let w := wordAt l 0
  let rows := w / 2 ^ 16 % 256
  let cols := w / 2 ^ 8 % 256
  let id := w / 2 ^ 24
  (id, { rows := rows, cols := cols, exp := sext 8 w
         m := (List.range (rows * cols)).map (fun i =>
           if id = 0 then (wordAt l (i + 1) : Int) else sext 24 (wordAt l (i + 1))) })
/-- Step 5 of R191. -/
def blockAllowed (e : Eng) (l : List Byte) (id : Nat) (b : Block) : Bool :=
  decide (id < 14) &&
  (if id = 0 then
    let w1 := wordAt l 1
    decide (w1 / 2 ^ 20 % 16 = 0 ∧ w1 / 2 ^ 11 % 2 = 0 ∧ w1 / 2 ^ 6 % 4 = 0 ∧ wordAt l 2 / 2 ^ 16 = 0 ∧ wordAt l 0 % 256 = 0)
   else
    (List.range (b.rows * b.cols)).all (fun i =>
      let w := wordAt l (i + 1)
      w / 2 ^ 24 == (if w.testBit 23 then 255 else 0)) && (e.block 0).isSome) &&
  decide (blockDims (if id = 0 then {n := 0, m := 0, q := 0, pos := 0, notches := 0, force := false, three := false, zi := 0, sel := []}
    else e.shape) id = some (b.rows, b.cols))
/-- A block of the program replaced. -/
def Eng.setBlock (e : Eng) (i : Nat) (b : Block) : Eng :=
  if h : i < 14 then
    { e with
      prog := (if i = 0 then (Vector.replicate 14 none).set 0 (some b) (by decide) else e.prog.set i (some b) h)
      badBlocks := e.badBlocks &&& ~~~((1 : BitVec 14) <<< i) }
  else e
/-- COEF_LOAD of a block (R191). (DEDUCED: log entry 45) -/
def Dev.effCoefLoad (K : Memory) (h : Hdr) (a : AxisId) (len : Nat) (data : List Byte) (x : Dev) : Dev :=
  let e := (x.ax a).eng
  let b := blockOf data
  if e.loopClosed then x.complete h stLoopClosed
  else if K.axKind a.val ≠ 1 then x.complete h stBadOperand
  else if len ≠ (b.2.rows * b.2.cols + 2) * 4 then x.complete h stBadOperand
  else if crc16 (slice data 0 (len - 4)) ≠ leNat (slice data (len - 4) 2) then x.complete h stBadCrc
  else if !blockAllowed e data b.1 b.2 then x.complete h stBadOperand
  else (x.modAx a (fun v => { v with eng := v.eng.setBlock b.1 b.2 })).complete h stOK
/-- The form of R180 of a block as held. -/
def blockBytes (id : Nat) (b : Block) : List Byte :=
  let words := leBytes 4 (id * 2 ^ 24 + b.rows * 2 ^ 16 + b.cols * 2 ^ 8 + unsx 8 b.exp) ++
    b.m.flatMap (fun v => leBytes 4 (unsx 32 v))
  words ++ leBytes 2 (crc16 words) ++ [0, 0]
/-- COEF_READ of a block (R310). -/
def Dev.effCoefRead (h : Hdr) (a : AxisId) (sel len : Nat) (buf : Buf) (x : Dev) : Dev :=
  match (x.ax a).eng.block sel with
  | none => x.complete h stState
  | some b =>
    if len < (b.rows * b.cols + 2) * 4 then x.complete h stBadOperand
    else (x.postBuf buf 0 (blockBytes sel b)).complete h stOK
/-- R201 on axis `a`: the status that refuses a maintenance action; `comp` says that the engine computes the axis in the period in
which it takes effect. -/
def Dev.maintRefused (K : Memory) (x : Dev) (a : AxisId) (comp : Bool) : Option Nat :=
  if K.axKind a.val ≠ 1 then some stBadOperand
  else if !x.mayWork K a comp || !K.testEn a.val then some stState
  else if x.gateShutFor K a then some stGate
  else none
/-- MODE_SWITCH to a manual mode (R201, R211 to R213, R310). -/
def Dev.effManual (K : Memory) (comp : Bool) (h : Hdr) (a : AxisId) (force : Bool) (c0 c1 : Int) (x : Dev) : Dev :=
  match x.maintRefused K a comp with
  | some st => x.complete h st
  | none =>
    let was := decide ((x.ax a).eng.mode ≠ .auto)
    let y := x.modAx a (fun v => { v with
      still := false, coil := none
      eng := { v.eng with
        mode := if force then .manualF else .manualV
        man0 := c0, man1 := c1, manAt := x.time.cyc, manNew := if was then v.eng.manNew else true } })
    (y.applyHold K a).complete h stOK
/-- MODE_SWITCH to AUTO (R190, R215): decided in the period in which the hand-over takes effect. -/
def Dev.effAuto (K : Memory) (h : Hdr) (a : AxisId) (x : Dev) : Dev :=
  if x.loopOpen K a then x.complete h stState
  else if (x.ax a).eng.mode = .auto then x.complete h stOK
  else
    x.modAx a (fun v => { v with eng := { v.eng with autoReq := v.eng.autoReq ++ [h] } })
/-- MAN_SET (R213, R310). -/
def Dev.effManSet (h : Hdr) (a : AxisId) (force : Bool) (c0 c1 : Int) (x : Dev) : Dev :=
  if (x.ax a).eng.mode ≠ (if force then EngMode.manualF else .manualV) then x.complete h stState
  else
    (x.modAx a (fun v => { v with eng := { v.eng with man0 := c0, man1 := c1, manAt := x.time.cyc } })).complete h stOK
/-- INJECT (R201, R204, R206, R212, R310). -/
def Dev.effInject (K : Memory) (comp : Bool) (h : Hdr) (a : AxisId) (o : InjectOps) (x : Dev) : Dev :=
  let e := (x.ax a).eng
  match x.maintRefused K a comp with
  | some st => x.complete h st
  | none =>
    if decide (o.point = .ref) && decide (e.mode ≠ .auto) then x.complete h stState
    else if (o.point = .out ∧ e.shape.m ≤ o.row) ∨ (o.point = .meas ∧ e.shape.q ≤ o.row) then x.complete h stBadOperand
    else
      (x.endInj a 2 stCancelled).modAx a (fun v => { v with eng := { v.eng with
        inj := some (injStart o h), injPoint := InjPoint_code o.point, injForm := InjForm_code o.form, injEnd := 0
        injCount := 0 } })
/-- INJECT_STOP (R206, R310). -/
def Dev.effInjectStop (h : Hdr) (a : AxisId) (x : Dev) : Dev :=
  (x.modAx a (fun v => { v with eng := { v.eng with inj := v.eng.inj.map (fun j => { j with stop := true }) } })).complete
    h stOK

end Sys2Proof.Machine
end

