-- ==== Sys2Proof/Machine/Doors.lean ====
section
/-! DEFINITION. Doorways (R59 to R114): the release gate, force envelopes, obstacle detection and its reactions, and the
transitions of the sequencers with what each one starts. -/

namespace Sys2Proof.Machine

/-! ### Roles and what a sequencer reads -/

/-- Milliseconds as control frames (R62). -/
def msFrames (n : Nat) : Nat := 40 * n
/-- An input role of a doorway is asserted (R59). Roles are numbered as R491 lists them. -/
def Dev.role (K : Memory) (x : Dev) (d : DoorId) (i : Nat) : Bool :=
  x.asserted (K.doorIn d.val i) (K.roleInLow d.val i)
/-- An input role reports UNKNOWN. -/
def Dev.roleUnknown (K : Memory) (x : Dev) (d : DoorId) (i : Nat) : Bool := x.unknownIn (K.doorIn d.val i)
/-- CLOSED_IN and LOCKED_IN are asserted. -/
def Dev.closedLocked (K : Memory) (x : Dev) (d : DoorId) : Bool := x.role K d 7 && x.role K d 8
/-- EDGE_IN or OBST_IN is asserted (R106). -/
def Dev.blocked (K : Memory) (x : Dev) (d : DoorId) : Bool := x.role K d 3 || x.role K d 4
/-- An axis has no current move, none waiting or ordered, and no ramp. -/
def Dev.axIdle (x : Dev) (a : AxisId) : Bool :=
  !(x.ax a).gen.moving && (x.ax a).gen.queue.isEmpty && (x.ax a).orders.isEmpty
/-- "Leaf moves done" of R63. -/
def Dev.leavesDone (K : Memory) (x : Dev) (d : DoorId) : Bool := (K.leaves d.val).all (fun l => x.axIdle l.2)
/-- The move of a step or lock axis is done. -/
def Dev.roleDone (K : Memory) (x : Dev) (d : DoorId) (i : Nat) : Bool :=
  match K.doorAx d.val i with
  | some a => x.axIdle a
  | none => true
/-- The step is at home (R63). -/
def Dev.stepHome (K : Memory) (x : Dev) (d : DoorId) : Bool :=
  (K.doorAx d.val 2).isNone || (x.role K d 10 && x.roleDone K d 2)
/-- Count direction of OPEN_DIR. -/
def Memory.openSign (K : Memory) (d i : Nat) : Int := if K.openNeg d i then -1 else 1
/-- A time of `n` frames that started at frame `t` has run out (R62). -/
def Dev.ranOut (x : Dev) (t n : Nat) : Bool := decide (t + n ≤ x.time.frames)
/-- Closing states. -/
def DwState.isClosing (s : DwState) : Bool :=
  match s with
  | .closing | .finalClose => true
  | _ => false
/-- Rest states of R61. -/
def DwState.rest (s : DwState) : Bool :=
  match s with
  | .lockedClosed | .isolated | .seqFault | .disabled => true
  | _ => false

/-! ### Moves a sequencer issues -/

/-- A move a sequencer issues: it acts as a MOVE_NOW at the axis's next period (R62, R129). -/
def Dev.seqMove (a : AxisId) (target : Int) (set : Fin 4) (x : Dev) : Dev := x.order a (.move target set)
/-- The armed direction a doorway's state gives, where it arms the leaves (R99). -/
def Door.arms (w : Door) : Option Bool := if w.st.armed then some w.armOpen else none
/-- A stop a sequencer issues. Issued in or on leaving a state that arms the leaves in direction `arm` it keeps the leaf armed so
until its ramp ends; a ramp that runs already and has nothing after it stays the one that issued it (R99). -/
def Dev.seqStop (arm : Option Bool) (a : AxisId) (x : Dev) : Dev :=
  x.modAx a (fun v => { v with
    orders := v.orders ++ [.stop]
    trail := v.trail || arm.isSome
    trailOpen := if v.trail ∧ v.orders.isEmpty = true ∧ v.gen.queue.isEmpty = true then v.trailOpen else arm.getD v.trailOpen })
/-- A move of the step or lock axis, with profile set 3 (R65). -/
def Dev.roleMove (K : Memory) (d : DoorId) (i : Nat) (target : Int) (x : Dev) : Dev :=
  match K.doorAx d.val i with
  | some a => x.seqMove a target 3
  | none => x
/-- A move of one leaf in an armed state; its start allowance runs from its first set-point (R97). -/
def Dev.leafMove (a : AxisId) (target : Int) (set : Fin 4) (x : Dev) : Dev :=
  (x.modAx a (fun v => { v with eng := { v.eng with startPend := true, startAt := none } })).seqMove a target set
/-- Moves of every leaf to OPEN_POS (`closing` false) or CLOSED_POS. -/
def Dev.leafMoves (K : Memory) (d : DoorId) (closing : Bool) (set : Fin 4) (x : Dev) : Dev :=
  x.over (K.leaves d.val) (fun l y => y.leafMove l.2 (K.dwPos d.val (2 * l.1 + if closing then 1 else 0)) set)
/-- Target of a move that is ordered. -/
def GenOrd.target? (o : GenOrd) : Option Int :=
  match o with
  | .move t _ => some t
  | _ => none
/-- The axis moves in its opening direction, or will once it rests: a current move in the closing direction goes on (R73, R74). -/
def Dev.openingNow (K : Memory) (x : Dev) (d : DoorId) (l : Nat × AxisId) : Bool :=
  let v := x.ax l.2
  let g := v.gen
  let o := K.openSign d.val l.1
  let next := g.queue.map Move.target ++ v.orders.filterMap GenOrd.target?
  (decide (0 < g.v) && decide (g.dir = o)) ||
  ((decide (g.v = 0) || g.ramp.isSome || !v.orders.isEmpty) && next.any (fun t => decide (0 < o * (t * fx - g.x))))
/-- Every axis of the doorway that moves in its opening direction stops along its stop ramp (R74). -/
def Dev.stopOpening (K : Memory) (d : DoorId) (x : Dev) : Dev :=
  x.over (K.doorAxes d.val) (fun l y => if y.openingNow K d l then y.seqStop (x.dw d).arms l.2 else y)
/-- UNLOCK_OUT is commanded. -/
def Dev.setUnlock (d : DoorId) (b : Bool) (x : Dev) : Dev :=
  x.modDw d (fun w => if w.unlockOut = b then w else { w with unlockOut := b, unlockT := x.time.frames })

/-! ### The release gate (R70 to R75) -/

/-- A channel of a pair is asserting at the given active level; an UNKNOWN channel is not (R70). -/
def SafeIn.asserting (s : SafeIn) (high : Bool) : Bool := !s.pin.unknown && !s.diag && (s.pin.lvl == high)
/-- One evaluation of a safety pair (R71) with its channels and DISC_TIME in µs: the pair after it, and whether
PAIR_DISCREPANCY is raised. (DEDUCED: log entry 32) -/
def Pair.eval (p : Pair) (a b : Bool) (disc : Nat) : Pair × Bool :=
  if p.fault then ({ p with active := false, fault := a || b }, false)
  else if a = b then ({ p with timer := 0, active := a }, false)
  else
    let t := p.timer + 25
    ({ timer := t, active := false, fault := decide (disc ≤ t) }, decide (disc ≤ t))
/-- Channels A and B of pair `p`. (DEDUCED: log entry 149) -/
def Dev.pairIn (K : Memory) (x : Dev) (p : Fin 4) : Bool × Bool :=
  ((x.sin ⟨2 * p.val, by omega⟩).asserting true, (x.sin ⟨2 * p.val + 1, by omega⟩).asserting (!K.pairAnti p.val))
def Dev.modPair (p : Fin 4) (f : Pair → Pair) (x : Dev) : Dev :=
  { x with gate := { x.gate with pairs := x.gate.pairs.set p.val (f (x.gate.pairs.get p)) p.isLt } }
/-- Pair `p` is evaluated in a frame; the second zero-speed pair takes no part while ZS2_EN is 0 (R70, R71). (DEDUCED: log entries 33, 150) -/
def Dev.pairFrame (K : Memory) (p : Fin 4) (x : Dev) : Dev :=
  if p = 3 ∧ K.zs2En = false then x.modPair p (fun q => { q with timer := 0, active := false })
  else
    let c := x.pairIn K p
    let r := (x.gate.pairs.get p).eval c.1 c.2 (1000 * K.discTime p.val)
    let y := x.modPair p (fun _ => r.1)
    if r.2 then y.faultSet K 0x0100 objDevice (leBytes 1 p.val) else y
/-- gate(d) of R72. -/
def Dev.gateWanted (K : Memory) (x : Dev) (d : DoorId) : Bool :=
  let act := fun (p : Fin 4) => (x.gate.pairs.get p).active
  act (if K.dwSide d.val then 1 else 0) && act 2 && (act 3 || !K.zs2En) && !(x.role K d 6 || x.roleUnknown K d 6)
/-- An opening action of R73 is under way: a state it led to, a motion in the opening direction, or manual mode on an axis (R74). (DEDUCED: log entry 151) -/
def Dev.openingAction (K : Memory) (x : Dev) (d : DoorId) : Bool :=
  (match (x.dw d).st with
   | .unlocking | .stepOut | .opening | .reopening => true
   | _ => false) ||
  (K.doorAxes d.val).any (fun l => x.openingNow K d l || decide ((x.ax l.2).eng.mode ≠ .auto))
/-- The gate opens or shuts for a doorway (R65, R66); where it shuts with an opening action under way, R74. (DEDUCED: log entry 151) -/
def Dev.gateFrame (K : Memory) (d : DoorId) (x : Dev) : Dev :=
  let g := x.gateWanted K d && K.dwEn d.val
  if g = (x.dw d).gate then x
  else if g then x.modDw d (fun w => { w with gate := true, btn := w.btn || K.btnAuto d.val })
  else
    let y := (x.modDw d (fun w => { w with gate := false, btn := false })).when (x.openingAction K d) (Dev.setUnlock d false)
    ((y.over (K.doorAxes d.val) (fun l z => z.endManual K l.2)).stopOpening K d)

/-! ### Envelopes and exceedance (R91 to R105) -/

/-- Travel of a leaf position (R94). -/
def Memory.travel (K : Memory) (d i : Nat) (pos : Int) : Nat :=
  ((pos - K.dwPos d (2 * i + 1)) * K.openSign d i).toNat
/-- Envelope point index at a travel, saturated at 63 (R94). -/
def Memory.envIndex (K : Memory) (d u : Nat) : Nat := min 63 (u / 2 ^ K.envShift d)
/-- Envelope value at a travel, in half newtons (R94). -/
def Memory.envAt (K : Memory) (d : Nat) (tab : List Nat) (u : Nat) : Int :=
  let k := u / 2 ^ K.envShift d
  if 63 ≤ k then tab.getD 63 0
  else
    let p : Int := tab.getD k 0
    let q : Int := tab.getD (k + 1) 0
    p + (q - p) * (u % 2 ^ K.envShift d : Nat) / 2 ^ K.envShift d
/-- The start allowance applies to the leaf axis (R97). (DEDUCED: log entry 35) -/
def Dev.allowance (K : Memory) (x : Dev) (d : DoorId) (a : AxisId) : Bool :=
  match (x.ax a).eng.startAt with
  | some n => decide (n * K.period a.val < K.tStart d.val * 1000000)
  | none => false
/-- E of a leaf at a position, in its armed direction (R94, R97, R99). -/
def Dev.envelope (K : Memory) (x : Dev) (d : DoorId) (l : Nat × AxisId) (pos : Int) : Int :=
  let w := x.dw d
  let e := K.envAt d.val (if x.armDir d l.2 then w.envOpen else w.envClose) (K.travel d.val l.1 pos)
  if x.allowance K d l.2 then max e (K.startCeil d.val) else e
/-- Resisting force of a force estimate on a leaf (R92). -/
def Dev.resisting (K : Memory) (x : Dev) (d : DoorId) (l : Nat × AxisId) (force : Int) : Int :=
  -((if x.armDir d l.2 then K.openSign d.val l.1 else -K.openSign d.val l.1) * force)
/-- A leaf axis is armed (R99): in an armed state, and on a stop ramp the sequencer issued on leaving one. -/
def Dev.leafArmed (x : Dev) (d : DoorId) (a : AxisId) : Bool :=
  (x.dw d).st.armed || (x.ax a).trail
/-- Positions of both leaves latched at their latest period boundary. -/
def Dev.leafPos (K : Memory) (x : Dev) (d : DoorId) (i : Nat) : Int :=
  match K.doorAx d.val i with
  | some a => (x.ax a).posB
  | none => 0
/-- The earlier of two detections in the order of R112. -/
def Detection.first (a b : Detection) : Detection :=
  if (if a.leaf2 then 8 else 0) + a.cause.code ≤ (if b.leaf2 then 8 else 0) + b.cause.code then a else b
/-- A detection waits for the sequencer, beside one of the other leaf (R100, R112). -/
def Door.addDetect (t : Detection) (w : Door) : Door := { w with detect := w.detect ++ [t] }
/-- The first of several detections in the order of R112. -/
def firstOf : List Detection → Option Detection
  | [] => none
  | a :: l => some (l.foldl Detection.first a)
/-- Measured exceedance of a leaf axis in the period whose pass 1 has just run: a period that computes nothing is one without
exceedance, and one whose output comes late leaves the count as it was (R100, R197). -/
def Dev.exceed (K : Memory) (d : DoorId) (l : Nat × AxisId) (x : Dev) : Dev :=
  let v := x.ax l.2
  if !x.leafArmed d l.2 || !K.forceDetEn d.val || (x.dw d).disarmed then x
  else if !v.eng.computed then x.modAx l.2 (fun v => { v with eng := { v.eng with runCnt := 0 } })
  else
    let r := x.resisting K d l v.eng.force
    let e := x.envelope K d l v.posB
    if r ≤ e then x.modAx l.2 (fun v => { v with eng := { v.eng with runCnt := 0 } })
    else
      let y := x.modAx l.2 (fun v => { v with eng := { v.eng with runCnt := v.eng.runCnt + 1 } })
      if v.eng.runCnt + 1 = 2 then
        y.modDw d (Door.addDetect
          { leaf2 := decide (l.1 = 1), cause := .force, r := r, e := e
            k := K.envIndex d.val (K.travel d.val l.1 v.posB), p1 := y.leafPos K d 0, p2 := y.leafPos K d 1 })
      else y
/-- A live prediction is withdrawn (R103). -/
def Dev.dropPred (d : DoorId) (x : Dev) : Dev := x.modDw d (fun w => { w with predLive := false })
/-- The prediction is withdrawn once PRED_HOLD periods of every leaf that predicts have passed without predicted exceedance on
any leaf (R103). -/
def Dev.predWithdraw (K : Memory) (d : DoorId) (x : Dev) : Dev :=
  if (x.dw d).predLive ∧ (K.leaves d.val).all (fun l =>
      decide (K.axKind l.2.val ≠ 1 ∨ K.predHold d.val ≤ (x.ax l.2).eng.predQuiet)) = true then x.dropPred d else x
/-- A period of a leaf in which the engine predicts nothing, its axis not being computed, counts as one without predicted exceedance
(R103). Once no leaf of the doorway is armed any more the move that the prediction came from is over, and the prediction is
discarded (R28, R99). (DEDUCED: log entry 36) -/
def Dev.predIdle (K : Memory) (d : DoorId) (a : AxisId) (x : Dev) : Dev :=
  if !(x.dw d).predLive then x
  else if (K.leaves d.val).any (fun l => x.leafArmed d l.2) then
    (x.modAx a (fun v => { v with eng := { v.eng with predQuiet := v.eng.predQuiet + 1 } })).predWithdraw K d
  else x.discardPred K d
/-- The quiet periods of every leaf of a doorway start afresh (R103). -/
def Dev.unquiet (K : Memory) (d : DoorId) (x : Dev) : Dev :=
  x.over (K.leaves d.val) (fun l y => y.modAx l.2 (fun v => { v with eng := { v.eng with predQuiet := 0 } }))
/-- Pass 2 of a leaf axis has run: look-ahead force and envelope, and a predicted exceedance, which a reaction in force discards
(R28, R102, R103, R105). (DEDUCED: log entries 35, 36) -/
def Dev.predict (K : Memory) (d : DoorId) (l : Nat × AxisId) (x : Dev) : Dev :=
  let v := x.ax l.2
  if !x.leafArmed d l.2 || !K.forceDetEn d.val || !K.predEn d.val then x
  else
    match v.eng.f8 with
    | none => x
    | some f =>
      let r := x.resisting K d l f
      let e := x.envelope K d l v.gen.laPos - K.predMargin d.val
      let y := x.modAx l.2 (fun v => { v with gen := { v.gen with laForce := r, laEnv := e } })
      if e < r then
        if (x.dw d).disarmed || decide (3 ≤ x.axisRank K l.2) then y
        else
          ((y.modAx l.2 (fun v => { v with eng := { v.eng with
            predSave := v.eng.predSave.map (fun s => { s with exceeded := true }) } })).unquiet K d).modDw d
            (fun w => { w with predLive := true })
      else (y.modAx l.2 (fun v => { v with eng := { v.eng with predQuiet := v.eng.predQuiet + 1 } })).predWithdraw K d
/-- The prediction of axis `a` in its latest period did not come about: the look-ahead registers keep their previous values
and the period does not count towards PRED_HOLD, but a prediction discarded since then stays discarded (R28, R197, R199). (DEDUCED: log entry 36) -/
def Dev.unPredict (K : Memory) (a : AxisId) (x : Dev) : Dev :=
  match (x.ax a).eng.predSave with
  | none => x
  | some s =>
    let y := x.modAx a (fun v => { v with
      gen := { v.gen with
        laPos := s.laPos, laSpeed := s.laSpeed, laSeg := s.laSeg, laForce := s.laForce, laEnv := s.laEnv, laLimit := s.laLimit }
      eng := { v.eng with f8 := none, predSave := none } })
    match K.owner a with
    | some (d, _) =>
      let other := (K.leaves d.val).any (fun l => match (y.ax l.2).eng.predSave with
        | some t => t.exceeded
        | none => false)
      if (y.dw d).disarmed || !y.leafArmed d a || decide (3 ≤ y.axisRank K a) then y
      else
        (y.modAx a (fun v => { v with eng := { v.eng with predQuiet := if other then 0 else s.quiet } })).modDw d
          (fun w => { w with predLive := s.live || other })
    | none => y
/-- Pass 2 has a prediction of the axis in its running period. -/
def Dev.predicts (x : Dev) (a : AxisId) : Bool := (x.ax a).eng.f8.isSome && (x.ax a).eng.predSave.isSome
/-- PRED_LATE: pass 2 of an axis has not ended in time (R199). -/
def Dev.predLate (K : Memory) (a : AxisId) (x : Dev) : Dev :=
  if x.predicts a then
    (x.unPredict K a).faultSet K 0x0204 (objAxis a.val) []
  else x

/-! ### Entry to a state (R63, R76, R78, R81, R89, R90, R108, R109) -/

/-- A transition a row of R63 makes. -/
structure Row where
  st : DwState
  /-- DW_CAUSE for SEQ_FAULT. -/
  cause : Nat := 0
  /-- "Reversal count +1". -/
  rev : Bool := false
  after : AfterStop := .none
deriving DecidableEq, Repr

/-- The record of a doorway kind (R423). -/
def Dev.doorRecord (d : DoorId) (kind cause : Nat) (x : Dev) : Dev :=
  x.record 0x0011 (objDoor d.val) (leBytes 1 kind ++ leBytes 1 cause ++ leBytes 1 (x.dw d).st.code) none
/-- The cycle summary of a doorway (R90). -/
def Dev.cycleEnd (d : DoorId) (x : Dev) : Dev :=
  let w := x.dw d
  (x.record 0x0010 (objDoor d.val)
    (leBytes 2 (min 65535 ((x.time.frames - w.cycStart) / 40)) ++ leBytes 2 (min 32767 (w.peakForce / 2)) ++
      leBytes 2 (min 65535 w.maxFe) ++ leBytes 1 (min 255 w.cycObst) ++ leBytes 1 (min 255 w.cycRev)) none).modDw d
    (fun w => { w with cycOn := false, creepExt := false })
/-- Cycle counters cleared at the start of a cycle (R89, R90). -/
def Dev.cycleStart (d : DoorId) (x : Dev) : Dev :=
  x.modDw d (fun w => { w with
    cycOn := true, cycStart := x.time.frames, peakForce := 0, maxFe := 0, cycObst := 0, cycRev := 0, obstRev := 0 })
/-- The step extends again on a reversal in PARALLEL mode (R76). -/
def Dev.stepAgain (K : Memory) (d : DoorId) (x : Dev) : Dev :=
  if K.stepAct d.val = 2 then x.roleMove K d 2 (K.dwPos d.val 4) else x
/-- The compare unit of leaf axis 1 is armed for the step retraction (R76, R141). -/
def Dev.armRetract (K : Memory) (d : DoorId) (x : Dev) : Dev :=
  match K.doorAx d.val 0 with
  | some a =>
    if K.stepAct d.val ≠ 2 then x
    else
      (x.modAx a (fun v => { v with cmp :=
        { v.cmp with
          armed := true, pos := K.dwPos d.val 8, neg := !K.openNeg d.val 0, measured := decide (K.axKind a.val = 1)
          behind := false, fire := true, isNew := true } })).modDw d (fun w => { w with retractArmed := true })
  | none => x
/-- Target the axis is on its way to, with what is ordered of it. -/
def Axis.goal (v : Axis) : Int := ((v.orders.filterMap GenOrd.target?).getLast?).getD v.gen.lastTarget
/-- Lock move to LOCK_POS, or UNLOCK_OUT off. -/
def Dev.lock (K : Memory) (d : DoorId) (x : Dev) : Dev :=
  if K.lockSol d.val then x.setUnlock d false else x.roleMove K d 3 (K.dwPos d.val 6)
/-- What the entry to a state starts (R63). (DEDUCED: log entries 23, 25) -/
def Dev.entryActs (K : Memory) (d : DoorId) (old : DwState) (r : Row) (x : Dev) : Dev :=
  match r.st with
  | .unlocking => if K.lockSol d.val then x.setUnlock d true else x.roleMove K d 3 (K.dwPos d.val 7)
  | .stepOut => x.roleMove K d 2 (K.dwPos d.val 4)
  | .opening => (x.leafMoves K d false (K.dwProf d.val 0)).stepAgain K d
  | .opened => if old = .opening ∨ old = .reopening then x.ledgerAdd d 0 1 else x
  | .closing =>
    ((x.leafMoves K d true (K.dwProf d.val 1)).armRetract K d).modDw d (fun w => { w with closeT := x.time.frames })
  | .stepIn =>
    match K.doorAx d.val 2 with
    | some a => if (x.ax a).goal = K.dwPos d.val 5 then x else x.roleMove K d 2 (K.dwPos d.val 5)
    | none => x
  | .locking => x.lock K d
  | .lockedClosed => if old = .locking then x.ledgerAdd d 1 1 else x
  | .reopening => x.stepAgain K d
  | .egress =>
    let y := (x.setUnlock d false).ledgerAdd d 4 1
    y.over (K.doorAxes d.val) (fun l z =>
      ((z.order l.2 .track).modAx l.2 (fun v => { v with coil := some .off, freeze := false })).gateNow K l.2)
  | .isolated => x.ledgerAdd d 5 1
  | .seqFault =>
    let y := (x.setUnlock d false).doorRecord d 1 r.cause
    let z := if r.cause = 0x02 ∨ r.cause = 0x03 ∨ r.cause = 0x04 then y.ledgerAdd d 6 1
      else if r.cause = 0x05 then y.ledgerAdd d 7 1 else y
    if r.cause = 0x0B then z.over (K.doorAxes d.val) (fun l u => u.seqStop (if old.armed then some (u.dw d).armOpen else none) l.2) else z
  | _ => x
/-- A doorway enters a state: state, cause, timers, cycle, ledger, the state's actions, its events and records. (DEDUCED: log entries 23, 28; DESIGN CHOICE: log entry 176) -/
def Dev.dwEnter (K : Memory) (d : DoorId) (r : Row) (x : Dev) : Dev :=
  let old := (x.dw d).st
  let now := x.time.frames
  let dirs := (K.leaves d.val).map (fun l => x.armDir d l.2)
  let x1 := if old = .egress then x.over (K.doorAxes d.val) (fun l y => y.modAx l.2 (fun v => { v with coil := none })) else x
  let x2 := x1.modDw d (fun w => { w with
    st := r.st, cause := if r.st = .seqFault then r.cause else w.cause
    timer := now, transF := some now, closedSwT := none
    after1 := r.after
    after2 := r.after
    disarmed := w.disarmed && !r.st.armed
    armOpen := if r.st.armed then !r.st.isClosing else w.armOpen
    detect := if r.st.armed then [] else w.detect
    retract := w.retract && decide (r.st = .finalClose), retractArmed := w.retractArmed && decide (r.st = .finalClose)
    isoClosed := true, isoLocked := true, isoEgress := false })
  let x3 := (x2.when (decide (r.st ≠ .finalClose)) (Dev.discardPred K d)).when
    (r.st.armed || decide (dirs ≠ (K.leaves d.val).map (fun l => x2.armDir d l.2)))
    (fun u => u.over (K.leaves d.val) (fun l y => y.modAx l.2 (fun v => { v with eng := { v.eng with runCnt := 0 } })))
  let x4 := if old.rest && !r.st.rest then x3.cycleStart d else x3
  let x5 := if r.rev then (x4.ledgerAdd d 2 1).modDw d (fun w => { w with cycRev := w.cycRev + 1 }) else x4
  let x6 := x5.entryActs K d old r
  let x7 := if r.st.rest && (x6.dw d).cycOn then x6.cycleEnd d else x6
  x7.event K (0x48 + d.val) (objDoor d.val) 1 0

/-! ### Obstacles (R106 to R113) -/

/-- The input detections of a frame, the first of R112 among them. -/
def Dev.inputDetect (K : Memory) (x : Dev) (d : DoorId) : Option Detection :=
  let w := x.dw d
  let closing := w.st.isClosing
  let t := fun (c : ObstCause) => some
    { leaf2 := false, cause := c, r := 0, e := 0
      k := K.envIndex d.val (K.travel d.val 0 (x.leafPos K d 0)), p1 := x.leafPos K d 0, p2 := x.leafPos K d 1 : Detection }
  if w.disarmed || !w.st.armed then none
  else if closing && x.role K d 3 then t .edge
  else if x.role K d 4 && (closing || K.obstOpen d.val) then t .external
  else if closing && x.roleUnknown K d 3 && !K.edgeIgnore d.val then t .edgeUnknown
  else none
/-- The detection a frame takes up. (DEDUCED: log entry 37) -/
def Dev.detection (K : Memory) (x : Dev) (d : DoorId) : Option Detection :=
  match (if (x.dw d).disarmed then none else firstOf (x.dw d).detect), x.inputDetect K d with
  | some a, some b => some (a.first b)
  | some a, none => some a
  | none, b => b
/-- Every leaf stops as OBST_STOP sets (R107). -/
def Dev.obstStop (K : Memory) (d : DoorId) (t : Detection) (x : Dev) : Dev :=
  x.over (K.leaves d.val) (fun l y =>
    if K.obstFreeze d.val then
      (y.order l.2 (.freeze (some (if l.1 = 0 then t.p1 else t.p2)))).modAx l.2 (fun v => { v with freeze := true })
    else y.seqStop (x.dw d).arms l.2)
/-- The row of R107 for a detection in a state with no row above it taken. -/
def Dev.obstRow (K : Memory) (x : Dev) (d : DoorId) (t : Detection) : Option Row :=
  let w := x.dw d
  let hold := if t.k < K.reactSplit d.val then K.reactFinalHold d.val else K.reactMainHold d.val
  match w.st with
  | .closing | .finalClose =>
    if !hold && w.gate && (decide (K.maxReopen d.val = 0) || decide (w.obstRev < K.maxReopen d.val)) then
      some { st := .reopening, rev := true, after := .reopen }
    else some { st := .obstacleHold, after := if K.reliefDist d.val = 0 then .none else .relief true }
  | .opening => some { st := .obstacleHold, after := if K.reliefDist d.val = 0 then .none else .relief false }
  | _ => none
/-- A confirmed detection takes effect: the stop, the disarming, count, record, event and OBST_STATUS (R101, R107, R110 to
R113). `free` is true while no higher row of R62 is taken. The row it leads to stands beside the state. (DEDUCED: log entries 37, 153) -/
def Dev.confirm (K : Memory) (d : DoorId) (t : Detection) (free : Bool) (x : Dev) : Dev × Option Row :=
  let w := x.dw d
  let row := if free then x.obstRow K d t else none
  let react := match row with
    | some r => if r.st = .reopening then 1 else 2
    | none => 3
  let leaf := ((K.doorAx d.val (if t.leaf2 then 1 else 0)).map Fin.val).getD 0
  let lim := fun v => clampI (-32768) 32767 v
  let x1 := ((x.obstStop K d t).discardPred K d).modDw d (fun w => { w with
    disarmed := true, detect := []
    creepExt := w.creepExt || (K.creepRetry d.val && w.st.isClosing)
    cycObst := w.cycObst + 1, obstRev := if react = 1 then w.obstRev + 1 else w.obstRev
    after1 := if w.st = .reopening then .none else w.after1, after2 := if w.st = .reopening then .none else w.after2
    obstLeaf := leaf, obstCause := t.cause.code, obstK := t.k, obstR := lim t.r, obstE := lim t.e
    obstReact := w.st.code * 16 + react })
  let x2 := (x1.ledgerAdd d 3 1).record 0x0012 (objDoor d.val)
    (leBytes 1 leaf ++ leBytes 1 t.cause.code ++ leBytes 2 (unsx 16 (lim t.r)) ++ leBytes 2 (unsx 16 (lim t.e)) ++
      leBytes 1 t.k ++ leBytes 1 (w.st.code * 16 + react)) none
  (x2.event K (0x50 + d.val) (objDoor d.val) 1 0, row)
/-- The confirmation of the detection a frame finds, where there is one. -/
def Dev.takeDetect (K : Memory) (d : DoorId) (free : Bool) (x : Dev) : Dev × Option Row :=
  match x.detection K d with
  | some t => x.confirm K d t free
  | none => (x, none)
/-- Reopening and relief moves at the first period boundary of a standing leaf (R108, R109). (DEDUCED: log entries 27, 152) -/
def Dev.afterMoves (K : Memory) (d : DoorId) (x : Dev) : Dev :=
  x.over (K.leaves d.val) (fun l y =>
    let w := y.dw d
    let a := l.2
    let o := K.openSign d.val l.1
    let pos := wholeCount (y.ax a).gen.x
    let todo := if l.1 = 0 then w.after1 else w.after2
    let done := fun (z : Dev) => z.modDw d (fun w => if l.1 = 0 then { w with after1 := .none } else { w with after2 := .none })
    if (y.ax a).still = false ∨ y.frameB % K.period a.val ≠ 0 then y
    else
      match todo with
      | .none => y
      | .reopen =>
        let goal := K.dwPos d.val (2 * l.1)
        let t := pos + o * K.reopenDist d.val
        (done y).leafMove a (if K.reopenDist d.val = 0 ∨ 0 < (t - goal) * o then goal else t) (K.dwProf d.val 2)
      | .relief opening =>
        if opening ∧ w.gate = false then y
        else (done y).seqMove a (pos + (if opening then o else -o) * K.reliefDist d.val) (K.dwProf d.val 2))

/-! ### Rows in the order of R62 -/

/-- The cause a fault reaction gives (R63, R81). (DEDUCED: log entry 25) -/
def Dev.reactionCause (K : Memory) (x : Dev) (d : DoorId) : Option Nat :=
  if x.doorRank d = 6 then some 0x0B
  else if (K.doorAxes d.val).any (fun l => x.evt.opens.any (fun f =>
      decide (f.code = 0x0203 ∧ f.tgt = objAxis l.2.val ∧ 3 ≤ f.rank))) then some 0x0C
  else if (K.doorAxes d.val).any (fun l => decide (3 ≤ x.axisRank K l.2)) then some 0x0A
  else none
/-- The timeout row of a state (R63): its cause once its time has run out. -/
def Dev.timeoutCause (K : Memory) (x : Dev) (d : DoorId) : Option Nat :=
  let w := x.dw d
  let due := fun (t n c : Nat) => if x.ranOut t (msFrames n) then some c else none
  match w.st with
  | .unlocking => due w.timer (K.tUnlockMax d.val) 0x02
  | .stepOut | .stepIn => due w.timer (K.tStepMax d.val) 0x05
  | .opening => due w.timer (K.tOpenMax d.val) 0x06
  | .locking => due w.timer (K.tLockMax d.val) 0x03
  | .closing => due w.closeT (K.tCloseMax d.val) 0x07
  | .finalClose =>
    match due w.closeT (K.tCloseMax d.val) 0x07, w.closedSwT with
    | some c, _ => some c
    | none, some t => due t (K.tClosedSw d.val) 0x08
    | none, none => none
  | _ => none
/-- The row of a shut gate (R63). -/
def Dev.gateRow (K : Memory) (x : Dev) (d : DoorId) : Option Row :=
  if (x.dw d).gate then none
  else match (x.dw d).st with
    | .unlocking => some { st := .locking }
    | .stepOut => some { st := .stepIn }
    | .opening => some { st := if K.releaseHold d.val then .opened else .closeWarning }
    | .opened => if K.releaseHold d.val then none else some { st := .closeWarning }
    | .reopening => some { st := .obstacleHold }
    | _ => none
/-- The first row of R62 items 1 to 4 that applies. -/
def Dev.upperRow (K : Memory) (x : Dev) (d : DoorId) : Option Row :=
  let eg := x.role K d 5
  let home : Row := { st := if x.closedLocked K d then .lockedClosed else .opened }
  match (x.dw d).st with
  | .disabled => none
  | .isolated =>
    if x.role K d 6 then none
    else if x.closedLocked K d then some { st := .lockedClosed } else some { st := .seqFault, cause := 0x09 }
  | .egress => if eg then none else some home
  | .seqFault => if eg then some { st := .egress } else none
  | st =>
    if eg then some { st := .egress }
    else match x.reactionCause K d, x.timeoutCause K d with
      | some c, _ => some { st := .seqFault, cause := c }
      | none, some c => some { st := .seqFault, cause := c }
      | none, none => if st = .lockedClosed ∧ x.role K d 6 = true then some { st := .isolated } else x.gateRow K d
/-- The rows of motion, switches and timers, items 7 and 8 of R62. -/
def Dev.lowerRow (K : Memory) (x : Dev) (d : DoorId) : Option Row :=
  let w := x.dw d
  let go := fun (b : Bool) (st : DwState) => if b then some ({ st := st } : Row) else none
  let lockDone := if K.lockSol d.val then x.ranOut w.unlockT (msFrames (K.tSol d.val)) else x.roleDone K d 3
  match w.st with
  | .lockedClosed => if x.closedLocked K d then none else some { st := .seqFault, cause := 0x04 }
  | .unlocking => go (lockDone && !x.role K d 8) (if K.stepAct d.val = 1 then .stepOut else .opening)
  | .stepOut => go (x.roleDone K d 2 && x.role K d 9) .opening
  | .opening => go (x.leavesDone K d && (decide (K.stepAct d.val ≠ 2) || x.role K d 9)) .opened
  | .opened => go (decide (K.tDwell d.val ≠ 0) && !w.hold && x.ranOut w.timer (msFrames (1000 * K.tDwell d.val))) .closeWarning
  | .closeWarning =>
    go (x.ranOut w.timer (msFrames (K.tWarn d.val)) && !x.blocked K d && (K.leaves d.val).all (fun l => (x.ax l.2).still)) .closing
  | .closing =>
    go ((K.leaves d.val).all (fun l => w.creepExt || (x.genEnv K l.2).inZone (x.ax l.2).gen.x)) .finalClose
  | .finalClose => go (x.leavesDone K d && x.role K d 7) (if x.stepHome K d then .locking else .stepIn)
  | .stepIn => go (x.roleDone K d 2 && x.role K d 10) .locking
  | .locking => go (lockDone && x.closedLocked K d) .lockedClosed
  | .reopening =>
    go (decide (w.after1 = .none) && decide (w.after2 = .none ∨ K.doorAx d.val 1 = none) && x.leavesDone K d)
      (if (K.leaves d.val).all (fun l => decide ((x.ax l.2).gen.x = K.dwPos d.val (2 * l.1) * fx)) then .opened
       else .closeWarning)
  | .obstacleHold =>
    go (decide (K.tObstHold d.val ≠ 0) && !x.blocked K d && x.ranOut w.timer (msFrames (1000 * K.tObstHold d.val))) .closeWarning
  | .egress | .isolated | .seqFault | .disabled => none

/-! ### Commands (R64, R66, R67, R78 to R81, R301) -/

/-- A doorway command that takes effect in this frame. -/
structure DoorDue where
  hdr : Hdr
  cmd : DoorCmd
deriving DecidableEq, Repr

/-- Judging the commands of a frame: the row chosen so far and the state the frame leads to. -/
structure Judge where
  dev : Dev
  row : Option Row
  /-- A second transition in this frame is not possible (R62, R67). -/
  taken : Bool
deriving DecidableEq, Repr

/-- The state commands are judged against: the one entered in this frame, or the present one (R67). -/
def Judge.cur (j : Judge) (d : DoorId) : DwState :=
  match j.row with
  | some r => r.st
  | none => (j.dev.dw d).st
/-- Apply `f` to the first of a list and `g` to the others. (DEDUCED: log entry 22) -/
def firstRest {α β : Type} (f g : α → β → β) : List α → β → β
  | [], b => b
  | a :: r, b => r.foldl (fun acc i => g i acc) (f a b)
/-- An outcome of a command. -/
def Judge.answer (K : Memory) (d : DoorId) (c : DoorDue) (code : Nat) (j : Judge) : Judge :=
  { j with dev := j.dev.doorOutcome K c.hdr d code }
/-- HOLD_OPEN or BUTTONS, stored but in ISOLATED and DISABLED (R78, R79). -/
def Judge.flagCmd (K : Memory) (d : DoorId) (c : DoorDue) (j : Judge) : Judge :=
  if j.cur d = .isolated ∨ j.cur d = .disabled then j.answer K d c stState
  else
    ({ j with dev := j.dev.modDw d (fun w => match c.cmd with
        | .holdOpen b => { w with hold := b }
        | .buttons b => { w with btn := b }
        | _ => w) } : Judge).answer K d c stOK
/-- The cause of SEQ_FAULT is cleared and FAULT_RESET may leave the state (R63, R81, R190). -/
def Dev.cleared (K : Memory) (x : Dev) (d : DoorId) : Bool :=
  let axes := K.doorAxes d.val
  !x.role K d 5 && axes.all (fun l => !x.loopOpen K l.2) &&
  (match (x.dw d).cause with
   | 0x09 => !x.role K d 6
   | 0x0A => axes.all (fun l => decide (x.axisRank K l.2 < 3))
   | 0x0B => decide (x.doorRank d ≠ 6)
   | 0x0C => axes.all (fun l => !(x.ax l.2).eng.lateLatched)
   | _ => true)
/-- FAULT_RESET (R64, R78, R79, R81, R190): outside SEQ_FAULT it is OK and does nothing, in SEQ_FAULT an OPEN loop of an owned axis
refuses it. (DESIGN CHOICE: log entry 169) -/
def Judge.reset (K : Memory) (d : DoorId) (c : DoorDue) (j : Judge) : Judge :=
  if j.cur d = .disabled then j.answer K d c stState
  else if j.cur d ≠ .seqFault then j.answer K d c stOK
  else if !j.taken && j.row.isNone && j.dev.cleared K d then
    ({ j with row := some { st := if j.dev.closedLocked K d then .lockedClosed else .opened } } : Judge).answer K d c stOK
  else j.answer K d c stState
/-- The CLOSE row of a state (R63). -/
def DwState.closeRow (s : DwState) : Option DwState :=
  match s with
  | .unlocking => some .locking
  | .stepOut => some .stepIn
  | .opening | .opened | .reopening | .obstacleHold => some .closeWarning
  | _ => none
/-- The states that already pursue a CLOSE (R64). -/
def DwState.pursuesClose (s : DwState) : Bool :=
  match s with
  | .closeWarning | .closing | .finalClose | .stepIn | .locking | .lockedClosed => true
  | _ => false
/-- Whether a CLOSE also clears HOLD_OPEN and BTN_ENABLED (R66). (DESIGN CHOICE: log entry 24) -/
def Src.fromTrain (s : Src) : Bool :=
  match s with
  | .host _ | .mapped _ _ | .mirror _ => true
  | _ => false
/-- CLOSE (R63, R64, R66). (DESIGN CHOICE: log entry 24) -/
def Judge.close (K : Memory) (d : DoorId) (c : DoorDue) (j : Judge) : Judge :=
  let st := (j.dev.dw d).st
  let cleared := fun (k : Judge) => if Src.fromTrain c.hdr.src then
    { k with dev := k.dev.modDw d (fun w => { w with hold := false, btn := false }) } else k
  match (if j.taken ∨ j.row.isSome then none else st.closeRow) with
  | some nxt =>
    if st = .obstacleHold ∧ j.dev.blocked K d = true then j.answer K d c stState
    else
      let y := if st = .opening then j.dev.stopOpening K d
        else if st = .reopening then j.dev.over (K.leaves d.val) (fun l z => z.seqStop (some true) l.2) else j.dev
      (cleared { j with dev := y, row := some { st := nxt } }).answer K d c stOK
  | none => if (j.cur d).pursuesClose then (cleared j).answer K d c stOK else j.answer K d c stState
/-- The states in which an OPEN asks for an opening action (R63, R73). -/
def DwState.openRow (s : DwState) : Option DwState :=
  match s with
  | .lockedClosed => some .unlocking
  | .closeWarning | .closing | .finalClose | .reopening | .obstacleHold => some .opening
  | _ => none
/-- OPEN (R63, R64, R73). -/
def Judge.opening (K : Memory) (d : DoorId) (c : DoorDue) (j : Judge) : Judge :=
  let st := (j.dev.dw d).st
  let cur := j.cur d
  if cur = .opened then
    let k := if j.row.isNone then
        { j with dev := j.dev.modDw d (fun w => { w with timer := j.dev.time.frames }) } else j
    k.answer K d c stOK
  else if cur.openRow.isSome ∧ (j.dev.dw d).gate = false then j.answer K d c stGate
  else match (if j.taken ∨ j.row.isSome then none else st.openRow) with
    | some nxt =>
      let left := (K.leaves d.val).any (fun l => decide ((j.dev.ax l.2).gen.x ≠ K.dwPos d.val (2 * l.1) * fx))
      ({ j with row := some { st := nxt, rev := st.isClosing || (decide (st = .closeWarning) && left) } } : Judge).answer K d c stOK
    | none =>
      j.answer K d c (match cur with
        | .unlocking | .stepOut | .opening => stOK
        | _ => stState)
/-- The outcome of a command after the first of its kind in a frame: OK without effect, but where the state refuses every such
command, as an OPEN loop does every FAULT_RESET in SEQ_FAULT (R67, R78, R79, R190, R301). (DESIGN CHOICE: log entry 169) -/
def Judge.again (K : Memory) (d : DoorId) (cmd : DoorCmd) (j : Judge) : Nat :=
  match j.cur d with
  | .disabled => stState
  | .isolated => if cmd = .faultReset then stOK else stState
  | .egress => if cmd = .opening ∨ cmd = .close then stState else stOK
  | .seqFault =>
    if cmd = .faultReset ∧ (K.doorAxes d.val).any (fun l => j.dev.loopOpen K l.2) = true then stState else stOK
  | _ => stOK
/-- The commands of one doorway that take effect in a frame, in the order of R67; the check of the gate on an OPEN comes before
the preference for a CLOSE and before the rule of repeated commands (R301). (DEDUCED: log entry 22) -/
def Judge.commands (K : Memory) (d : DoorId) (due : List DoorDue) (j : Judge) : Judge :=
  let kind := fun (p : DoorCmd → Bool) => due.filter (fun c => p c.cmd)
  let ok := fun (c : DoorDue) (j : Judge) => j.answer K d c (j.again K d c.cmd)
  let holds := kind (fun c => match c with | .holdOpen _ => true | _ => false)
  let btns := kind (fun c => match c with | .buttons _ => true | _ => false)
  let resets := kind (fun c => decide (c = .faultReset))
  let closes := kind (fun c => decide (c = .close))
  let opens := kind (fun c => decide (c = .opening))
  let j1 := firstRest (Judge.flagCmd K d) ok btns (firstRest (Judge.flagCmd K d) ok holds j)
  let jr := firstRest (Judge.reset K d) ok resets j1
  let shut := (jr.cur d).openRow.isSome && !(jr.dev.dw d).gate
  let j2 := firstRest (Judge.close K d) ok closes jr
  if shut then opens.foldl (fun k c => k.answer K d c stGate) j2
  else if closes.isEmpty then firstRest (Judge.opening K d) ok opens j2
  else opens.foldl (fun k c => k.answer K d c stState) j2

/-! ### One doorway in a frame -/

/-- Events of ISOLATED that change no state: each switch that is lost is a breach of its own, one for the frame in which both go
(R79, R80). -/
def Dev.isoAlerts (K : Memory) (d : DoorId) (x : Dev) : Dev :=
  let w := x.dw d
  if w.st ≠ .isolated then x
  else
    let eg := x.role K d 5
    let cl := x.role K d 7
    let lk := x.role K d 8
    let y := if eg && !w.isoEgress then (x.doorRecord d 3 0).event K (0x58 + d.val) (objDoor d.val) 2 0 else x
    let z := if (w.isoClosed && !cl) || (w.isoLocked && !lk) then (y.doorRecord d 2 0).event K (0x58 + d.val) (objDoor d.val) 1 0 else y
    z.modDw d (fun w => { w with isoEgress := eg, isoClosed := cl, isoLocked := lk })
/-- The wait for CLOSED_IN of FINAL_CLOSE starts once the leaf moves are done. (DEDUCED: log entry 34) -/
def Dev.closedWait (K : Memory) (d : DoorId) (x : Dev) : Dev :=
  x.modDw d (fun w => { w with closedSwT :=
    if w.st = .finalClose ∧ x.leavesDone K d = true ∧ x.role K d 7 = false then some (w.closedSwT.getD x.time.frames) else none })
/-- The initial state a doorway takes at seal (R83). -/
def Dev.initialRow (K : Memory) (x : Dev) (d : DoorId) : Row :=
  if x.role K d 5 then { st := .egress }
  else if x.role K d 6 && x.closedLocked K d then { st := .isolated }
  else if x.closedLocked K d then { st := .lockedClosed }
  else { st := .seqFault, cause := 0x01 }
/-- The step retract move after its compare has fired (R76). -/
def Dev.retractNow (K : Memory) (d : DoorId) (x : Dev) : Dev :=
  if (x.dw d).retract ∧ (x.dw d).st.isClosing = true then
    (x.roleMove K d 2 (K.dwPos d.val 5)).modDw d (fun w => { w with retract := false })
  else x
/-- One doorway in step 2 of a frame (R62, R63): `due` are the commands that take effect in it. A detection is taken up once a frame:
one that shows after a transition of the frame waits for the next (R62, R106). (DEDUCED: log entry 22) -/
def Dev.doorFrame (K : Memory) (d : DoorId) (due : List DoorDue) (x : Dev) : Dev :=
  if !K.dwEn d.val || !x.isSealed then
    x.over due (fun c y => y.doorOutcome K c.hdr d stState)
  else
    let taken := decide ((x.dw d).transF = some x.time.frames)
    let x0 := ((x.isoAlerts K d).closedWait K d).retractNow K d
    let up := if taken then none else x0.upperRow K d
    let x1 := match up, (x0.dw d).st with
      | some _, .opening => if (x0.dw d).gate then x0 else x0.stopOpening K d
      | some _, .reopening => if (x0.dw d).gate then x0 else x0.stopOpening K d
      | _, _ => x0
    let c := if taken then (x1, none) else x1.takeDetect K d up.isNone
    let row := match up with
      | some r => some r
      | none => c.2
    let j := ({ dev := c.1, row := row, taken := taken } : Judge).commands K d due
    let fin := match j.row with
      | some r => some r
      | none => if taken then none else j.dev.lowerRow K d
    let y := match fin with
      | some r => j.dev.dwEnter K d r
      | none => j.dev
    y.afterMoves K d

/-! ### Lamps, tone and the closed-locked loop (R84 to R88) -/

/-- Command of a field output. -/
def Dev.setOut (o : OutId) (b : Bool) (x : Dev) : Dev :=
  x.modOut o (fun p => if p.cmd = b then p else { p with cmd := b, changed := x.time.cyc, limitAt := none })
/-- Command of a safety output. -/
def Dev.setSout (j : Fin 4) (b : Bool) (x : Dev) : Dev :=
  x.modSout j (fun p => if p.cmd = b then p else { p with cmd := b, changed := x.time.cyc })
/-- Demands of a doorway on its lamp and tone roles (R88). -/
def Dev.lampDemands (K : Memory) (d : DoorId) (x : Dev) : Dev :=
  let flash := decide (x.time.tt % 500000000 < 250000000)
  x.modDw d (fun w =>
    let dark := match w.st with
      | .egress | .isolated | .seqFault | .disabled => true
      | _ => false
    { w with
      openLamp := w.btn && w.gate && !dark
      warnLamp := match w.st with
        | .seqFault => true
        | .closeWarning | .closing | .finalClose | .reopening | .obstacleHold => flash
        | _ => false
      tone := match w.st with
        | .closeWarning | .closing => !K.tonePulsed d.val || flash
        | .obstacleHold => flash
        | _ => false })
/-- Demand of a doorway on output role `i`. -/
def Door.demand (w : Door) (i : Nat) : Bool :=
  match i with
  | 0 => w.unlockOut
  | 1 => w.openLamp
  | 2 => w.warnLamp
  | _ => w.tone
/-- An output has a role in an enabled doorway (R254). -/
def Memory.outRole (K : Memory) (o : OutId) : Bool :=
  (List.finRange 8).any (fun (d : DoorId) => K.dwEn d.val && (List.range 4).any (fun i => decide (K.doorOut d.val i = some o)))
/-- Some doorway demands the output on (R60). -/
def Dev.demanded (K : Memory) (x : Dev) (o : OutId) : Bool :=
  (List.finRange 8).any (fun (d : DoorId) => K.dwEn d.val &&
    (List.range 4).any (fun i => decide (K.doorOut d.val i = some o) && (x.dw d).demand i))
/-- The doorway outputs take their commands. -/
def Dev.doorOutputs (K : Memory) (x : Dev) : Dev :=
  (x.each 8 (fun d y => y.lampDemands K d)).each 32 (fun o y => if K.outRole o then y.setOut o (y.demanded K o) else y)
/-- The loop condition of a side (R84). -/
def Dev.loopCond (K : Memory) (x : Dev) (s : Fin 2) : Bool :=
  K.loopEn s.val && !x.gate.loopFault.get s &&
  (List.finRange 8).all (fun (d : DoorId) =>
    !K.dwEn d.val || (K.dwSide d.val != (s.val == 1)) || decide ((x.dw d).st = .isolated) ||
    (x.closedLocked K d && decide ((x.dw d).st = .lockedClosed ∨ (x.dw d).st = .seqFault)))
/-- The closed-locked loop of a side; both outputs are off while the device is unsealed (R83 to R85). -/
def Dev.loopSide (K : Memory) (s : Fin 2) (x : Dev) : Dev :=
  let c := x.isSealed && x.loopCond K s
  let y := { x with gate := { x.gate with loopCond := x.gate.loopCond.set s.val c s.isLt } }
  (y.setSout ⟨2 * s.val, by omega⟩ c).setSout ⟨2 * s.val + 1, by omega⟩ (c && decide (x.frameB / 500000 % 2 = 0))
/-- Doorway outputs and the loop, after every sequencer. -/
def Dev.doorTail (K : Memory) (x : Dev) : Dev :=
  let y := if x.isSealed then x.doorOutputs K else x
  (y.loopSide K 0).loopSide K 1

/-! ### The step with its own command -/

/-- A doorway command, or a condition of R63 whose instant has come, runs the doorway's sequencer once. -/
def Dev.doorNow (K : Memory) (d : DoorId) (due : List DoorDue) (x : Dev) : Dev :=
  let y := x.doorFrame K d due
  if y.isSealed then y.doorTail K else y
/-- COEF_LOAD of an envelope (R95, R200, R310). -/
def Dev.effEnvLoad (K : Memory) (h : Hdr) (d : DoorId) (closing : Bool) (ecrc : BitVec 16) (data : List Byte) (x : Dev) : Dev :=
  let pts := (List.range 64).map (fun i => leNat (slice data (2 * i) 2))
  if !(x.dw d).st.rest then x.complete h stState
  else if crc16 (slice data 0 128) ≠ ecrc.toNat then x.complete h stBadCrc
  else if pts.any (fun p => decide (0x8000 ≤ p)) then x.complete h stBadOperand
  else
    let y := x.modDw d (fun w => if closing then { w with envClose := pts, envCloseValid := true, envBad := w.envBad &&& 1 }
      else { w with envOpen := pts, envOpenValid := true, envBad := w.envBad &&& 2 })
    (y.when ((y.dw d).envBad == 0) (Dev.endFault K 0x0206 (objDoor d.val))).complete h stOK
/-- COEF_READ of an envelope (R310). -/
def Dev.effEnvRead (h : Hdr) (d : DoorId) (closing : Bool) (buf : Buf) (x : Dev) : Dev :=
  let w := x.dw d
  (x.postBuf buf 0 ((if closing then w.envClose else w.envOpen).flatMap (leBytes 2))).complete h stOK

end Sys2Proof.Machine
end

