-- ==== Sys2Proof/Machine/Ports.lean ====
section
/-! DEFINITION. What happens at an axis port between period boundaries (R154 to R159, R166, R230 to R245), and the writes
that clear latched axis and port faults (R152, R167, R198, R219, R230, R231, R445). -/

namespace Sys2Proof.Machine

def Dev.modPort (a : AxisId) (f : Port → Port) (x : Dev) : Dev := x.modAx a (fun v => { v with port := f v.port })
/-- The AX_FEEDBACK source of a port with its condition (R448). -/
def Dev.fbEvent (K : Memory) (a : AxisId) (cond : Nat) (x : Dev) : Dev :=
  x.event K (0xC0 + a.val) (objAxis a.val) cond (x.axDetail K a)

/-! ### Current channels (R231 to R236) -/

/-- What the current channels of a port are set to: interface, clock divider, ratio, skew and overcurrent threshold; `aligned`
where Td divides 200 µs, `drive` where the port drives SDCK. -/
structure SdCfg where
  manch : Bool
  div : Nat
  osr : Nat
  skew : Nat
  lim : Nat
  trip : Nat
  aligned : Bool
  drive : Bool
deriving DecidableEq, Repr

/-- The unit drives the shared clocks of its ports, AXnn_SDCK and AXnn_A in SSI mode; it listens otherwise (R236). In a device reset, in
device sleep and without supply those pins are at high impedance (R462, R506). -/
def Dev.drivesClock (x : Dev) : Bool := decide (x.keeper.phase = .run) && (x.holding || !x.twin.en)
/-- Decimator period Td in ns (R233). -/
def Memory.sdTd (K : Memory) (a : Nat) : Nat := 5 * K.sdDiv a * K.sdOsr a
/-- SD_ALIGNED (R234). -/
def Memory.sdAligned (K : Memory) (a : Nat) : Bool := !K.sdManch a && decide (200000 % K.sdTd a = 0)
def Dev.sdCfg (K : Memory) (x : Dev) (a : AxisId) : SdCfg :=
  { manch := K.sdManch a.val, div := max 1 (K.sdDiv a.val), osr := max 1 (K.sdOsr a.val), skew := K.sdSkew a.val
    lim := K.ocLim a.val, trip := max 1 (K.ocCnt a.val), aligned := K.sdAligned a.val, drive := x.drivesClock }
/-- Weight of the bit `i` bit times before the latest one in a sinc3 decimator of ratio `m`, centred in its 3m bits (R233). (DEDUCED: log entry 135) -/
def sincWeight (m i : Nat) : Nat :=
  if i = 0 then 0
  else if i ≤ m then i * (i + 1) / 2
  else if i ≤ 2 * m then i * (i + 1) / 2 - 3 * ((i - m) * (i - m + 1) / 2)
  else (3 * m - 1 - i) * (3 * m - i) / 2
/-- The sum S of R233. -/
def sincSum (m : Nat) (bits : List Bool) : Nat :=
  bits.zipIdx.foldl (fun s b => if b.1 then s + sincWeight m b.2 else s) 0
/-- A decimator output in decimator units (R233). -/
def decimated (m : Nat) (bits : List Bool) : Int :=
  clampI (-8388608) 8388607 (rdivI ((2 * (sincSum m bits : Int) - m ^ 3) * 8388608) (m ^ 3))

/-- A channel after one axis cycle, with its decimator output and a loss that begins in it. -/
structure SdStep where
  ch : SdChan
  out : Option Int
  loss : Bool
deriving DecidableEq, Repr

/-- A bit joins the window (R233, R235). -/
def SdChan.push (c : SdCfg) (b : Bool) (h : SdChan) : SdChan :=
  { h with
    bits := (b :: h.bits).take (3 * c.osr), cnt := h.cnt + 1
    run := match h.bits with
      | q :: _ => if q = b then min (h.run + 1) (3 * c.osr) else 1
      | [] => 1 }
/-- A decimator output, valid once the window is full (R233, R236): the channel with its overcurrent count (R231). -/
def SdChan.emit (c : SdCfg) (h : SdChan) : SdChan × Option Int :=
  if h.bits.length < 3 * c.osr then ({ h with cnt := 0 }, none)
  else
    let v := decimated c.osr h.bits
    ({ h with cnt := 0, out := v, ocRun := if c.lim ≠ 8388607 ∧ c.lim < v.natAbs then h.ocRun + 1 else 0 }, some v)
/-- Loss of the bitstream: one value for 3 · SD_OSR bits, or no transition of a Manchester line for two bit times (R235). -/
def SdChan.isLost (c : SdCfg) (h : SdChan) : Bool :=
  decide (3 * c.osr ≤ h.run) || (c.manch && decide (2 * c.div ≤ h.quiet))
/-- One axis cycle of a channel with pin level `l` (R232 to R235). In CLOCKED mode `sample` marks the sampling instant, and `top`
a train-time multiple of Td at which an aligned output completes; a bit whose clock edge came before it belongs to that output. In MANCHESTER mode a transition three quarters of a bit or
more after the latest mid-bit transition is the next one. (DEDUCED: log entry 135) -/
def SdChan.tick (c : SdCfg) (sample top l : Bool) (h : SdChan) : SdStep :=
  let r :=
    if c.manch then
      let mid := (l != h.lvl) && decide (3 * c.div ≤ 4 * (h.since + 1))
      let k : SdChan := { h with
        lvl := l, since := if mid then 0 else h.since + 1, quiet := if l != h.lvl then 0 else h.quiet + 1 }
      if mid then
        let k := k.push c l
        if c.osr ≤ k.cnt then k.emit c else (k, none)
      else (k, none)
    else
      let before := sample && decide (c.skew % c.div ≠ 0)
      let h0 : SdChan := { h with lvl := l }
      let h1 := if before then h0.push c l else h0
      let k := if c.aligned && top && decide (h1.cnt ≠ 0) then h1.emit c else (h1, none)
      let q := if sample && !before then k.1.push c l else k.1
      if !c.aligned && sample && decide (c.osr ≤ q.cnt) then q.emit c else (q, k.2)
  let lost := SdChan.isLost c r.1
  { ch := { r.1 with lost := lost }, out := r.2, loss := lost && !h.lost }

/-- The port's part of one axis cycle with the levels of SD_U, SD_V, SD_W and SDCK in bits 0 to 3: the axis cycles since the
rising edge of SDCK, and whether the enabled pins are sampled in it, SD_SKEW ticks after that edge (R232). An aligned clock has its
edges at the train-time multiples of its period, which `tick` marks, so that slew lengthens or shortens one period by one tick (R226);
any other runs on the axis clock. A new driver of a shared clock makes its first edge at an aligned instant, a multiple of Td (R234,
R236). (DEDUCED: log entry 188) -/
def Port.sdClock (c : SdCfg) (top tick : Bool) (pins : BitVec 4) (p : Port) : Port × Bool :=
  let rise := if !c.drive then pins.getLsbD 3 && !p.sdCk
    else if p.sdWait then top
    else if c.aligned then tick
    else decide (c.div ≤ p.sdPh + 1)
  let ph := if rise then 0 else min (p.sdPh + 1) (2 * c.div)
  ({ p with sdPh := ph, sdCk := pins.getLsbD 3, sdWait := p.sdWait && !(c.drive && rise) },
    if c.skew % c.div = 0 then rise else decide (p.sdPh + 1 = c.skew % c.div))
/-- Axis cycles since the latest rising edge of the SDCK the port drives, be the pin levels of the latest cycles taken or not; none while
it waits for its first aligned instant (R226, R232, R236). (DEDUCED: log entry 188) -/
def Dev.sdPhase (K : Memory) (x : Dev) (a : AxisId) : Option Nat :=
  let p := (x.ax a).port
  let div := max 1 (K.sdDiv a.val)
  let back := x.time.full % (K.sdTd a.val * 4294967296) / max 1 x.time.inc
  if p.sdWait ∧ x.time.cyc ≤ p.sdAt + back then none
  else if K.sdAligned a.val then some (x.time.full % (5 * div * 4294967296) / max 1 x.time.inc)
  else if p.sdWait then some (back % div)
  else some ((p.sdPh + (x.time.cyc - p.sdAt)) % div)
/-- Level of AXnn_SDCK in the present axis cycle, of its second half where `half` is set: high for the first half of each clock period
and low for the rest; none while the pin is an input (R232, R236). (DEDUCED: log entry 188) -/
def Dev.sdckPin (K : Memory) (x : Dev) (a : AxisId) (half : Bool) : Option Bool :=
  if x.drivesClock then
    some (match x.sdPhase K a with
      | some ph => decide (2 * ph + b2n half < max 1 (K.sdDiv a.val))
      | none => false)
  else none
/-- One axis cycle of the current channels of port `a`, `top` marking a train-time multiple of Td and `tick` one of the clock period: losses raise their source, and
the OC_CNT-th consecutive output over OC_LIM trips (R231 to R235). (DEDUCED: log entry 132) -/
def Dev.sdCycle (K : Memory) (a : AxisId) (top tick : Bool) (pins : BitVec 4) (x : Dev) : Dev :=
  let c := x.sdCfg K a
  let q := (x.ax a).port.sdClock c top tick pins
  let y := x.modAx a (fun v => { v with port := q.1 })
  y.each 3 (fun i z =>
    if !K.sdEn a.val i.val then z
    else
      let r := ((z.ax a).port.sd.get i).tick c q.2 top (pins.getLsbD i.val)
      let w := z.modPort a (fun p => { p with
        sd := p.sd.set i.val r.ch i.isLt, sdLoss := if r.ch.lost then p.sdLoss ||| (1 <<< i.val) else p.sdLoss })
      let w := if r.loss then w.fbEvent K a 4 else w
      if r.out.isSome && decide (r.ch.ocRun = c.trip) then
        ((w.modPort a (fun p => { p with ocLatched := true })).fault K 0x0208 (objAxis a.val) 5 (leBytes 1 i.val) true).gateNow K a
      else w)
/-- The axis cycle `back` cycles before the present one is the first at or after a train-time multiple of `n` ns. -/
def Dev.multipleAt (x : Dev) (n back : Nat) : Bool :=
  decide (((x.time.full : Int) - back * x.time.inc) % (n * 4294967296 : Nat) < x.time.inc)
/-- The axis cycle `back` cycles before the present one is the first at or after a train-time multiple of Td. A step moves no
multiple of it (R226). (DEDUCED: log entry 135) -/
def Dev.sdTop (K : Memory) (x : Dev) (a : AxisId) (back : Nat) : Bool := x.multipleAt (K.sdTd a.val) back
/-- The same of the period of SDCK. -/
def Dev.sdTick (K : Memory) (x : Dev) (a : AxisId) (back : Nat) : Bool := x.multipleAt (5 * max 1 (K.sdDiv a.val)) back
/-- The pin levels of the axis cycles up to the present one, oldest first, pass through port `a`: its clock runs, and so do the
channels in use. (DEDUCED: log entry 135) -/
def Dev.sdTake (K : Memory) (a : AxisId) (pins : List (BitVec 4)) (x : Dev) : Dev :=
  let y := x.over (pins.zip (List.range pins.length)) (fun q y =>
    let back := pins.length - 1 - q.2
    y.sdCycle K a (x.sdTop K a back) (x.sdTick K a back) q.1)
  if pins.isEmpty then y else y.modPort a (fun p => { p with sdAt := x.time.cyc })
/-- A channel in use shows a latest output above OC_LIM (R231). (DEDUCED: log entry 132) -/
def Dev.overNow (K : Memory) (x : Dev) (a : AxisId) : Bool :=
  (List.finRange 3).any (fun i => K.sdEn a.val i.val && decide (0 < ((x.ax a).port.sd.get i).ocRun))

/-! ### Bridge fault, overcurrent and loss of a channel -/

/-- BRIDGE_FAULT (R230): AXnn_FLT_N has been low for `low` axis cycles, or is high again where `low` is 0. -/
def Dev.bridgeFault (K : Memory) (a : AxisId) (low : Nat) (x : Dev) : Dev :=
  let y := x.modPort a (fun p => { p with fltPin := decide (low = 0) })
  if K.fltEn a.val && decide (K.fltFilt a.val + 1 ≤ low) then
    ((y.modPort a (fun p => { p with fltLatched := true })).fault K 0x0207 (objAxis a.val) 5 [] true).gateNow K a
  else y
/-- SD_LOSS of an enabled channel (R235): the cycles before it pass first, and the loss is raised where they have not shown it
themselves, as without a clock. (DEDUCED: log entry 44) -/
def Dev.sdLost (K : Memory) (a : AxisId) (ch : Fin 3) (pins : List (BitVec 4)) (x : Dev) : Dev :=
  if !K.sdEn a.val ch.val then x
  else
    let y := x.sdTake K a pins
    if ((y.ax a).port.sd.get ch).lost then y
    else
      (y.modPort a (fun p => { p with
        sdLoss := p.sdLoss ||| (1 <<< ch.val), sd := p.sd.set ch.val { p.sd.get ch with lost := true } ch.isLt })).fbEvent K a 4

/-! ### Decoders (R237 to R244) -/

/-- The reported position follows a changed raw counter with its one-count hysteresis (R244). -/
def Port.follow (p : Port) : Port :=
  let e := p.raw - p.h
  if e = 0 then p
  else if (0 < e ∧ p.d = 1) ∨ (e < 0 ∧ p.d = -1) then { p with h := p.raw }
  else if 2 ≤ e.natAbs then { p with h := p.raw, d := if 0 < e then 1 else -1 }
  else p
/-- The raw counter moves (R242). -/
def Port.count (n : Int) (p : Port) : Port := ({ p with raw := sext 48 (unsx 48 (p.raw + n)) } : Port).follow
/-- A sign with FB_DIR applied. (DEDUCED: log entry 43) -/
def Memory.fbSign (K : Memory) (a : Nat) (s : Int) : Int := if K.fbDir a then -s else s
/-- Both lines change in one sample in QUAD mode (R237). -/
def Dev.quadIllegal (K : Memory) (a : AxisId) (x : Dev) : Dev :=
  let p := (x.ax a).port
  if K.fbMode a.val ≠ 1 ∨ p.wireBreak.getLsbD 0 = true ∨ p.wireBreak.getLsbD 1 = true then x
  else
    (x.modAx a (fun v => { v with
      posUncertain := true
      port := { v.port with aLvl := !v.port.aLvl, bLvl := !v.port.bLvl, illegal := satInc 16 v.port.illegal } })).fbEvent K a 1
/-- Filtered levels of A and B after a sample that brings an edge. -/
def abLevels (p : Port) (e : AbEdge) : Bool × Bool :=
  match e with
  | .aEdge l => (l, p.bLvl)
  | .bEdge l => (p.aLvl, l)
  | .both l m => (l, m)
/-- The count of a sample in which the lines change as `da` and `db` say, to the levels `la` and `lb` (R237, R239): one quadrature
step, a step by the level B had before it, or up and down edges that cancel when they come together. -/
def abCount (mode : Nat) (bOld da db la lb : Bool) : Int :=
  match mode with
  | 1 => if da then (if la = lb then -1 else 1) else (if la = lb then 1 else -1)
  | 2 => if da && la then (if bOld then 1 else -1) else 0
  | 3 => (if da && la then 1 else 0) - (if db && lb then 1 else 0)
  | _ => 0
/-- A sample that brings a filtered edge of A, of B or of both (R237, R239). A line whose pair is broken is not decoded (R242). -/
def Dev.abEdge (K : Memory) (a : AxisId) (e : AbEdge) (x : Dev) : Dev :=
  let p := (x.ax a).port
  let la := if p.wireBreak.getLsbD 0 then p.aLvl else (abLevels p e).1
  let lb := if p.wireBreak.getLsbD 1 then p.bLvl else (abLevels p e).2
  let da := la != p.aLvl
  let db := lb != p.bLvl
  if !da && !db then x
  else if da && db && decide (K.fbMode a.val = 1) then x.quadIllegal K a
  else
    let n := abCount (K.fbMode a.val) p.bLvl da db la lb
    x.modPort a (fun _ =>
      let q := { p with aLvl := la, bLvl := lb }
      if n = 0 then q else q.count (K.fbSign a.val n))
/-- A wire break of a pair in use begins or ends (R242). -/
def Dev.wireBreak (K : Memory) (a : AxisId) (pair : Fin 3) (present : Bool) (x : Dev) : Dev :=
  let used := if pair = 2 then decide (K.fbMode a.val = 1 ∧ K.cpi a.val ≠ 0) else decide (K.fbMode a.val ≠ 0)
  let bit : BitVec 3 := 1 <<< pair.val
  if !present then x.modPort a (fun p => { p with wireBreak := p.wireBreak &&& ~~~bit })
  else if used then
    (x.modAx a (fun v => { v with
      posUncertain := true
      port := { v.port with wireBreak := v.port.wireBreak ||| bit, fbCause := if v.port.fbCause = 0 then 1 else v.port.fbCause } })).fbEvent
      K a 2
  else x
/-- The Gray code of 32 bits as binary (R240). -/
def grayDecode (w : Nat) : Nat := [16, 8, 4, 2, 1].foldl (fun v n => v ^^^ v / 2 ^ n) w
/-- Instant at which the next SSI frame of a port begins (R240): SSI_LEAD before the first period boundary whose frame is still to
come, a frame that begins in the present cycle included. -/
def Dev.ssiStart (K : Memory) (x : Dev) (a : AxisId) : Nat :=
  let per := K.period a.val
  let lead := 1000 * K.ssiLead a.val
  let b := (x.tt + lead) / per * per
  if lead ≤ b ∧ x.time.full < (b - lead) * 4294967296 + x.time.inc ∧ (x.ax a).port.ssiAt ≠ some x.time.cyc then b - lead
  else b + per - lead
/-- Axis cycles an SSI frame takes: SSI_BITS clock periods, and one more with SSI_TRAIL (R240). -/
def Memory.ssiCycles (K : Memory) (a : AxisId) : Nat := (K.ssiBits a.val + b2n (K.ssiTrail a.val)) * K.ssiDiv a.val
/-- The level the unit drives on A of a port in SSI mode, `n` axis cycles after the start of the latest frame: each clock period is low
first, and the clock stays high outside a frame; none where the pin is an input (R236, R240). -/
def Dev.ssiClockPin (K : Memory) (x : Dev) (a : AxisId) : Option Bool :=
  if x.drivesClock = false ∨ K.fbMode a.val ≠ 4 then none
  else match (x.ax a).port.ssiAt with
    | none => some true
    | some c =>
      let n := x.time.cyc - c
      some (decide (K.ssiCycles a ≤ n) || decide (K.ssiDiv a.val ≤ 2 * (n % max 1 (K.ssiDiv a.val))))
/-- The frame is complete by its boundary (R240): one that this unit clocks by its own length, one that it listens to as it came. -/
def Dev.ssiInTime (K : Memory) (x : Dev) (a : AxisId) (r : SsiResult) : Bool :=
  if x.drivesClock then decide (5 * K.ssiCycles a ≤ 1000 * K.ssiLead a.val) else r.inTime
/-- One SSI frame, which begins in the present cycle (R240, R241). -/
def Dev.ssiFrame (K : Memory) (a : AxisId) (r : SsiResult) (x0 : Dev) : Dev :=
  let x := x0.modPort a (fun p => { p with ssiAt := some x0.time.cyc })
  let p := (x.ax a).port
  let n := K.ssiBits a.val
  let raw := r.word.toNat % 2 ^ n
  let w := if K.ssiGray a.val then grayDecode raw else raw
  let delta := match p.ssiPrev with
    | none => 0
    | some q => sext n (w + 2 ^ n - q)
  let fail := fun (c : Nat) => (x.modPort a (fun p => { p with ssiErr := c, ssiBad := true })).fbEvent K a 3
  if p.wireBreak.getLsbD 0 = true ∨ p.wireBreak.getLsbD 1 = true then x
  else if !r.idleHigh then fail 1
  else if K.ssiTrail a.val && !r.trailLow then fail 2
  else if !x.ssiInTime K a r then fail 3
  else if K.ssiMaxd a.val < delta.natAbs then
    (fail 4).modAx a (fun v => { v with posUncertain := true })
  else
    x.modPort a (fun p => match p.ssiPrev with
      | none => { p with raw := w, h := w, d := 1, ssiPrev := some w }
      | some _ => ({ p with ssiPrev := some w } : Port).count delta)
/-- An index edge (R158, R159), which also completes an arming on INDEX and ASSERT (R154). -/
def Dev.indexEdge (K : Memory) (a : AxisId) (aHigh bHigh : Bool) (x : Dev) : Dev :=
  let v := x.ax a
  if K.fbMode a.val ≠ 1 ∨ v.port.wireBreak.getLsbD 2 = true ∨ (K.idxGate a.val = true ∧ (aHigh && bHigh) = false) then x
  else
    let cpi : Int := K.cpi a.val
    let tol : Int := K.idxTol a.val
    let this := v.port.raw
    let arms := match v.refArm with
      | some o => decide (o.src = .index ∧ o.deassert = false) && v.refLatch.isNone
      | none => false
    let y := x.modAx a (fun v => { v with
      idxPrev := some this, posUncertain := false
      refLatch := if arms then some (this + v.posOff) else v.refLatch })
    match v.idxPrev with
    | none => y
    | some prev =>
      if cpi = 0 then y
      else
        let dl := this - prev
        let near := fun (c : Int) => decide ((dl - c).natAbs ≤ tol.natAbs)
        let z := if near 0 || near cpi || near (-cpi) then y
          else (y.modAx a (fun v => { v with idxDelta := dl, idxDrift := satInc 16 v.idxDrift })).event K (0xA8 + a.val)
            (objAxis a.val) 4 (y.axDetail K a)
        if v.posUncertain && K.idxCorrect a.val && !arms then
          z.modAx a (fun v => { v with idxFix := v.idxFix ++ [prev + rdivI dl cpi.toNat * cpi - this] })
        else z
/-- The armed reference edge (R153, R154, R252): INDEX is qualified as R238 states and takes the counter, ZSWITCH takes the present
position, FIELD the position held at the sample at which the raw input first showed the level it has now. A broken Z pair is
not decoded (R242). (DEDUCED: log entry 40) -/
def Dev.referenceLatch (K : Memory) (a : AxisId) (rising : Bool) (x : Dev) : Dev :=
  let v := x.ax a
  let hit := fun (pl : Int) => x.modAx a (fun v => { v with refLatch := some pl })
  match v.refArm, v.refLatch with
  | some o, none =>
    if o.deassert = rising then x
    else match o.src with
      | .index =>
        if v.port.wireBreak.getLsbD 2 = true ∨ (K.idxGate a.val = true ∧ (v.port.aLvl && v.port.bLvl) = false) then x
        else hit (v.port.raw + v.posOff)
      | .zswitch => if v.port.wireBreak.getLsbD 2 = true then x else hit (x.axPos K a)
      | .field i =>
        if (x.inPin i).lvl = rising then hit (((x.inPin i).latchPos[a.val]?.getD (x.axPos K a - v.posOff)) + v.posOff) else x
  | _, _ => x
/-- A stamped coarse step of a step-and-direction port reaches the axes that follow it (R166, R239). A broken A or B pair is not
decoded (R242). -/
def Dev.coarseStep (K : Memory) (a : AxisId) (bHigh fall : Bool) (x : Dev) : Dev :=
  let p := (x.ax a).port
  if K.fbMode a.val ≠ 2 ∨ p.wireBreak.getLsbD 0 = true ∨ p.wireBreak.getLsbD 1 = true then x
  else
    let s := K.fbSign a.val (if bHigh then 1 else -1)
    let ts := x.stamp fall
    x.each 24 (fun b y =>
      if K.followEn b.val && decide (K.followPort b.val = a) && y.isSealed then y.coarseFor K b s ts else y)

/-! ### Hall inputs (R245) -/

/-- A Hall state is legal. -/
def hallLegal (s : BitVec 3) : Bool := decide (s ≠ 0 ∧ s ≠ 7)
/-- The Hall state changes (R245): direction, stamps, and HALL_ILLEGAL. -/
def Dev.hallEdge (K : Memory) (a : AxisId) (s : BitVec 3) (fall : Bool) (x : Dev) : Dev :=
  let p := (x.ax a).port
  let te := x.stamp fall
  if !hallLegal s then
    (x.modPort a (fun p => { p with
      hall := s, hallRun := 0, fbCause := if K.elecPort a.val ∧ p.fbCause = 0 then 4 else p.fbCause })).fbEvent K a 5
  else if !hallLegal p.hall then x.modPort a (fun p => { p with hall := s, hallRun := 0, hallTe := te })
  else
    let on := (K.hallAng a.val s.toNat + 65536 - K.hallAng a.val p.hall.toNat) % 65536
    let dir : Int := if 8192 ≤ on ∧ on ≤ 13654 then 1 else -1
    x.modPort a (fun p => { p with
      hall := s, hallDir := dir, hallRun := if dir = p.hallDir then min (p.hallRun + 1) 3 else 1
      hallTs := te - p.hallTe, hallTe := te })
/-- The Hall angle at a period boundary, kept while the state is illegal (R245). (DEDUCED: log entry 43) -/
def Dev.hallAngle (K : Memory) (a : AxisId) (x : Dev) : Dev :=
  let p := (x.ax a).port
  if !hallLegal p.hall then x
  else
    let c : Int := K.hallAng a.val p.hall.toNat
    let part : Int := if p.hallTs = 0 then 10923 else min 10923 (rdivI (10923 * (x.tt - p.hallTe : Nat)) p.hallTs)
    let ang := if K.hallInterp a.val ∧ 2 ≤ p.hallRun ∧ p.hallTs ≤ K.hallMaxGap a.val * 1000000 then
        c - p.hallDir * 5461 + p.hallDir * part
      else c
    x.modPort a (fun p => { p with hallAng := unsx 16 ang })

/-! ### Writes that clear latched faults -/

/-- FLT_LATCHED (R230). (DEDUCED: log entry 58) -/
def Dev.clearFlt (K : Memory) (a : AxisId) (pinHigh : Bool) (x : Dev) : Dev :=
  let y := x.modPort a (fun p => { p with fltPin := pinHigh })
  if pinHigh && (x.ax a).port.fltLatched then
    (y.modPort a (fun p => { p with fltLatched := false })).endFault K 0x0207 (objAxis a.val)
  else y
/-- OC_LATCHED (R231). (DEDUCED: log entry 132) -/
def Dev.clearOc (K : Memory) (a : AxisId) (x : Dev) : Dev :=
  if (x.ax a).port.ocLatched ∧ x.overNow K a = false then
    (x.modPort a (fun p => { p with ocLatched := false })).endFault K 0x0208 (objAxis a.val)
  else x
/-- FB_LATCHED (R445): no feedback error period in the last FB_ERR_LIMIT periods of the port, or of the port an axis
follows. -/
def Dev.clearFb (K : Memory) (a : AxisId) (x : Dev) : Dev :=
  let quiet := fun (b : AxisId) => decide (K.fbErrLimit b.val ≤ (x.ax b).port.fbQuiet)
  if (x.ax a).port.fbLatched ∧ (K.followEn a.val = true → quiet (K.followPort a.val) = true) ∧
      (K.followEn a.val = false ∨ K.axKind a.val = 1 → quiet a = true) then
    (x.modPort a (fun p => { p with fbLatched := false })).endFault K 0x0209 (objAxis a.val)
  else x
/-- LIMIT_LATCHED (R152). -/
def Dev.clearLimit (K : Memory) (a : AxisId) (x : Dev) : Dev :=
  (x.modAx a (fun v => { v with limLatched := false, limPos := false, limNeg := false })).endFault K 0x0200 (objAxis a.val)
/-- LATE_LATCHED (R198). -/
def Dev.clearLate (K : Memory) (a : AxisId) (x : Dev) : Dev :=
  (x.modAx a (fun v => { v with
    eng := { v.eng with lateLatched := false }, port := { v.port with lateWait := 0 } })).endFault K 0x0203 (objAxis a.val)
/-- FE_LATCHED (R219). -/
def Dev.clearFe (K : Memory) (a : AxisId) (x : Dev) : Dev :=
  if (x.ax a).eng.feLatched then
    (x.modAx a (fun v => { v with eng := { v.eng with feLatched := false } })).endFault K 0x0201 (objAxis a.val)
  else x
/-- FOLLOW_RESUME (R167): following restarts from the present set-point. (DEDUCED: log entry 156; DESIGN CHOICE: log entry 173) -/
def Dev.followResume (K : Memory) (a : AxisId) (x : Dev) : Dev :=
  if (x.ax a).fol.out ∧ x.axisRank K a ≤ 2 ∧ K.followEn a.val = true then
    (x.onGen K a genFollow).modAx a (fun v => { v with
      fol := { v.fol with out := false, base := v.gen.x, remaining := 0, tsPrev := none } })
  else x
/-- MANUAL_STALE, once MAN_WDOG has passed without a refresh (R213, R214). -/
def Dev.manualStale (K : Memory) (a : AxisId) (x : Dev) : Dev :=
  let e := (x.ax a).eng
  if e.mode ≠ .auto ∧ e.forced = false ∧ e.manAt + 200000 * K.manWdog a.val ≤ x.time.cyc then
    ((x.fault K 0x0202 (objAxis a.val) 3 [] true).manDue K a)
  else x

end Sys2Proof.Machine
end

