-- ==== Sys2Proof/Machine/Launch.lean ====
section
/-! DEFINITION. Entry to the launch scheduler (R16, R47 to R52): its slots, and actions the device raises itself. -/

namespace Sys2Proof.Machine

/-- An action of a host descriptor. -/
def Src.isHost (s : Src) : Bool :=
  match s with
  | .host _ => true
  | _ => false
/-- A forwarded frame holds no slot (R52). -/
def Src.isRoute (s : Src) : Bool :=
  match s with
  | .route _ => true
  | _ => false
/-- Slots taken by actions a test picks: pending actions, and bus frames that have not completed on their channel (R52). -/
def Dev.slots (x : Dev) (p : Src → Bool) : Nat :=
  (x.sched.pend.filter (fun q => p q.hdr.src)).length +
  ((List.finRange 8).map (fun c => ((x.ch c).txq.filter (fun t => p t.hdr.src)).length)).sum
/-- A host slot is free (R52). -/
def Dev.hostRoom (x : Dev) (n : Nat) : Bool := decide (x.slots Src.isHost + n ≤ 1024)
/-- An internal slot is free (R52). -/
def Dev.ownRoom (x : Dev) : Bool := decide (x.slots (fun s => !Src.isHost s && !Src.isRoute s) < 256)

/-- The order of R18 among actions received in one cycle. What the device sends of itself, which R18 does not list, comes
last. (DESIGN CHOICE: log entry 18) -/
def Src.order (s : Src) : Nat :=
  match s with
  | .mirror _ => 0
  | .mapped c _ => 1 + c.val
  | .button _ | .sequencer => 9
  | .host n => 10 + n.val
  | .sync _ | .heartbeat | .service | .route _ => 58
/-- An action takes its place behind every earlier one and, within a cycle, in the order of R18. (DESIGN CHOICE: log entry 18) -/
def insertPend (p : Pend) (l : List Pend) : List Pend :=
  let ahead := fun (q : Pend) => decide (q.at' ≠ p.at' ∨ Src.order q.hdr.src ≤ Src.order p.hdr.src)
  l.takeWhile ahead ++ p :: l.dropWhile ahead
/-- An action enters the scheduler in its order of reception (R18). -/
def Dev.addPend (hdr : Hdr) (act : Act) (launch deadline : Nat) (held : Bool) (x : Dev) : Dev :=
  { x with sched := { x.sched with
    pend := insertPend { hdr := hdr, act := act, launch := launch, deadline := deadline, held := held, at' := x.time.cyc }
      x.sched.pend } }
/-- An internal action finds no free internal slot (R52). -/
def Dev.notScheduled (K : Memory) (x : Dev) : Dev :=
  let y := { x with sched := { x.sched with refused := satInc 32 x.sched.refused, fullRun := true } }
  if x.sched.fullRun then y else y.event K 0xF7 objDevice 1 0
/-- An action the device raises itself: scheduled where an internal slot is free (R52). The second part says whether it
was. -/
def Dev.schedOwn (K : Memory) (src : Src) (act : Act) (launch deadline : Nat) (x : Dev) : Dev × Bool :=
  if x.ownRoom then
    ((({ x with sched := { x.sched with fullRun := false } } : Dev).addPend (x.ownHdr src) act launch deadline false).newUid, true)
  else (x.notScheduled K, false)
/-- A deadline no launch reaches. -/
def noDeadline : Nat := 2 ^ 65
/-- The object LAUNCH_LATE names (R49). -/
def lateObject (h : Hdr) (a : Act) : Nat :=
  match h.src with
  | .host n => objAtoll n.val
  | .mapped _ _ | .button _ | .sequencer => (match a with
    | .door d _ => objDoor d.val
    | _ => objDevice)
  | .mirror _ => objDevice
  | .sync c => objChan c.val
  | .heartbeat | .service | .route _ => (match a with
    | .busTx c _ _ => objChan c.val
    | _ => objDevice)
/-- An open button or the close button is pressed: an on-fetch command with a deadline of 25 µs (R50, R68). -/
def Dev.button (K : Memory) (d : DoorId) (close : Bool) (x : Dev) : Dev :=
  let w := x.dw d
  if !x.isSealed || !K.dwEn d.val then x
  else if (if close then K.closeBtnEn d.val else w.btn && w.gate) then
    (x.schedOwn K (.button d) (.door d (if close then .close else .opening)) x.tt (x.tt + 25000)).1
  else x
/-- A frame the device sends of itself enters the scheduler for launch now (R37, R52, R403, R433). (DESIGN CHOICE: log entry 144) -/
def Dev.sendOwn (K : Memory) (src : Src) (c : ChanId) (f : CanFrame) (retry launch : Nat) (x : Dev) : Dev × Bool :=
  x.schedOwn K src (.busTx c f retry) launch noDeadline

end Sys2Proof.Machine
end

