-- ==== Sys2Proof/Machine/TrainTime.lean ====
section
/-! DEFINITION. Train time (R29 to R46, R53, R56): its states, sync pairs on both sides, the servo, steps and sets, holdover
and time anchors. Every function acts at the present instant. -/

namespace Sys2Proof.Machine

def Dev.modTime (f : TimeUnit → TimeUnit) (x : Dev) : Dev := { x with time := f x.time }
/-- The TIME source (R448). -/
def Dev.timeEvent (K : Memory) (cond : Nat) (x : Dev) : Dev := x.event K 0xED objDevice cond 0
/-- Follower channel of the given rank, false for primary (R35, R41). -/
def Memory.follower (K : Memory) (secondary : Bool) : Option ChanId :=
  (List.finRange 8).find? (fun c => K.timeRole c.val == 2 && K.chEn c.val && K.sourceRank c.val == secondary)
/-- Channel of the source in use: the follower of the rank in use, or the other one where only that is configured (R41). -/
def Dev.sourceOf (K : Memory) (x : Dev) : Option ChanId :=
  match K.follower x.time.secondary with
  | some c => some c
  | none => K.follower (!x.time.secondary)
/-- A TIME_ANCHOR is raised (R56, R57). (DEDUCED: log entry 15) -/
def Dev.anchor (K : Memory) (cause : Nat) (x : Dev) : Dev :=
  (x.record 0x0005 (cause * 256 + ((x.sourceOf K).map Fin.val).getD 255) [] none).modTime
    (fun t => { t with anchorOp := x.optime })
/-- The time state changes (R32, R448). (DEDUCED: log entry 15) -/
def Dev.setTimeState (K : Memory) (st : TtState) (x : Dev) : Dev :=
  if x.time.state = st then x
  else (x.modTime (fun t => { t with
    state := st, goodPairs := 0
    holdoverExpired := if st = .holdover then t.holdoverExpired else false
    holdoverAt := if st = .holdover then t.cyc else t.holdoverAt })).timeEvent K 1

/-! ### The servo and the step condition (R42, R43) -/

/-- Clamp of a rate. (DEDUCED: log entry 13) -/
def clampQ (lim v : Rat) : Rat := max (-lim) (min lim v)
/-- The servo's update on a valid pair with |e| < 1 ms (R42). (DEDUCED: log entries 13, 14) -/
def Dev.servo (K : Memory) (e : Int) (x : Dev) : Dev :=
  let tc : Rat := max 1 (K.servoTc : Nat)
  let lim : Rat := (1000 * K.slewLimit : Nat)
  x.modTime (fun t =>
    let f := clampQ 100000 (t.freq + (e : Rat) / tc / 4)
    { t with freq := f, rate := clampQ lim (f + (e : Rat) / tc) })
/-- State changes of a pair with |e| < 1 ms (R32). -/
def Dev.pairState (K : Memory) (e : Int) (x : Dev) : Dev :=
  match x.time.state with
  | .acquiring =>
    if e.natAbs < 500 then
      if 4 ≤ x.time.goodPairs + 1 then (x.setTimeState K .locked).anchor K 4
      else x.modTime (fun t => { t with goodPairs := t.goodPairs + 1 })
    else x.modTime (fun t => { t with goodPairs := 0 })
  | .locked => if 2000 ≤ e.natAbs then x.setTimeState K .acquiring else x
  | .holdover => (x.setTimeState K .acquiring).anchor K 6
  | _ => x
/-- A valid pair of the source in use outside UNSET (R42, R43). A step candidate and an outlier are pairs of 1 ms or more, or
stand beside one, and end the run of pairs under 500 ns. (DEDUCED: log entry 146) -/
def Dev.useOffset (K : Memory) (e : Int) (x : Dev) : Dev :=
  let outlier := fun (y : Dev) => y.modTime (fun t => { t with
    cand := none, stepPending := false, goodPairs := 0, syncOutlier := satInc 32 t.syncOutlier })
  match x.time.cand with
  | some c =>
    if 1000000 ≤ e.natAbs ∧ (e - c).natAbs ≤ 10000 then
      x.modTime (fun t => { t with cand := none, step := some e, firstSync := false, goodPairs := 0 })
    else outlier x
  | none =>
    if 1000000 ≤ e.natAbs then
      (x.modTime (fun t => { t with cand := some e, stepPending := true, goodPairs := 0 })).timeEvent K 2
    else (x.servo K e).pairState K e
/-- The source in use changes (R41). (DEDUCED: log entry 15) -/
def Dev.changeSource (K : Memory) (secondary : Bool) (c : ChanId) (x : Dev) : Dev :=
  let y := (x.modTime (fun t => { t with secondary := secondary, sourceCh := c, sourceChanged := true })).anchor K 7
  if x.time.sourceChanged then y else y.timeEvent K 3
/-- Cycles of `n` ns. -/
def nsCycles (n : Nat) : Nat := n / 5
/-- Channel `c` has delivered no valid pair for three of its sync intervals. -/
def Dev.silent (K : Memory) (x : Dev) (c : ChanId) : Bool :=
  decide ((x.ch c).pairAt + nsCycles (3 * K.syncInterval c.val) ≤ x.time.cyc)
/-- A primary source is configured and has delivered no valid pair for three of its sync intervals (R41). -/
def Dev.primarySilent (K : Memory) (x : Dev) : Bool :=
  match K.follower false with
  | some p => x.silent K p
  | none => false
/-- A complete sync pair reaches the time unit (R32, R39 to R43). The first pair after UNSET steps without confirmation, and the
servo takes its offset too where it is under 1 ms. A secondary's pair is the change of source where the primary is silent. (DEDUCED: log entry 14) -/
def Dev.syncPair (K : Memory) (c : ChanId) (x : Dev) : Dev :=
  match (x.ch c).ready with
  | none => x
  | some p =>
    let sec := K.sourceRank c.val
    let x1 := x.modCh c (fun v => { v with ready := none, pairAt := x.time.cyc })
    if K.timeRole c.val ≠ 2 ∨ K.chEn c.val = false then x1
    else if sec && (K.follower false).isSome && !x1.time.secondary && !x1.primarySilent K then x1
    else
      let x2 := if (K.follower false).isSome && (sec != x1.time.secondary) then x1.changeSource K sec c
        else x1.modTime (fun t => { t with sourceCh := c, secondary := sec })
      let x3 := x2.modTime (fun t => { t with
        offset := clampI (-2147483648) 2147483647 p.e, upstreamHoldover := p.holdover })
      let x4 := if p.holdover && !x2.time.upstreamHoldover then x3.timeEvent K 4 else x3
      match x4.time.state with
      | .unset =>
        (x4.when (decide (p.e.natAbs < 1000000)) (Dev.servo K p.e)).modTime (fun t => { t with step := some p.e, firstSync := true })
      | _ => x4.useOffset K p.e

/-! ### Steps and sets (R44, R53) -/

/-- An offset rounded to whole blocks of 200 µs, halves away from zero. (DESIGN CHOICE: log entry 148) -/
def stepAmount (e : Int) : Int := rdivI e 200000 * 200000
/-- The frame is a follow-up of a sync pair. -/
def isFollowUp (src : Src) (f : CanFrame) : Bool :=
  match src with
  | .sync _ => decide (f.data.getD 0 0 = 0x52)
  | _ => false
/-- Train time takes a new value: a follow-up that has not begun is not sent, and one in an attempt has its last (R38), and what
repeats with train time goes on from the new value (R54). -/
def Dev.setTime (tt frac : Nat) (x : Dev) : Dev :=
  let moved := decide (tt % 2 ^ 64 ≠ x.time.tt)
  let last := fun (q : TxFrame) => if isFollowUp q.hdr.src q.frame then { q with cancel := some (q.cancel.getD tt) } else q
  let y := (x.modTime (fun t => { t with tt := tt % 2 ^ 64, frac := frac })).each 8
    (fun c y => y.modCh c (fun v => { v with
      sentStep := v.sentStep || v.sent.isSome || v.att.isSome
      txq := (v.txq.filter (fun q => !isFollowUp q.hdr.src q.frame || decide (v.att = some q.hdr.uid))).map last
      syncAt := if moved then none else v.syncAt }))
  { y with
    sched := { y.sched with pend := y.sched.pend.filter (fun p => match p.act with
      | .busTx _ f _ => !isFollowUp p.hdr.src f
      | _ => true) }
    twin := { y.twin with hbAt := if moved then none else y.twin.hbAt } }
/-- A confirmed step or a host set is applied at this instant (R32, R44). A step that would take train time below 0 leaves it
at 0. A host set leaves the state SET, or UNSET, as R32 has it while no follower source is configured, wherever the time unit
stood when the follower role was taken away; a step confirmed before that leaves the state as it is. (DEDUCED: log entries 17, 147; DESIGN CHOICE: log entry 148) -/
def Dev.timeStep (K : Memory) (x : Dev) : Dev :=
  match x.time.setReq, x.time.step with
  | some r, _ =>
    let v := r.value / 200000 * 200000
    let y := (((x.modTime (fun t => { t with setReq := none })).setTime v 0).setTimeState K
      (if K.followerConfigured then x.time.state else .set)).anchor K 1
    y.over r.hdrs (fun h z => z.completeTt h stOK false v)
  | none, some e =>
    let y := (x.modTime (fun t => { t with step := none, stepPending := false, firstSync := false })).setTime
      ((x.time.tt + stepAmount e).toNat) x.time.frac
    let z := if K.followerConfigured = false ∨ (x.time.firstSync = false ∧ x.time.state = .set) then y
      else y.setTimeState K .acquiring
    if x.time.firstSync then z.anchor K 2
    else (z.modTime (fun t => { t with goodPairs := 0 })).anchor K 3
  | none, none => x
/-- A host set is asked for: refused while a follower source is configured (R33). (DEDUCED: log entry 17) -/
def Dev.askSet (K : Memory) (v : Nat) (hdr : Option Hdr) (x : Dev) : Dev :=
  if K.followerConfigured then
    match hdr with
    | some h => x.complete h stState
    | none => x.modTime (fun t => { t with setRefused := true })
  else
    x.modTime (fun t => { t with setReq := some ⟨v, (t.setReq.map SetReq.hdrs).getD [] ++ hdr.toList⟩ })

/-! ### Holdover, source change and anchors (R32, R41, R45, R56) -/

/-- HOLDOVER is entered, which needs a configured follower source (R32). -/
def Dev.holdover (K : Memory) (x : Dev) : Dev :=
  let srcs := (List.finRange 8).filter (fun c => K.timeRole c.val == 2 && K.chEn c.val)
  if K.followerConfigured = true ∧ (x.time.state = .acquiring ∨ x.time.state = .locked) ∧ srcs.all (fun c => x.silent K c) = true then
    ((x.setTimeState K .holdover).modTime (fun t => { t with rate := t.freq })).anchor K 5
  else x
/-- The secondary source takes over from a silent primary (R41). -/
def Dev.sourceChange (K : Memory) (x : Dev) : Dev :=
  match K.follower false, K.follower true with
  | some p, some s =>
    if !x.time.secondary && x.silent K p && !(x.silent K s) then x.changeSource K true s else x
  | _, _ => x
/-- The holdover limit is reached (R45). -/
def Dev.syncHoldover (K : Memory) (x : Dev) : Dev :=
  if x.time.state = .holdover ∧ x.time.holdoverExpired = false ∧
      x.time.holdoverAt + 200000000 * max 1 K.holdoverLim ≤ x.time.cyc then
    (x.modTime (fun t => { t with holdoverExpired := true })).faultSet K 0x0003 objDevice (leBytes 1 x.time.sourceCh.val)
  else x
/-- The anchor interval has elapsed without an anchor (R56). (DEDUCED: log entry 134) -/
def Dev.periodicAnchor (K : Memory) (x : Dev) : Dev :=
  if x.time.anchorOp + 60000000 * max 1 K.anchorInt ≤ x.optime then x.anchor K 8 else x

/-! ### Sync frames (R36 to R40) -/

/-- Twin bit position of an identifier on a channel (R392). -/
def Memory.twinPos (K : Memory) (c : Nat) (ide : Bool) : Nat := if ide then K.twinBitE c else K.twinBitB c
/-- An identifier with its twin bit cleared (R367). -/
def Memory.noTwin (K : Memory) (c : Nat) (ide : Bool) (id : Nat) : Nat := id &&& (2 ^ 29 - 1 - 2 ^ K.twinPos c ide)
/-- The twin bit of an identifier. -/
def Memory.twinBit (K : Memory) (c : Nat) (ide : Bool) (id : Nat) : Bool := id.testBit (K.twinPos c ide)
/-- A data frame the device makes of itself. -/
def ownFrame (fmt : Fmt) (ide : Bool) (id : Nat) (data : List Byte) : CanFrame :=
  { ident := BitVec.ofNat 29 id, ide := ide, rtr := false, fmt := fmt, brs := false, esi := false, sec := false,
    af := 0, sdt := 0, vcid := 0, data := data }
/-- A master channel of a sealed device whose train time is set (R37, R38). -/
def Dev.isMaster (K : Memory) (x : Dev) (c : ChanId) : Bool :=
  x.isSealed && K.timeRole c.val == 1 && K.chEn c.val && decide (x.time.state ≠ .unset)
/-- A master channel that begins sync pairs (R37, R38, R313). -/
def Dev.mayMaster (K : Memory) (x : Dev) (c : ChanId) : Bool := x.isMaster K c && (x.ch c).run
/-- The sync frame of the interval that begins now enters the scheduler (R37). Its bytes 4 to 7 are filled at its
release. (DEDUCED: log entry 16) -/
def Dev.syncSend (K : Memory) (c : ChanId) (x : Dev) : Dev :=
  if !x.mayMaster K c ∨ x.atMultiple (K.syncInterval c.val) = false ∨ (x.ch c).syncAt = some (x.multiple (K.syncInterval c.val)) then x
  else
    let seq := (x.ch c).syncSeq
    let y := x.modCh c (fun v => { v with syncAt := some (x.multiple (K.syncInterval c.val)), syncSeq := wrapInc 8 seq, sent := none, sentStep := false })
    (y.sendOwn K (.sync c) c
      (ownFrame (K.syncFmt c.val) (K.syncIde c.val) (K.syncId c.val)
        ([0x51, BitVec.ofNat 8 seq, BitVec.ofNat 8 (16 * K.domain c.val), 0] ++ beBytes 4 (x.tt / 2 ^ 32))) 0
      (x.multiple (K.syncInterval c.val))).1
/-- The follow-up of the sync frame sent (R37, R38). (DEDUCED: log entry 16) -/
def Dev.followUp (K : Memory) (c : ChanId) (x : Dev) : Dev :=
  match (x.ch c).sent with
  | none => x
  | some s =>
    let y := x.modCh c (fun v => { v with sent := none, sentStep := false })
    if (x.ch c).sentStep || !x.isMaster K c then y
    else
      let carry := if s.hi < s.stamp / 2 ^ 32 then 1 else 0
      let ho := if x.time.state = .holdover then 2 else 0
      (y.sendOwn K (.sync c) c
        (ownFrame (K.syncFmt c.val) (K.syncIde c.val) (K.syncId c.val)
          ([0x52, BitVec.ofNat 8 s.seq, BitVec.ofNat 8 (16 * K.domain c.val + ho + carry), 0] ++
            beBytes 4 (s.stamp % 2 ^ 32))) 255 x.tt).1
/-- The frames of the twin of bit `b` have come to sequence `seq`: the pairs of the other twin that it has gone past cannot meet its
own of the same number any more (R40). -/
def Chan.pairPass (b : Bool) (seq : Nat) (v : Chan) : Chan :=
  let past := fun (l : List Nat) => l.filter (fun s => decide (s = seq ∨ 128 ≤ (seq + 256 - s) % 256))
  if b then { v with skip1 := past v.skip1 } else { v with skip0 := past v.skip0 }
/-- A pair of sequence `seq` from the twin of bit `b` is used: the other twin's pair of it is discarded when it comes, unless that
comes more than 128 sequence numbers later (R40). -/
def Chan.pairDone (b : Bool) (seq : Nat) (v : Chan) : Chan :=
  let add := fun (l : List Nat) => seq :: l.filter (fun s => decide (s ≠ seq ∧ (seq + 256 - s) % 256 < 128))
  if b then { v with done1 := some seq, skip0 := add v.skip0 } else { v with done0 := some seq, skip1 := add v.skip1 }
/-- A pair of sequence `seq` from the twin of bit `b` has been used already. -/
def Chan.pairUsed (b : Bool) (seq : Nat) (v : Chan) : Bool :=
  if b then decide (v.done1 = some seq) || v.skip1.contains seq else decide (v.done0 = some seq) || v.skip0.contains seq
/-- A frame of a follower channel with SYNC_ID (R39, R40). A frame that no sync or follow-up frame can be, for its length, its
type byte or as a remote frame, is counted with those discarded. (DEDUCED: log entry 145) -/
def Dev.syncReceive (K : Memory) (c : ChanId) (f : CanFrame) (sof : Nat) (x0 : Dev) : Dev :=
  let twin := K.twinBit c.val f.ide f.ident.toNat
  let discard := fun (n : Nat) (y : Dev) => y.modTime (fun t => { t with syncDiscards := min (t.syncDiscards + n) (2 ^ 32 - 1) })
  let seq := (f.data.getD 1 0).toNat
  let b2 := (f.data.getD 2 0).toNat
  let formed := !f.rtr && decide (f.data.length = 8 ∧ b2 / 16 = K.domain c.val) && (f.data.getD 0 0 == 0x51 || f.data.getD 0 0 == 0x52)
  let x := x0.when formed (Dev.modCh c (Chan.pairPass twin seq))
  let v := x.ch c
  let half := if twin then v.half1 else v.half0
  let put := fun (h : Option SyncHalf) (y : Dev) =>
    y.modCh c (fun v => if twin then { v with half1 := h } else { v with half0 := h })
  let pending := if half.isSome then 1 else 0
  if !formed then discard 1 x
  else if f.data.getD 0 0 = 0x51 then
    if v.pairUsed twin seq then discard 1 x
    else put (some ⟨seq, beNat (slice f.data 4 4), sof⟩) (discard pending x)
  else
    match half with
    | none => discard 1 x
    | some s =>
      if s.seq ≠ seq then discard 1 x
      else if v.pairUsed twin seq then put none (discard 2 x)
      else if s.stamp + 10000000 ≤ x.tt then put none (discard 2 x)
      else
        let e : Int := ((s.hi + b2 % 2) * 2 ^ 32 + beNat (slice f.data 4 4) + K.syncDelay c.val : Nat) - (s.stamp : Nat)
        (put none x).modCh c (fun v => { v.pairDone twin seq with ready := some ⟨e, b2.testBit 1⟩ })
/-- The identifier of a frame is the channel's SYNC_ID (R39, R40). -/
def Memory.isSync (K : Memory) (c : ChanId) (f : CanFrame) : Bool :=
  K.timeRole c.val == 2 && K.chEn c.val && (f.ide == K.syncIde c.val) &&
  decide (K.noTwin c.val f.ide f.ident.toNat = K.noTwin c.val f.ide (K.syncId c.val))

end Sys2Proof.Machine
end

