-- ==== Sys2Proof/Machine/FieldIo.lean ====
section
/-! DEFINITION. Field and safety inputs and outputs (R247 to R264, R304, R417): sampling and filters, readback, diagnoses,
supplies and the field output actions. Every function acts at the present instant. -/

namespace Sys2Proof.Machine

/-! ### Sample instants -/

/-- The next instant of train time at a phase of a period, not before a cycle and not before now. -/
def Dev.nextInstant (x : Dev) (phase period minCyc : Nat) : Nat :=
  let q := (x.tt + period - phase) / period
  let t0 := if 0 < q ∧ x.time.full - ((q - 1) * period + phase) * 4294967296 < x.time.inc then (q - 1) * period + phase
    else q * period + phase
  if x.time.cyc + x.cyclesTo t0 < minCyc then t0 + period else t0
/-- The sample instant of input group `g` (R247, R248): 500 µs or more after its previous sample. -/
def Dev.groupInstant (K : Memory) (x : Dev) (g : Fin 8) : Nat :=
  x.nextInstant (10000 * K.grpPhase g.val) 1000000 (((x.grp g).sampled.map (· + 100000)).getD 0)
/-- The sample instant of the safety inputs. -/
def Dev.safeInstant (K : Memory) (x : Dev) : Nat :=
  x.nextInstant (10000 * K.safePhase) 1000000 ((x.fio.safeSampled.map (· + 100000)).getD 0)

/-- The current in µA that an input of a group sinks: the wetting pulse in the 50 µs before its sample instant, the steady current
otherwise (R247). -/
def Dev.wettingAt (x : Dev) (instant : Nat) : Nat := if instant ≤ x.tt + 50000 then 10000 else 500
/-- Input current of every input of group `g`. -/
def Dev.wetting (K : Memory) (x : Dev) (g : Fin 8) : Nat := x.wettingAt (x.groupInstant K g)
/-- Input current of every safety input (R261). -/
def Dev.safeWetting (K : Memory) (x : Dev) : Nat := x.wettingAt (x.safeInstant K)

/-! ### Comparators (R249) -/

/-- Falling threshold of a comparator in mV, above 5 V. -/
def fallAt (i : Nat) : Nat := 5001 + Config.fallPick i % 5998
/-- Rising threshold of a comparator in mV, above the falling one and below 11 V. -/
def riseAt (i : Nat) : Nat := fallAt i + 1 + Config.risePick i % (10999 - fallAt i)
/-- Level of comparator `i` once its pin has gone through some voltages, from the level before: that of the last threshold crossed. (DESIGN CHOICE: log entry 187) -/
def comparator (i : Nat) (path : List Nat) (old : Bool) : Bool :=
  path.foldl (fun l v => if riseAt i ≤ v then true else if v ≤ fallAt i then false else l) old
/-- Level of comparator `i`: from the voltages the command brings for its pin, the `k`-th, else as the command gives it. (DESIGN CHOICE: log entry 187) -/
def levelOf (i k : Nat) (volts : List (List Nat)) (given old : Bool) : Bool :=
  match volts[k]? with
  | some (v :: r) => comparator i (v :: r) old
  | _ => given

/-! ### Filters (R250 to R252) -/

/-- The counter after a sample. -/
def filterStep (ceil : Nat) (raw : Bool) (c : Nat) : Nat := if raw then min ceil (c + 1) else min ceil c - 1
/-- The filtered level of a counter (R250). -/
def filterLevel (ceil c : Nat) (old : Bool) : Bool := if c = 0 then false else if c = ceil then true else old
/-- One sample of an input, with the positions of the axes at it; `raw` is none where the two paths of a safety input
disagree, which leaves the counter unchanged (R261). -/
def InPin.sample (ceil tt : Nat) (pos : List Int) (raw : Option Bool) (p : InPin) : InPin :=
  let c := match raw with
    | some r => filterStep ceil r p.cnt
    | none => min ceil p.cnt
  let taken := if p.unknown then p.taken + 1 else p.taken
  let unknown := p.unknown && decide (taken < ceil)
  let lvl := !unknown && filterLevel ceil c p.lvl
  let r := raw.getD p.raw
  let first : Option Nat × List Int := match p.firstRaw with
    | some t => (some t, p.firstPos)
    | none => if raw = some (!p.lvl) then (some tt, pos) else (none, [])
  if lvl = p.lvl then
    { p with cnt := c, taken := taken, unknown := unknown, raw := r, firstRaw := first.1, firstPos := first.2 }
  else
    { p with
      cnt := c, taken := taken, unknown := unknown, raw := r, lvl := lvl, stamp := tt, latch := first.1.getD tt
      latchPos := if first.1.isSome then first.2 else pos, firstRaw := none, firstPos := [] }
/-- An input enters UNKNOWN for supply loss (R251, R259). (DEDUCED: log entry 49) -/
def InPin.lose (tt : Nat) (pos : List Int) (p : InPin) : InPin :=
  { p with
    latch := if p.lvl then p.firstRaw.getD tt else p.latch
    latchPos := if !p.lvl then p.latchPos else if p.firstRaw.isSome then p.firstPos else pos
    cnt := 0, taken := 0, unknown := true, lvl := false, firstRaw := none, firstPos := []
    stamp := if p.lvl then tt else p.stamp }
/-- An edge selection of R253: 1 RISE, 2 FALL, 3 BOTH. -/
def edgeSelected (sel : Nat) (lvl : Bool) : Bool := if lvl then sel.testBit 0 else sel.testBit 1
/-- The event of a changed filtered level of a field input (R252). (DEDUCED: log entry 49) -/
def Dev.inEdge (K : Memory) (i : InId) (old : Bool) (x : Dev) : Dev :=
  let lvl := (x.inPin i).lvl
  if lvl ≠ old ∧ edgeSelected (K.inEdge i.val) lvl = true then
    x.event K i.val (objIn i.val) 1 (if lvl then 1 else 0)
  else x
/-- The filtered level a safety input reports (R262). -/
def SafeIn.level (s : SafeIn) : Bool := s.pin.lvl && !s.diag
/-- The event of a changed safety input. -/
def Dev.sinEdge (K : Memory) (j : Fin 8) (old : Bool) (x : Dev) : Dev :=
  let lvl := (x.sin j).level
  if lvl ≠ old ∧ edgeSelected (K.sinEdge j.val) lvl = true then
    x.event K (0x40 + j.val) (objSin j.val) 1 (if lvl then 1 else 0)
  else x
/-- The edges of the local buttons of a doorway (R68). (DEDUCED: log entry 49) -/
def Dev.buttonEdges (K : Memory) (d : DoorId) (x : Dev) : Dev :=
  let w := x.dw d
  let i := x.role K d 0
  let o := x.role K d 1
  let c := x.role K d 2
  let y := x.modDw d (fun w => { w with btnI := i, btnO := o, btnC := c })
  let y1 := if i && !w.btnI then y.button K d false else y
  let y2 := if o && !w.btnO then y1.button K d false else y1
  if c && !w.btnC then y2.button K d true else y2

/-! ### Samples -/

/-- Input `k` of a group. -/
def inOf (g : Fin 8) (k : Fin 8) : InId := ⟨8 * g.val + k.val, by omega⟩
/-- The position of every axis without its offset, so that a shift of its frame leaves it alone (R154, R155). -/
def Dev.axPositions (K : Memory) (x : Dev) : List Int :=
  (List.finRange 24).map (fun a => x.axPos K a - (x.ax a).posOff)
/-- One sample of an input group (R247, R250, R259). -/
def Dev.inputSample (K : Memory) (g : Fin 8) (raw : BitVec 8) (volts : List (List Nat)) (x : Dev) : Dev :=
  let y := x.modGrp g (fun v => { v with sampled := some x.time.cyc })
  let z := y.each 8 (fun k v =>
    let i := inOf g k
    let p := v.inPin i
    let r := levelOf i.val k.val volts (raw.getLsbD k.val) p.raw
    if (x.grp g).loss then v.modIn i (fun p => { p with raw := r })
    else (v.modIn i (InPin.sample (max 1 (K.inCeil i.val)) x.tt (x.axPositions K) (some r))).inEdge K i p.lvl)
  z.each 8 (fun d v => v.buttonEdges K d)
/-- One sample of the safety inputs on both comparator paths (R261, R262). (DEDUCED: log entry 50) -/
def Dev.safeInputSample (K : Memory) (rawA rawB : BitVec 8) (volts : List (List Nat)) (x : Dev) : Dev :=
  let y := { x with fio := { x.fio with safeSampled := some x.time.cyc } }
  y.each 8 (fun j v =>
    let old := v.sin j
    let a := levelOf (64 + 2 * j.val) j.val volts (rawA.getLsbD j.val) old.lvlA
    let b := levelOf (65 + 2 * j.val) j.val volts (rawB.getLsbD j.val) old.lvlB
    let same := a == b
    let agree := if same then min 3 (old.agree + 1) else 0
    (v.modSin j (fun s => { s with
      pin := s.pin.sample (max 1 (K.sinCeil j.val)) x.tt [] (if same then some a else none)
      differ := if same then 0 else min 3 (s.differ + 1), lvlA := a, lvlB := b
      agree := agree, diag := s.diag && decide (agree < 3) })).sinEdge K j old.level)
/-- SIN_DIAG of a safety input whose paths have disagreed in three samples (R262). -/
def Dev.sinDiag (K : Memory) (j : Fin 8) (x : Dev) : Dev :=
  let s := x.sin j
  if 3 ≤ s.differ ∧ s.diag = false then
    ((x.modSin j (fun s => { s with diag := true })).faultSet K 0x0101 objDevice (leBytes 1 j.val)).sinEdge K j s.level
  else x

/-! ### Readback (R256, R260, R264) -/

/-- Cycle of the next readback, and of the next measurement of a supply: 100 µs after the one before. (DEDUCED: log entry 56) -/
def nextAt (prev : Option Nat) (now : Nat) : Nat :=
  match prev with
  | some c => max now (c + 20000)
  | none => now
/-- A condition that must hold for a time: the cycle since which it holds. -/
def since (cond : Bool) (now : Nat) (old : Option Nat) : Option Nat :=
  if cond then (match old with
    | some c => some c
    | none => some now)
  else none
/-- The disagreement timer after one comparison. (DEDUCED: log entries 51, 52, 54) -/
def OutPin.compare (now blank : Nat) (masked : Bool) (lvl : Bool) (p : OutPin) : OutPin :=
  let q := { p with readback := lvl }
  let quiet := decide (p.lastDis + 800000 ≤ now)
  let base := if quiet then { q with timer := 0, noOutput := false, backFed := false, reported := false } else q
  if masked || decide (now < p.changed + blank) then q
  else if lvl = p.cmd then base
  else { base with timer := min 2000 (base.timer + 100), lastDis := now }
/-- The load current of an output at one readback, for OPEN_LOAD. (DEDUCED: log entry 53) -/
def OutPin.load (olEn holding : Bool) (now : Nat) (masked low : Bool) (p : OutPin) : OutPin :=
  let unblanked := !masked && decide (p.changed + 200000 ≤ now)
  let q := if unblanked && (!olEn || (p.cmd && !low)) then { p with openLoad := false } else p
  if !olEn || !p.cmd || !holding then { q with lowLoad := 0 }
  else if !unblanked then q
  else if low then { q with lowLoad := min 50000 (q.lowLoad + 100) }
  else { q with lowLoad := 0 }
/-- Level the readback comparator of a field output shows (R249, R256). (DESIGN CHOICE: log entry 187) -/
def fieldLevel (l : ReadbackLevels) (o : OutId) (old : Bool) : Bool :=
  levelOf (80 + o.val) o.val l.volts (l.field.getLsbD o.val) old
/-- Level the readback comparator of a safety output shows (R249, R264). (DESIGN CHOICE: log entry 187) -/
def safetyLevel (l : ReadbackLevels) (j : Fin 4) (old : Bool) : Bool :=
  levelOf (112 + j.val) (32 + j.val) l.volts (l.safety.getLsbD j.val) old
/-- Every output is read back once. (DEDUCED: log entry 56) -/
def Dev.outputReadback (K : Memory) (l : ReadbackLevels) (x : Dev) : Dev :=
  let now := x.time.cyc
  let y := { x with fio := { x.fio with readAt := some now } }
  let z := y.each 32 (fun o v => v.modOut o (fun p =>
    let g : Fin 8 := ⟨o.val / 4, by omega⟩
    let r := fieldLevel l o p.readback
    let lim := since (l.inLimit.getLsbD o.val && p.cmd && x.holding && !p.overload) now p.limitAt
    if p.overload then
      { p with
        readback := r, limitAt := lim, timer := 0, noOutput := false, backFed := false
        reported := false }
    else
      ({ p with limitAt := lim }.compare now 200000 (x.grp g).sag r).load (K.olEn o.val) x.holding now
        (x.grp g).sag (l.lowLoad.getLsbD o.val)))
  z.each 4 (fun j v => v.modSout j (fun p => p.compare now 20000 false (safetyLevel l j p.readback)))
/-- NO_OUTPUT or BACKFED of an output whose timer has reached 2 ms on a unit that holds the Summit. (DEDUCED: log entry 52) -/
def Dev.outputDisagreement (K : Memory) (o : OutId) (x : Dev) : Dev :=
  let p := x.outPin o
  if x.holding = false ∨ p.timer < 2000 ∨ p.reported = true ∨ (p.readback == p.cmd) = true ∨ p.overload = true ∨
    (p.cmd && p.limitAt.isSome) = true then x
  else if p.cmd then
    (x.modOut o (fun p => { p with reported := true, noOutput := true })).faultSet K 0x0106 (objOut o.val) []
  else (x.modOut o (fun p => { p with reported := true, backFed := true })).faultSet K 0x0107 (objOut o.val) []
/-- LOOP_READBACK of a safety output (R87). -/
def Dev.loopReadback (K : Memory) (j : Fin 4) (x : Dev) : Dev :=
  let p := x.sout j
  let s : Fin 2 := ⟨j.val / 2, by omega⟩
  if x.holding = false ∨ p.timer < 2000 ∨ p.reported = true ∨ (p.readback == p.cmd) = true then x
  else
    let y := (x.modSout j (fun p => { p with reported := true })).faultSet K 0x0102 (objSout j.val)
      (leBytes 1 (if p.readback then 1 else 0))
    ({ y with gate := { y.gate with loopFault := y.gate.loopFault.set s.val true s.isLt } } : Dev).loopSide K s
/-- TWIN_XCHECK of an output on a unit that does not hold the Summit (R260, R417). -/
def Dev.twinXcheck (K : Memory) (o : Fin 36) (x : Dev) : Dev :=
  let p := x.anyOut o
  if x.holding = true ∨ p.timer < 2000 ∨ p.reported = true then x
  else
    let y := x.modAnyOut o (fun p => { p with reported := true })
    let t := y.twin
    let t' := if o.val < 32 then { t with xMask := t.xMask ||| (1 <<< o.val) }
      else { t with xSafe := t.xSafe ||| (1 <<< (o.val - 32)) }
    ({ y with twin := { t' with xCnt := satInc 32 t.xCnt } } : Dev).event K 0xEB (objAnyOut o) 2 0
/-- OPEN_LOAD of an output. (DEDUCED: log entry 53) -/
def Dev.openLoad (K : Memory) (o : OutId) (x : Dev) : Dev :=
  let p := x.outPin o
  if x.holding = true ∧ K.olEn o.val = true ∧ p.cmd = true ∧ 50000 ≤ p.lowLoad ∧ p.openLoad = false then
    (x.modOut o (fun p => { p with openLoad := true })).faultSet K 0x0108 (objOut o.val) []
  else x
/-- An output that is on has been in current limit for OVL_TIME; a safety output switches off at once (R255, R263). (DEDUCED: log entry 136) -/
def Dev.limitOver (K : Memory) (x : Dev) (o : Fin 36) : Bool :=
  decide (32 ≤ o.val) || (match (x.anyOut o).limitAt with
    | some c => decide (c + 200000 * K.ovlTime o.val ≤ x.time.cyc)
    | none => false)
/-- OVERLOAD of an output that is on (R255, R263). (DEDUCED: log entry 136) -/
def Dev.overload (K : Memory) (o : Fin 36) (thermal : Bool) (x : Dev) : Dev :=
  let p := x.anyOut o
  if x.holding = false ∨ p.cmd = false ∨ p.overload = true ∨ (thermal || x.limitOver K o) = false then x
  else
    let off := fun (p : OutPin) =>
      if o.val < 32 then
        { p with overload := true, limitAt := none, timer := 0, noOutput := false, backFed := false, reported := false }
      else { p with overload := true }
    (x.modAnyOut o off).faultSet K 0x0105 (objAnyOut o)
      (leBytes 1 (if thermal then 2 else 1))
/-- Switched on at its pin (R24, R254, R255). -/
def Dev.outOn (x : Dev) (o : Fin 36) : Bool :=
  x.isSealed && x.holding && (x.anyOut o).cmd && !(x.anyOut o).overload
/-- OUT_FLT_LATCHED (R255): the output returns to its command. -/
def Dev.clearOverload (mask : Word) (x : Dev) : Dev :=
  x.each 32 (fun o y =>
    if mask.getLsbD o.val && (y.outPin o).overload then
      y.modOut o (fun p => { p with overload := false, changed := x.time.cyc })
    else y)
/-- LOOP_FAULT_CLR of one side (R87, R263). (DEDUCED: log entry 57) -/
def Dev.loopFaultClr (s : Fin 2) (x : Dev) : Dev :=
  let a : Fin 4 := ⟨2 * s.val, by omega⟩
  let b : Fin 4 := ⟨2 * s.val + 1, by omega⟩
  let pin := fun (j : Fin 4) => (x.sout j).cmd || (x.sout j).readback
  if (x.gate.loopFault.get s && !pin a && !pin b) then
    let clr := fun (p : OutPin) => { p with overload := false, reported := false }
    let y := (x.modSout a clr).modSout b clr
    { y with gate := { y.gate with loopFault := y.gate.loopFault.set s.val false s.isLt } }
  else x

/-! ### Supplies (R257 to R259) -/

/-- VFSg in the byte of a FAULT record, saturating. (DEDUCED: log entry 55) -/
def dvByte (dv : Nat) : List Byte := leBytes 1 (min 255 dv)
/-- One measurement of VFSg in 0.1 V. -/
def Dev.supplyMeasurement (K : Memory) (g : Fin 8) (dv : Nat) (x : Dev) : Dev :=
  let now := x.time.cyc
  let v := x.grp g
  let thr := K.sagThr g.val
  let enter := !v.sag && decide (dv < thr)
  let y := x.modGrp g (fun v => { v with
    vfs := dv, measAt := some now, sag := v.sag || enter
    sagOkAt := since ((v.sag || enter) && decide (thr + 5 ≤ dv)) now v.sagOkAt
    lowAt := since (!v.loss && decide (dv < 90)) now v.lowAt
    lossOkAt := since (v.loss && decide (95 ≤ dv)) now v.lossOkAt })
  if enter then y.faultSet K 0x0103 (objGroup g.val) (dvByte dv) else y
/-- A condition has held for SUP_FILT. -/
def Memory.filtered (K : Memory) (g : Fin 8) (now : Nat) (at' : Option Nat) : Bool :=
  match at' with
  | some c => decide (c + 200000 * K.supFilt g.val ≤ now)
  | none => false
/-- SUP_LOSS of a group (R257, R259). -/
def Dev.supLoss (K : Memory) (g : Fin 8) (x : Dev) : Dev :=
  let v := x.grp g
  if !v.loss && K.filtered g x.time.cyc v.lowAt then
    let y := x.modGrp g (fun v => { v with loss := true, lowAt := none, lossOkAt := none })
    let z := y.each 8 (fun k w =>
      let i := inOf g k
      let old := (w.inPin i).lvl
      (w.modIn i (InPin.lose x.tt (x.axPositions K))).inEdge K i old)
    (z.faultSet K 0x0104 (objGroup g.val) (dvByte v.vfs)).each 8 (fun d w => w.buttonEdges K d)
  else x
/-- SUP_OK: loss or sag of a group ends (R257). -/
def Dev.supOk (K : Memory) (g : Fin 8) (loss : Bool) (x : Dev) : Dev :=
  let v := x.grp g
  if loss then
    if v.loss && K.filtered g x.time.cyc v.lossOkAt then
      (x.modGrp g (fun v => { v with loss := false, lossOkAt := none })).event K 0xEE (objGroup g.val) 1 0
    else x
  else if v.sag && K.filtered g x.time.cyc v.sagOkAt then
    (x.modGrp g (fun v => { v with sag := false, sagOkAt := none })).event K 0xEE (objGroup g.val) 1 0
  else x

/-! ### Field output actions (R254, R304) -/

/-- A free output takes a command. -/
def Dev.setFree (o : OutId) (b : Bool) (x : Dev) : Dev :=
  let y := x.setOut o b
  { y with fio := { y.fio with
    freeCmd := if b then y.fio.freeCmd ||| (1 <<< o.val) else y.fio.freeCmd &&& ~~~((1 : Word) <<< o.val) } }
/-- OUT_SET. -/
def Dev.effOutSet (K : Memory) (h : Hdr) (o : OutId) (lvl : Bool) (x : Dev) : Dev :=
  if K.outRole o then x.complete h stState else (x.setFree o lvl).complete h stOK
/-- OUT_MASK. -/
def Dev.effOutMask (K : Memory) (h : Hdr) (mask lvl : Word) (x : Dev) : Dev :=
  if (List.finRange 32).any (fun (o : OutId) => mask.getLsbD o.val && K.outRole o) then x.complete h stState
  else
    (x.each 32 (fun o y => if mask.getLsbD o.val then y.setFree o (lvl.getLsbD o.val) else y)).complete h stOK

end Sys2Proof.Machine
end

