-- ==== Sys2Proof/Machine/Atolls.lean ====
section
/-! DEFINITION. Atolls (R271 to R298, R317, R321 to R333): Beacons, translation, the fetch and acceptance of native and
version-1 descriptors, completions, write-backs and interrupt moderation. -/

namespace Sys2Proof.Machine

/-! ### Indices (R273, R275, R282) -/

/-- Entries a command Atoll has available, or a device-written Atoll has written and not freed. -/
def Dev.availCount (x : Dev) (n : AtollId) : Nat := ((x.atl n).beacon - (x.atl n).dev).toNat
def Dev.unfreed (x : Dev) (n : AtollId) : Nat := ((x.atl n).dev - (x.atl n).beacon).toNat
/-- A command Atoll of either type. -/
def Memory.isCommand (K : Memory) (n : AtollId) : Bool := decide (K.atlType n.val = 1 ∨ K.atlType n.val = 4)
/-- A completion or capture Atoll. -/
def Memory.isWritten (K : Memory) (n : AtollId) : Bool := decide (K.atlType n.val = 2 ∨ K.atlType n.val = 3)
/-- The completion Atoll of a command Atoll, where its ATL_CQ names one (R272). -/
def Memory.cqOf (K : Memory) (n : AtollId) : Option AtollId :=
  match finOf 48 (K.atlCq n.val) with
  | some c => if K.atlType c.val = 2 then some c else none
  | none => none
/-- State IDLE or RUNNING of an Atoll that is not halted or stalled (R282). (DEDUCED: log entries 60, 69) -/
def Dev.settleAtl (K : Memory) (n : AtollId) (x : Dev) : Dev :=
  match (x.atl n).st with
  | .idle | .running =>
    if K.atlType n.val = 0 then x.setAtl K n .disabled .none
    else if K.isCommand n && decide (x.availCount n ≠ 0) && (K.cqOf n).isSome && (x.atl n).headOk then
      x.setAtl K n .running .none
    else x.setAtl K n .idle .none
  | _ => x
/-- Announcement of the entries of a device-written Atoll (R293). -/
def Dev.announce (K : Memory) (n : AtollId) (x : Dev) : Dev :=
  (x.modAtl n (fun a => { a with unann := 0 })).signalAtl K n

/-! ### Beacons (R273, R274, R280, R284) -/

/-- A halted Atoll resumes in state RUNNING; a command Atoll with nothing to fetch is IDLE at once (R282, R284). -/
def Dev.resumeAtl (K : Memory) (n : AtollId) (x : Dev) : Dev :=
  let y := x.setAtl K n .running .none
  if K.isCommand n then y.settleAtl K n else y
/-- A Beacon write reaches an Atoll. A stalled one reads its slot again (R280). -/
def Dev.beaconWrite (K : Memory) (n : AtollId) (v : BitVec 16) (x : Dev) : Dev :=
  let a := x.atl n
  let cnt := if K.isCommand n then (v - a.dev).toNat else (a.dev - v).toNat
  if K.atlType n.val = 0 then x
  else if K.atlSize n.val < cnt then
    (x.modAtl n (fun a => { a with beaconRange := true })).signalAtl K n
  else
    let kept := a.avail.map (fun e => if (e.1 - a.dev).toNat ≤ cnt then e else (v, e.2))
    let covered := kept.any (fun e => decide (e.1 = v))
    let y := x.modAtl n (fun a => { a with
      beacon := v, beaconTT := x.tt
      head := if cnt = 0 ∨ a.st = .halted ∨ a.st = .stalled then none else a.head
      avail := if K.isCommand n ∧ cnt ≠ 0 then (if covered then kept else kept ++ [(v, x.tt, x.time.cyc)]) else [] })
    match a.st with
    | .halted =>
      if a.reason = .linkDown ∧ x.linkOk = false then y.modAtl n (fun a => { a with resume := true })
      else y.resumeAtl K n
    | .stalled => y.modAtl n (fun a => { a with reread := true })
    | _ => y.settleAtl K n
/-- Bus Master Enable with the link up lets waiting Atolls resume (R270, R284). -/
def Dev.resumeAtolls (K : Memory) (x : Dev) : Dev :=
  x.each 48 (fun n y =>
    if (y.atl n).resume then
      (y.modAtl n (fun a => { a with resume := false })).resumeAtl K n
    else y)
/-- DEV_IDX advances by `k` (R275). -/
def Dev.advanceIdx (K : Memory) (n : AtollId) (k : Nat) (x : Dev) : Dev :=
  (x.modAtl n (fun a =>
    let d := a.dev + BitVec.ofNat 16 k
    { a with
      dev := d, head := none
      fetchLate := a.fetchLate.filter (fun e => decide (k ≤ (e - a.dev).toNat))
      avail := a.avail.filter (fun e => decide (k < (e.1 - a.dev).toNat)) })).changedAtl K n

/-! ### Completion Atolls (R291 to R293) -/

/-- outstanding(c) of R291. -/
def Dev.outstanding (K : Memory) (x : Dev) (c : AtollId) : Nat :=
  ((List.finRange 48).map (fun n => if K.isCommand n && decide (K.cqOf n = some c) then (x.atl n).live.length else 0)).sum +
  (x.host.outcomes.filter (fun e => decide (K.cqOf e.atoll = some c))).length + x.unfreed c
/-- Room for `k` more completions of Atoll `n`. -/
def Dev.cqRoom (K : Memory) (x : Dev) (n : AtollId) (k : Nat) : Bool :=
  match K.cqOf n with
  | some c => decide (x.outstanding K c + k ≤ K.atlSize c.val)
  | none => false
/-- An entry may be written to a device-written Atoll now. -/
def Dev.entryRoom (K : Memory) (x : Dev) (c : AtollId) : Bool :=
  x.linkOk && decide ((x.atl c).st ≠ .halted) && decide (x.unfreed c < K.atlSize c.val)
/-- An entry is written to a device-written Atoll (R292, R293). -/
def Dev.writeEntry (K : Memory) (c : AtollId) (size : Nat) (bytes : List Byte) (irq : Bool) (x : Dev) : Dev :=
  let a := x.atl c
  let y := x.post (K.atlAddr c.val + size * (a.dev.toNat % K.atlSize c.val)) bytes
  let z := (y.modAtl c (fun a => { a with
    unann := a.unann + 1, unannAt := if a.unann = 0 then x.time.cyc else a.unannAt })).advanceIdx K c 1
  if irq ∨ K.atlModCnt c.val ≤ (z.atl c).unann then z.announce K c else z
/-- An outcome whose completion Atoll can take it. -/
def Dev.complReady (K : Memory) (x : Dev) (e : Compl) : Bool :=
  match K.cqOf e.atoll with
  | some c => x.entryRoom K c
  | none => false
/-- The capture Atoll of the oldest record a unit has staged. -/
def Capture.headAtoll (c : Capture) : Option AtollId :=
  match c.tails with
  | t :: _ => if t.staged.isEmpty then none else some t.atoll
  | [] => match c.ops, c.staged with
    | some (o, _), _ :: _ => some o.atoll
    | _, _ => none
/-- Atolls for which a device write is ready: the next completion, the staged records, the write-back words. (DEDUCED: log entry 141) -/
def Dev.writesReady (K : Memory) (x : Dev) : List AtollId :=
  ((x.host.outcomes.find? (x.complReady K)).toList.filterMap (fun e => K.cqOf e.atoll)) ++
  ((List.finRange 4).filterMap (fun u => (x.capu u).headAtoll)).filter (fun n => x.entryRoom K n) ++
  (List.finRange 48).filter (fun n => (x.atl n).wbDue && x.linkOk)
/-- No write of a higher ATL_PRIO is ready: it is the turn of Atoll `n` (R281). (DEDUCED: log entry 141) -/
def Dev.writeTurn (K : Memory) (x : Dev) (n : AtollId) : Bool :=
  (x.writesReady K).all (fun m => decide (K.atlPrio m.val ≤ K.atlPrio n.val))
/-- The oldest outcome whose completion Atoll can take it is written (R281, R292). -/
def Dev.completionWrite (K : Memory) (x : Dev) : Dev :=
  match x.host.outcomes.find? (x.complReady K), x.host.outcomes.span (fun e => !(x.complReady K e)) with
  | some e, (a, b) =>
    match K.cqOf e.atoll with
    | some c =>
      if x.writeTurn K c then
        ({ x with host := { x.host with outcomes := a ++ b.drop 1 } } : Dev).writeEntry K c 16
          (complBytes e.seq e.atoll.val e.status e.late e.cancelLate e.notFinal e.tt) e.irq
      else x
    | none => x
  | none, _ => x
/-- The index write-back word of an Atoll is issued, and the message that waited for it (R275, R292). -/
def Dev.writeBack (K : Memory) (n : AtollId) (x : Dev) : Dev :=
  let a := x.atl n
  if a.wbDue && x.linkOk && x.writeTurn K n then
    let w := a.dev.toNat + a.st.code * 65536 + a.reason.code * 16777216
    let y := (x.modAtl n (fun a => { a with wbDue := false, irqDue := false })).post (K.atlWb n.val) (leBytes 4 w)
    if a.irqDue then y.signalAtl K n else y
  else x
/-- ATL_MOD_TIME has passed since the oldest unannounced entry (R293). -/
def Dev.moderationTimeout (K : Memory) (n : AtollId) (x : Dev) : Dev :=
  let a := x.atl n
  if K.isWritten n && decide (a.unann ≠ 0 ∧ a.unannAt + 200 * K.atlModTime n.val ≤ x.time.cyc) then x.announce K n else x

/-! ### Translation (R325 to R328) -/

/-- The newest `n` entries of a cache after one more. (DEDUCED: log entry 63) -/
def cacheAdd (n : Nat) (e : Nat × BitVec 64) (l : List (Nat × BitVec 64)) : List (Nat × BitVec 64) :=
  (l ++ [e]).drop (l.length + 1 - n)
/-- An 8-byte table entry, from the cache or by DMA. -/
def tableEntry (cache : List (Nat × BitVec 64)) (mem : HostMem) (idx addr : Nat) : Option (BitVec 64) :=
  match cache.find? (fun e => decide (e.1 = idx)) with
  | some e => some e.2
  | none => (mem.read addr 8).map (fun b => BitVec.ofNat 64 (leNat b))
/-- The translation of one IOVA: the bus address of its byte or a cause of R327, with the entries read. (DEDUCED: log entry 63) -/
def Dev.walk (K : Memory) (mem : HostMem) (iova : Nat) (write : Bool) (x : Dev) : (Nat ⊕ Nat) × Dev :=
  let i1 := iova / 2 ^ 24 % 4096
  let page := iova / 4096 % 2 ^ 24
  let h := x.host
  match tableEntry h.tuL1 mem i1 (K.tuRoot + 8 * i1) with
  | none => (.inr 5, x)
  | some e1 =>
    if e1.getLsbD 0 = false then (.inr 1, x)
    else if e1.toNat / 2 % 2 ^ 14 ≠ 0 then (.inr 4, x)
    else
      let x1 := if h.tuL1.any (fun e => decide (e.1 = i1)) then x
        else { x with host := { h with tuL1 := cacheAdd 16 (i1, e1) h.tuL1 } }
      match tableEntry h.tuL2 mem page (e1.toNat / 2 ^ 15 * 2 ^ 15 + 8 * (page % 4096)) with
      | none => (.inr 5, x1)
      | some e2 =>
        if e2.getLsbD 0 = false then (.inr 2, x1)
        else if e2.toNat / 4 % 2 ^ 10 ≠ 0 then (.inr 4, x1)
        else if write && !e2.getLsbD 1 then (.inr 3, x1)
        else
          let x2 := if h.tuL2.any (fun e => decide (e.1 = page)) then x1
            else { x1 with host := { x1.host with tuL2 := cacheAdd 64 (page, e2) h.tuL2 } }
          (.inl (e2.toNat / 4096 * 4096 + iova % 4096), x2)
/-- A translation fault (R327). -/
def Dev.tuFault (K : Memory) (n : AtollId) (iova cause : Nat) (x : Dev) : Dev :=
  let y := if cause = 5 then x.readError else x
  ({ y with host := { y.host with
    tuIova := iova % 2 ^ 36, tuAtoll := n.val, tuCause := cause, tuCnt := satInc 16 y.host.tuCnt } } : Dev).event
    K 0xEF (objAtoll n.val) 1 0
/-- IOVAs at which the pages of a buffer begin for it. (DEDUCED: log entry 64) -/
def pageStarts (iova len : Nat) : List Nat :=
  if len = 0 then []
  else (List.range ((iova % 4096 + len + 4095) / 4096)).map (fun i => if i = 0 then iova else (iova / 4096 + i) * 4096)
/-- Every page of a buffer translates to its page address, or the first fault is taken. (DEDUCED: log entry 64) -/
def Dev.walkPages (K : Memory) (mem : HostMem) (n : AtollId) (write : Bool) :
    List Nat → Dev → Option (List Nat) × Dev
  | [], x => (some [], x)
  | v :: r, x =>
    match x.walk K mem v write with
    | (.inr c, y) => (none, y.tuFault K n v c)
    | (.inl p, y) =>
      match Dev.walkPages K mem n write r y with
      | (some ps, z) => (some (p / 4096 * 4096 :: ps), z)
      | (none, z) => (none, z)
/-- Bytes of a buffer, by its translated pages. -/
def readPages (mem : HostMem) (b : Buf) (len : Nat) : Option (List Byte) :=
  (List.range len).foldr (fun k acc => match mem.byte (bufAddr b k), acc with
    | some v, some l => some (v :: l)
    | _, _ => none) (some [])

/-! ### Checks at acceptance (R279, R324) -/

/-- What a check of a fetched descriptor decides. -/
inductive Verdict where
  | stall
  /-- The Atoll halts with a reason; a code is a completion that is not final. -/
  | halt (r : AtReason) (code : Option Nat)
  /-- The descriptor is accepted and completes with a code. -/
  | refuse (code : Nat)
  /-- The descriptor is accepted and its action enters the scheduler, with the bytes of its read buffer. -/
  | accept (a : Act) (rd : List Byte)
deriving DecidableEq, Repr

/-- A held action of R454. -/
def Desc.isHeld (d : Desc) : Bool := d.flag 0 && decide (d.launch = 2 ^ 64 - 1 ∧ d.deadline = 0)
/-- Steps 4 and 5 of R279. -/
def Dev.launchCheck (x : Dev) (d : Desc) : Option Nat :=
  if 64 ≤ d.flags ∨ d.flag 0 ≠ decide (d.launch ≠ 0) then some stBadOperand
  else if d.deadline ≠ 0 ∧ d.deadline ≤ d.launch then some stBadOperand
  else if d.flag 0 ∧ x.time.state = .unset then some stState
  else none
/-- Step 6 of R279 (R295, R296). -/
def Dev.unitCheck (x : Dev) (op : Nat) : Option Nat :=
  if x.isSealed then (if !x.holding && actuatorOp op then some stNotActive else none)
  else if (1 ≤ op ∧ op ≤ 5) ∨ (0x10 ≤ op ∧ op ≤ 0x18) ∨ op = 0x20 ∨ op = 0x21 then some stState
  else none
/-- The checks of one native descriptor. (DESIGN CHOICE: log entry 7; DEDUCED: log entry 62) -/
def Dev.checkNative (K : Memory) (x : Dev) (mem : HostMem) (b : Option (List Byte)) : Verdict :=
  match b with
  | none => .halt .dmaRead none
  | some b =>
    let d := Desc.ofBytes b
    if !d.own then .stall
    else if d.format ≠ 2 then .halt .badFormat (some stBadOperand)
    else if !d.crcOk then .halt .badCrc (some stBadCrc)
    else
      match x.launchCheck d with
      | some c => .refuse c
      | none =>
        match x.unitCheck d.opcode with
        | some c => .refuse c
        | none =>
          if !(operandsOk K (x.fmtFor K) d) then .refuse stBadOperand
          else
            let rd := match readBuf d with
              | none => some []
              | some (a, len) => mem.read a len
            match rd with
            | none => .halt .dmaRead none
            | some l =>
              match actOf d l [] with
              | none => .refuse stBadOperand
              | some a => .accept a l
/-- The checks of one version-1 descriptor after its slot has translated (R324). (DESIGN CHOICE: log entry 7) -/
def Dev.checkV1 (K : Memory) (mem : HostMem) (n : AtollId) (b : Option (List Byte)) (x : Dev) : Verdict × Dev :=
  match b with
  | none => (.halt .dmaRead none, x)
  | some b =>
    let v := DescV1.ofBytes b
    let d := v.native
    if !v.own then (.stall, x)
    else if v.format ≠ 1 then (.halt .badFormat (some stBadOperand), x)
    else if !v.crcOk then (.halt .badCrc (some stBadCrc), x)
    else if !v.ok then (.refuse stBadOperand, x)
    else
      match x.unitCheck d.opcode with
      | some c => (.refuse c, x)
      | none =>
        if !(operandsOk K (x.fmtFor K) d) then (.refuse stBadOperand, x)
        else
          let rb := readBuf d
          let wb := writeBuf d
          let w := match wb with
            | some (a, len) => x.walkPages K mem n true (pageStarts a len)
            | none => match rb with
              | some (a, len) => x.walkPages K mem n false (pageStarts a len)
              | none => (some [], x)
          match w with
          | (none, y) => (.halt .translation (some stTranslation), y)
          | (some ps, y) =>
            let rd := match rb with
              | none => some []
              | some (a, len) => readPages mem ⟨a, ps⟩ len
            match rd with
            | none => (.halt .dmaRead none, y)
            | some l =>
              match actOf d l (if wb.isSome then ps else []) with
              | none => (.refuse stBadOperand, y)
              | some a => (.accept a l, y)

/-! ### Slots, eligibility and arbitration (R281, R286 to R288, R331, R332) -/

/-- Bus address of the slot `k` past DEV_IDX; the IOVA of it on a COMMAND_V1 Atoll. -/
def Dev.slotAddr (K : Memory) (x : Dev) (n : AtollId) (k : Nat) : Nat :=
  K.atlAddr n.val + (if K.atlType n.val = 4 then 32 else 64) * (((x.atl n).dev.toNat + k) % K.atlSize n.val)
/-- The bytes of a slot, without taking a translation fault. -/
def Dev.peek (K : Memory) (x : Dev) (mem : HostMem) (n : AtollId) (k : Nat) : Option (List Byte) :=
  if K.atlType n.val = 4 then
    match (x.walk K mem (x.slotAddr K n k) true).1 with
    | .inl a => mem.read a 32
    | .inr _ => none
  else mem.read (x.slotAddr K n k) 64
/-- The descriptor at DEV_IDX is eligible; one that cannot be read is fetched to find that out. -/
def Dev.eligible (K : Memory) (x : Dev) (mem : HostMem) (n : AtollId) : Bool :=
  let a := x.atl n
  match x.peek K mem n 0 with
  | none => true
  | some b =>
    let flags := (b.getD 1 0).toNat
    !(b.getD (b.length - 1) 0).getLsbD 7 ||
    ((!flags.testBit 2 || a.inChain || a.live.isEmpty) && (flags.testBit 4 || a.live.all (fun l => l.released)))
/-- The members of a native chain as read, from slot `k`: up to the first that does not go on (R288). (DEDUCED: log entry 61) -/
def Dev.members (K : Memory) (x : Dev) (mem : HostMem) (n : AtollId) : Nat → Nat → List (Option (List Byte))
  | 0, _ => []
  | f + 1, k =>
    let b := x.peek K mem n k
    match b with
    | none => [none]
    | some v =>
      let d := Desc.ofBytes v
      if d.own && decide (d.format = 2) && d.crcOk && d.flag 1 then b :: Dev.members K x mem n f (k + 1) else [b]
/-- Whether the list of members is a whole chain. (DEDUCED: log entry 61) -/
def Dev.wholeChain (l : List (Option (List Byte))) : Bool :=
  decide (l.length = 16) ||
  (match l.getLast? with
   | some (some v) =>
     let d := Desc.ofBytes v
     !(d.own && decide (d.format = 2) && d.crcOk && d.flag 1)
   | some none => true
   | none => false)
/-- The Atoll has a descriptor it may fetch now (R270, R272, R284, R286, R287, R291). (DEDUCED: log entry 61) -/
def Dev.canFetch (K : Memory) (x : Dev) (mem : HostMem) (n : AtollId) : Bool :=
  K.isCommand n && x.linkOk && decide ((x.atl n).st ≠ .halted) &&
  (decide ((x.atl n).st ≠ .stalled) || (x.atl n).reread) && decide (x.availCount n ≠ 0) &&
  x.cqRoom K n 1 && x.eligible K mem n &&
  (decide (K.atlType n.val = 4) || Dev.wholeChain (x.members K mem n (min 16 (x.availCount n)) 0))
/-- Atolls in round-robin order after the one served last. -/
def rrOrder (prev : Nat) : List AtollId :=
  (List.range 48).map (fun i => ⟨(prev + 1 + i) % 48, Nat.mod_lt _ (by decide)⟩)
/-- The version-1 chain that holds the engine against every Atoll of equal or lower priority: of the Atolls with a chain begun and a
next member, the one of the highest priority; of two such, the one served last, else one that was pre-empted (R331, R332). (DEDUCED: log entry 170) -/
def Dev.openChain (K : Memory) (x : Dev) : Option AtollId :=
  let c := (rrOrder x.host.served).filter (fun n =>
    let a := x.atl n
    K.isCommand n && a.inChain && decide (a.st ≠ .halted ∧ a.st ≠ .stalled ∧ x.availCount n ≠ 0))
  let top := c.foldl (fun m n => max m (K.atlPrio n.val)) 0
  let best := c.filter (fun n => decide (K.atlPrio n.val = top))
  ((best.find? (fun n => decide (n.val = x.host.served))).or (best.find? (fun n => (x.atl n).preempted))).or best.head?
/-- The Atoll the engine serves (R281, R332). (DEDUCED: log entry 170) -/
def Dev.chosen (K : Memory) (x : Dev) (mem : HostMem) : Option AtollId :=
  let bar := x.openChain K
  let c := (rrOrder x.host.served).filter (fun n => x.canFetch K mem n && (match bar with
    | some m => decide (n = m ∨ K.atlPrio m.val < K.atlPrio n.val)
    | none => true))
  let top := c.foldl (fun m n => max m (K.atlPrio n.val)) 0
  let best := c.filter (fun n => decide (K.atlPrio n.val = top))
  best.head?
/-- An Atoll is served: chains of lower priority are pre-empted, and its own resumes (R332). -/
def Dev.serve (K : Memory) (n : AtollId) (x : Dev) : Dev :=
  ({ x with host := { x.host with served := n.val } } : Dev).each 48 (fun m y =>
    if (y.atl m).inChain then
      if m = n then y.modAtl m (fun a => { a with preempted := false })
      else if K.atlPrio m.val < K.atlPrio n.val then y.modAtl m (fun a => { a with preempted := true })
      else y
    else y)

/-! ### Mirror entries (R405, R406) -/

/-- Padded with zeros to a multiple of 8 bytes. -/
def pad8 (l : List Byte) : List Byte := padTo ((l.length + 7) / 8 * 8) l
/-- The entry of an accepted descriptor. -/
def mirrorBytes (n : AtollId) (cancel : Bool) (d : Desc) (launch deadline : Nat) (rd : List Byte) : List Byte :=
  let body := pad8 rd
  leBytes 2 (64 + body.length) ++ leBytes 1 n.val ++ leBytes 1 (if cancel then 2 else 1) ++
  leBytes 1 d.opcode ++ leBytes 1 (if d.flag 0 then d.flags else d.flags + 1) ++ leBytes 2 d.target ++ leBytes 4 d.seq ++
  leBytes 8 launch ++ leBytes 8 deadline ++ padTo 32 d.ops ++ [0, 0, 0, 0] ++ body
/-- The earliest accepted descriptor of an Atoll that has a HOST_SEQ and has not completed (R314). -/
def Dev.liveOf (x : Dev) (n : AtollId) (seq : Word) : Option Live := (x.atl n).live.find? (fun l => decide (l.seq = seq))
/-- An accepted descriptor is to be mirrored. -/
def Dev.wantsMirror (x : Dev) (d : Desc) (a : Act) : Bool :=
  x.twin.en &&
  (match a with
   | .schedCancel m seq => (match x.liveOf m seq with
     | some l => l.mirror
     | none => false)
   | _ => d.flag 5 && actuatorOp d.opcode)
/-- The mirror entry of an accepted descriptor, or its count as skipped. -/
def Dev.mirrorAccept (n : AtollId) (d : Desc) (a : Act) (launch deadline group : Nat) (rd : List Byte) (x : Dev) : Dev :=
  let t := x.twin
  if x.holding && t.isUp && !t.ttMismatch then
    let cancel := match a with
      | .schedCancel _ _ => true
      | _ => false
    { x with twin := { t with
      entries := t.entries ++ [⟨n, cancel, BitVec.ofNat 32 d.seq, mirrorBytes n cancel d launch deadline rd, group, x.time.cyc⟩] } }
  else { x with twin := { t with mirrorSkipped := satInc 32 t.mirrorSkipped } }

/-! ### Acceptance -/

/-- The owner word of a slot is written with OWN clear. -/
def Dev.clearOwn (slot : Nat) (b : List Byte) (x : Dev) : Dev :=
  let l := b.length
  x.post (slot + l - 4) (slice b (l - 4) 3 ++ [b.getD (l - 1) 0 &&& 0x7F])
/-- A completion at acceptance: its TT is the train time of the completion (R279, R318). -/
def Dev.completeAt (n : AtollId) (seq code : Nat) (irq notFinal : Bool) (x : Dev) : Dev :=
  (x.outcome
    { atoll := n, seq := BitVec.ofNat 32 seq, status := code, late := false, cancelLate := false, notFinal := notFinal
      tt := x.tt, irq := irq, uid := x.sched.nextUid, cyc := x.time.cyc }).newUid
/-- Train time of the Beacon write that made the descriptor `k` past DEV_IDX available (R48, R274). -/
def Dev.beaconRef (x : Dev) (n : AtollId) (k : Nat) : Nat :=
  match (x.atl n).avail.find? (fun e => decide (k < (e.1 - (x.atl n).dev).toNat)) with
  | some e => e.2.1
  | none => (x.atl n).beaconTT
/-- An action enters the scheduler (R47, R48, R52, R279). `ref` is the reference instant of an on-fetch action. -/
def Dev.enterSched (K : Memory) (n : AtollId) (d : Desc) (a : Act) (rd : List Byte) (ref group : Nat) (x : Dev) : Dev :=
  let held := d.isHeld
  let launch := if d.flag 0 then d.launch else x.tt
  let deadline := if held then 0 else if d.deadline ≠ 0 then d.deadline
    else (if d.flag 0 then launch else ref) + K.atlSlack n.val
  let mir := x.wantsMirror d a
  let y := if mir then x.mirrorAccept n d a launch deadline group rd else x
  let made := mir && decide (x.twin.entries.length < y.twin.entries.length)
  let h : Hdr := { y.ownHdr (.host n) with seq := BitVec.ofNat 32 d.seq, irq := d.flag 3, mirror := made, tt := 0 }
  ((y.addPend h a launch deadline held).modAtl n (fun v => { v with
    live := v.live ++ [⟨h.uid, h.seq, false, made⟩], relAt := x.time.cyc
    fenceAt := if d.flag 2 && decide (h.uid = group) then x.time.cyc else v.fenceAt })).newUid
/-- What the engine has read of the descriptor at DEV_IDX; nothing of one that cannot be read or has OWN clear. -/
def Dev.readHead (K : Memory) (n : AtollId) (mem : HostMem) (x : Dev) : Dev :=
  let h : Option AtHead :=
    if x.availCount n = 0 then none
    else match x.peek K mem n 0 with
      | none => none
      | some b =>
        let flags := (b.getD 1 0).toNat
        if (b.getD (b.length - 1) 0).getLsbD 7 then some ⟨flags.testBit 2, flags.testBit 4, decide (K.atlWb n.val ≠ 0)⟩ else none
  x.modAtl n (fun a => { a with head := h })
/-- A re-read that finds OWN set ends a stall (R280). -/
def Dev.endStall (K : Memory) (n : AtollId) (x : Dev) : Dev :=
  if (x.atl n).st = .stalled then (x.modAtl n (fun a => { a with reread := false })).setAtl K n .running .none else x
/-- Every following outcome of a fetch leaves the Atoll's state as R282 gives it. -/
def Dev.afterAccept (K : Memory) (n : AtollId) (mem : HostMem) (x : Dev) : Dev :=
  let y := x.modAtl n (fun a => { a with
    doneAt := if a.live.isEmpty then x.time.cyc else a.doneAt
    relAt := if a.live.all (fun l => l.released) then x.time.cyc else a.relAt })
  (y.readHead K n mem).settleAtl K n
/-- The Atoll stalls (R280, R293). (DEDUCED: log entry 62) -/
def Dev.stall (K : Memory) (n : AtollId) (x : Dev) : Dev :=
  if (x.atl n).st = .stalled then x.modAtl n (fun a => { a with reread := false })
  else ((x.modAtl n (fun a => { a with reread := false })).setAtl K n .stalled .none).signalAtl K n
/-- The Atoll halts, with the completion that is not final where there is one (R283, R285, R293). (DEDUCED: log entry 62) -/
def Dev.haltAt (K : Memory) (n : AtollId) (r : AtReason) (code : Option Nat) (seq : Nat) (irq : Bool) (x : Dev) : Dev :=
  let x0 := if r = .dmaRead then x.readError else x
  let y := match code with
    | some c => x0.completeAt n seq c irq true
    | none => x0
  ((y.modAtl n (fun a => { a with reread := false })).setAtl K n .halted r).signalAtl K n

/-! ### Native descriptors (R279, R288) -/

/-- HOST_SEQ and IRQ of slot bytes. -/
def seqOf (b : Option (List Byte)) : Nat := leNat (slice (b.getD []) 4 4)
def irqOf (b : Option (List Byte)) : Bool := ((b.getD []).getD 1 0).toNat.testBit 3
/-- The accepted members of a chain leave the ring: OWN is cleared and DEV_IDX advances. (DEDUCED: log entry 66) -/
def Dev.leaveRing (K : Memory) (n : AtollId) (ms : List (List Byte)) (x : Dev) : Dev :=
  let y := x.over (ms.zip (List.range ms.length)) (fun m z => z.clearOwn (x.slotAddr K n m.2) m.1)
  y.advanceIdx K n ms.length
/-- Every member of a chain passes: all enter the scheduler in ring order. -/
def Dev.acceptAll (K : Memory) (n : AtollId) (ms : List (List Byte × Act × List Byte)) (x : Dev) : Dev :=
  let group := x.sched.nextUid
  let y := x.over (ms.zip (List.range ms.length)) (fun m z =>
    z.enterSched K n (Desc.ofBytes m.1.1) m.1.2.1 m.1.2.2 (x.beaconRef n m.2) group)
  y.leaveRing K n (ms.map Prod.fst)
/-- A native fetch at the Atoll the engine serves: a chain, which a descriptor without CHAIN is too. -/
def Dev.fetchNative (K : Memory) (n : AtollId) (mem : HostMem) (x : Dev) : Dev :=
  let ms := x.members K mem n (min 16 (x.availCount n)) 0
  let vs := ms.map (fun b => (b, x.checkNative K mem b))
  let stops := vs.find? (fun v => match v.2 with
    | .stall | .halt _ _ => true
    | _ => false)
  let fails := vs.findIdx? (fun v => match v.2 with
    | .refuse _ => true
    | _ => false)
  match stops with
  | some (b, .halt r code) => (x.serve K n).haltAt K n r code (seqOf b) (irqOf b)
  | some _ => (x.serve K n).stall K n
  | none =>
    if !(x.cqRoom K n ms.length) then (x.serve K n).endStall K n
    else
      match fails with
      | some i =>
        let y := ((x.serve K n).endStall K n).over (vs.zip (List.range vs.length)) (fun v z =>
          z.completeAt n (seqOf v.1.1) (if v.2 = i then (match v.1.2 with
            | .refuse c => c
            | _ => stCancelled) else stCancelled) (irqOf v.1.1) false)
        (y.leaveRing K n (ms.filterMap id)).afterAccept K n mem
      | none =>
        if !(x.hostRoom ms.length) then (x.serve K n).endStall K n
        else
          (((x.serve K n).endStall K n).acceptAll K n (vs.filterMap (fun v => match v.1, v.2 with
            | some b, .accept a rd => some (b, a, rd)
            | _, _ => none))).afterAccept K n mem
/-- The head of an Atoll that is not served is read; a re-read that finds OWN set ends a stall (R280). -/
def Dev.headRead (K : Memory) (n : AtollId) (mem : HostMem) (x : Dev) : Dev :=
  let y := x.readHead K n mem
  y.when ((y.atl n).reread && (y.atl n).head.isSome) (Dev.endStall K n)
/-- DESCRIPTOR_FETCH: the engine serves Atoll `n` when R281 chooses it. -/
def Dev.descriptorFetch (K : Memory) (n : AtollId) (mem : HostMem) (x : Dev) : Dev :=
  if K.atlType n.val = 1 then
    if x.chosen K mem = some n then x.fetchNative K n mem
    else if x.linkOk then (x.headRead K n mem).settleAtl K n
    else x
  else x

/-! ### Version-1 descriptors (R324, R329 to R333) -/

/-- The first member of a version-1 chain opens the group of its mirror entries (R405). -/
def Dev.chainBegin (n : AtollId) (x : Dev) : Dev :=
  if (x.atl n).inChain then x else x.modAtl n (fun a => { a with chainGroup := x.sched.nextUid })
/-- The member after an accepted one: the chain goes on, or ends. -/
def Dev.chainOn (n : AtollId) (chain : Bool) (x : Dev) : Dev :=
  x.modAtl n (fun a =>
    let len := a.chainLen + 1
    if chain && decide (len < 16) then { a with inChain := true, chainLen := len }
    else { a with inChain := false, chainLen := 0, preempted := false, chainCancel := false })
/-- A version-1 fetch at the Atoll the engine serves. -/
def Dev.fetchV1 (K : Memory) (n : AtollId) (mem : HostMem) (x : Dev) : Dev :=
  let iova := x.slotAddr K n 0
  match x.walk K mem iova true with
  | (.inr c, y) => ((y.serve K n).tuFault K n iova c).haltAt K n .translation none 0 false
  | (.inl slot, y) =>
    let b := mem.read slot 32
    match y.checkV1 K mem n b with
    | (.stall, z) => (z.serve K n).stall K n
    | (.halt r code, z) => (z.serve K n).haltAt K n r code (seqOf b) (irqOf b)
    | (.refuse c, z) =>
      let v := DescV1.ofBytes (b.getD [])
      (((((((z.serve K n).endStall K n).chainBegin n).completeAt n v.seq c (irqOf b) false).clearOwn slot (b.getD [])).advanceIdx K n 1).chainOn n
        (v.flags.testBit 1)).afterAccept K n mem
    | (.accept a rd, z) =>
      if !(z.hostRoom 1) then (x.serve K n).endStall K n
      else
        let v := DescV1.ofBytes (b.getD [])
        let bus := match (z.walk K mem v.iova false).1 with
          | .inl p => p
          | .inr _ => v.iova
        let y := ((z.serve K n).endStall K n).chainBegin n
        let w := y.enterSched K n (v.nativeAt bus) a rd (z.beaconRef n 0) (y.atl n).chainGroup
        (((w.clearOwn slot (b.getD [])).advanceIdx K n 1).chainOn n (v.flags.testBit 1)).afterAccept K n mem
/-- The rest of a pre-empted chain completes with PREEMPTED (R333), at most `f` members. (DEDUCED: log entry 66) -/
def Dev.cancelChain (K : Memory) (n : AtollId) (mem : HostMem) : Nat → Dev → Dev
  | 0, x => x.modAtl n (fun a => { a with inChain := false, chainLen := 0, preempted := false })
  | f + 1, x =>
    if x.availCount n = 0 then x.modAtl n (fun a => { a with inChain := false, chainLen := 0, preempted := false })
    else
      match x.walk K mem (x.slotAddr K n 0) true with
      | (.inr c, y) => (y.tuFault K n (x.slotAddr K n 0) c).haltAt K n .translation none 0 false
      | (.inl slot, y) =>
        match mem.read slot 32 with
        | none => y.haltAt K n .dmaRead none 0 false
        | some b =>
          let v := DescV1.ofBytes b
          if !v.own then y.stall K n
          else
            let z := (((y.completeAt n v.seq stPreempted (irqOf (some b)) false).clearOwn slot b).advanceIdx K n 1).chainOn n
              (v.flags.testBit 1)
            if (z.atl n).inChain then Dev.cancelChain K n mem f z else z
/-- V1_CHAIN_CANCEL takes effect on an Atoll with a pre-empted chain, once memory requests may be issued (R270, R333). (DEDUCED: log entry 159) -/
def Dev.v1ChainCancel (K : Memory) (n : AtollId) (mem : HostMem) (x : Dev) : Dev :=
  if K.atlType n.val = 4 ∧ (x.atl n).inChain = true ∧ (x.atl n).preempted = true then
    if x.linkOk then ((x.modAtl n (fun a => { a with chainCancel := false })).cancelChain K n mem 16).settleAtl K n
    else x.modAtl n (fun a => { a with chainCancel := true })
  else x
/-- V1_DESCRIPTOR_FETCH: the engine serves Atoll `n` when R281 chooses it; a V1_CHAIN_CANCEL written before is served
first. -/
def Dev.v1DescriptorFetch (K : Memory) (n : AtollId) (mem : HostMem) (x : Dev) : Dev :=
  let y := x.each 48 (fun m z => if (z.atl m).chainCancel then z.v1ChainCancel K m mem else z)
  if K.atlType n.val = 4 then
    if y.chosen K mem = some n then y.fetchV1 K n mem
    else if y.linkOk then (y.headRead K n mem).settleAtl K n
    else y
  else y

/-! ### The fetch deadline (R289) -/

/-- Flags of the slot `k` past DEV_IDX as it reads. -/
def Dev.slotFlags (K : Memory) (x : Dev) (mem : HostMem) (n : AtollId) (k : Nat) : Nat :=
  ((x.peek K mem n k).getD []).getD 1 0 |>.toNat
/-- Places of the first members of the chains in slots 0 to `k`, the latest first (R288). -/
def Dev.chainStarts (K : Memory) (x : Dev) (mem : HostMem) (n : AtollId) (k : Nat) : List Nat :=
  ((List.range (k + 1)).foldl (fun (s : List Nat × Nat) i =>
    let more := (x.slotFlags K mem n i).testBit 1 && decide (s.2 + 1 < 16)
    (if s.2 = 0 then i :: s.1 else s.1, if more then s.2 + 1 else 0)) ([], 0)).1
/-- Cycle at which the descriptor `k` past DEV_IDX became available. -/
def Dev.availAt (x : Dev) (n : AtollId) (k : Nat) : Option Nat :=
  if x.availCount n ≤ k then none
  else ((x.atl n).avail.find? (fun e => decide (k < (e.1 - (x.atl n).dev).toNat))).map (fun e => e.2.2)
/-- Cycle from which the descriptor at DEV_IDX, the first of its chain, is eligible; none while it is not (R286, R287). -/
def Dev.headFrom (K : Memory) (x : Dev) (mem : HostMem) (n : AtollId) : Option Nat :=
  let a := x.atl n
  let flags := x.slotFlags K mem n 0
  let at1 := if flags.testBit 4 then a.fenceAt else a.relAt
  let at2 := if flags.testBit 2 && !a.inChain then max at1 a.doneAt else at1
  if x.eligible K mem n then some at2 else none
/-- Cycle from which the fetch deadline of the descriptor `k` past DEV_IDX runs, and its HOST_SEQ: a member of a native chain is
eligible with the first of its chain, and one behind DEV_IDX with LOOKAHEAD_OK unless it or one before it has FENCE set (R286 to
R289). -/
def Dev.fetchFrom (K : Memory) (x : Dev) (mem : HostMem) (n : AtollId) (k : Nat) : Option (Nat × Nat) :=
  let seq := seqOf (x.peek K mem n k)
  match x.availAt n k with
  | none => none
  | some c =>
    if K.atlType n.val = 4 then (if k = 0 then (x.headFrom K mem n).map (fun t => (max c t, seq)) else none)
    else
      match x.chainStarts K mem n k with
      | [] => none
      | start :: before =>
        if start = 0 then (x.headFrom K mem n).map (fun t => (max c t, seq))
        else if (x.slotFlags K mem n start).testBit 4 && (start :: before).all (fun i => !(x.slotFlags K mem n i).testBit 2) then
          some (max c (x.atl n).fenceAt, seq)
        else none
/-- FETCH_LATE, once for a descriptor. (DESIGN CHOICE: log entry 133) -/
def Dev.fetchLate (K : Memory) (n : AtollId) (k : Nat) (mem : HostMem) (x : Dev) : Dev :=
  match x.fetchFrom K mem n k with
  | some (c, seq) =>
    let at' := (x.atl n).dev + BitVec.ofNat 16 k
    if K.isCommand n && !(x.atl n).fetchLate.contains at' && decide (c + 200 * K.hostFetchDl ≤ x.time.cyc) then
      (x.modAtl n (fun a => { a with fetchLate := a.fetchLate ++ [at'] })).faultSet K 0x0004 (objAtoll n.val) (leBytes 4 seq)
    else x
  | none => x

end Sys2Proof.Machine
end

