-- ==== Sys2Proof/Machine/Captures.lean ====
section
/-! DEFINITION. Capture units (R207 to R210, R310) and the loss of the host (R269, R270). The values of a period are
recorded when it ends, once it can no longer become a miss. -/

namespace Sys2Proof.Machine

/-! ### Capture records (R208, R209) -/

/-- A 32-bit integer word. -/
def wordI (v : Int) : Nat := unsx 32 v
/-- One element of a vector in format F. The injected −A of the most negative mantissa A is one unit above the largest mantissa
(R171, R205): it is written with the next exponent, and as the largest value of the format where there is none. (DESIGN CHOICE: log entry 168) -/
def wordF (v : Bfp) (i : Nat) : Nat :=
  let a := v.m.getD i 0
  if a ≤ manMax then unsx 8 v.e * 16777216 + unsx 24 a
  else if v.e < 127 then unsx 8 (v.e + 1) * 16777216 + 4194304
  else 0x7F7FFFFF
/-- Format F of one exact value a / 2^f. -/
def wordFOf (f : Nat) (a : Int) : Nat := wordF ((Bfp.renorm f 0 [a]).getD {}) 0
/-- The value of an engine selector in a computed period. -/
def engWord (e : Eng) (c : Nat) : Nat :=
  let s := e.shape
  match c with
  | 0x03 => wordFOf 32 e.fe
  | 0x08 | 0x09 | 0x0A | 0x0B => if c - 8 < s.q then wordF e.y (c - 8) else 0
  | 0x0C => wordI e.u0
  | 0x0D => if s.m = 2 then wordI e.u1 else 0
  | 0x0E => wordF e.uRaw0 0
  | 0x0F => if s.m = 2 then wordF e.uRaw1 0 else 0
  | 0x10 => wordI e.z
  | 0x11 => if s.force then wordI e.force else 0
  | 0x12 => wordF e.injVal 0
  | _ => if 0x20 ≤ c ∧ c - 0x20 < s.n then wordF e.xh (c - 0x20) else 0
/-- The value of a selector for the latest period of an axis (R208). (DEDUCED: log entry 48) -/
def Dev.capWord (K : Memory) (x : Dev) (a : AxisId) (c : Nat) : Nat :=
  let v := x.ax a
  match c with
  | 0 => 0
  | 1 => wordI (wholeCount v.gen.x)
  | 2 => wordI (if K.axKind a.val = 2 then wholeCount v.gen.x else v.posB)
  | 4 => wordF (refVec (x.engEnv K a)) 0
  | 5 => wordF (refVec (x.engEnv K a)) 1
  | 0x13 => wordFOf 0 v.port.cur.iu
  | 0x14 => wordFOf 0 v.port.cur.iv
  | 0x15 => wordFOf 0 v.port.cur.iw
  | 0x16 => wordI v.eng.theta
  | _ => if v.eng.computed then engWord v.eng c else 0
/-- One capture record. -/
def Dev.capRecord (K : Memory) (x : Dev) (u : Fin 4) (o : CapOps) (seq : Nat) (gap : Bool) (b : Nat) : List Byte :=
  let e := (x.ax o.axis).eng
  let flags := (if e.injVal.m.isEmpty then 0 else 1) + (if e.missed then 2 else 0) + (if e.computed then 0 else 4) +
    (if gap then 8 else 0) + (if e.mode = .auto then 0 else 16)
  leBytes 4 seq ++ leBytes 1 u.val ++ leBytes 1 o.axis.val ++ leBytes 1 flags ++ leBytes 1 o.sels.length ++ leBytes 8 b ++
  (List.range 8).flatMap (fun i => leBytes 4 (x.capWord K o.axis (o.sels.getD i 0)))

/-! ### Running a capture -/

/-- Records the unit holds in staging, its earlier captures' included. -/
def Capture.held (c : Capture) : Nat := c.staged.length + (c.tails.map (fun t => t.staged.length)).sum
/-- The oldest staged record is written to its capture Atoll. -/
def Dev.capturePut (K : Memory) (u : Fin 4) (x : Dev) : Dev :=
  let c := x.capu u
  match c.tails with
  | t :: rest =>
    match t.staged with
    | r :: more =>
      if x.entryRoom K t.atoll then
        (x.modCap u (fun c => { c with tails := { t with staged := more } :: rest })).writeEntry K t.atoll 48 r false
      else x
    | [] => x
  | [] =>
    match c.ops, c.staged with
    | some (o, _), r :: more =>
      if x.entryRoom K o.atoll then
        (x.modCap u (fun c => { c with staged := more })).writeEntry K o.atoll 48 r false
      else x
    | _, _ => x
/-- The sample of the period that has ended is recorded, staged or dropped (R208, R210). (DEDUCED: log entry 48) -/
def Dev.capTake (K : Memory) (u : Fin 4) (x : Dev) : Dev :=
  let c := x.capu u
  match c.ops, c.due with
  | some (o, _), some b =>
    let y := x.modCap u (fun c => { c with due := none, samples := c.samples + 1 })
    if c.samples % o.decim ≠ 0 then y
    else if 4096 ≤ ((y.capturePut K u).capu u).held then
      let z := y.modCap u (fun c => { c with
        seq := c.seq + 1, dropped := satInc 32 c.dropped, gap := true, gapRun := true })
      if c.gapRun then z else z.event K (0xE0 + u.val) objDevice 1 0
    else
      let w := if 4096 ≤ c.held then y.capturePut K u else y
      w.modCap u (fun c => { c with
        seq := c.seq + 1, staged := c.staged ++ [x.capRecord K u o c.seq c.gap b], gap := false, gapRun := false })
  | _, _ => x
/-- The running capture ends with a status. (DEDUCED: log entry 48) -/
def Dev.capEnd (K : Memory) (u : Fin 4) (code : Nat) (x : Dev) : Dev :=
  let y := x.capTake K u
  let c := y.capu u
  match c.ops with
  | some (o, h) => y.modCap u (fun c => { c with
      ops := none, due := none, staged := [], tails := c.tails ++ [⟨o.atoll, c.staged, h, code⟩] })
  | none => y
/-- What a boundary `b` of axis `a` does before its latch: the period that ends is recorded, and a window may end. -/
def Dev.capBefore (K : Memory) (a : AxisId) (b : Nat) (x : Dev) : Dev :=
  x.each 4 (fun u y =>
    match (y.capu u).ops with
    | some (o, _) =>
      if o.axis ≠ a then y
      else
        let z := y.capTake K u
        let done := match o.win with
          | .endTT t => decide (t ≤ b)
          | .count n => decide (n ≤ (z.capu u).seq)
        if done then z.capEnd K u stOK else z
    | none => y)
/-- The period that begins at `b` lies in the window of a running capture. -/
def Dev.capAfter (a : AxisId) (b : Nat) (x : Dev) : Dev :=
  x.each 4 (fun u y =>
    let c := y.capu u
    match c.ops with
    | some (o, _) => if o.axis = a ∧ c.start ≤ b then y.modCap u (fun c => { c with due := some b }) else y
    | none => y)
/-- CAPTURE_RECORD_WRITE, in its turn among the device's writes (R210, R281). -/
def Dev.captureRecordWrite (K : Memory) (u : Fin 4) (x : Dev) : Dev :=
  match (x.capu u).headAtoll with
  | some n => if x.writeTurn K n then x.capturePut K u else x
  | none => x
/-- A capture whose window has ended and whose records are written completes (R210). -/
def Dev.captureComplete (u : Fin 4) (x : Dev) : Dev :=
  match (x.capu u).tails with
  | t :: rest =>
    if t.staged.isEmpty then (x.modCap u (fun c => { c with tails := rest })).complete t.hdr t.code else x
  | [] => x
/-- CAPTURE_START: a running capture of the unit is replaced (R207). (DEDUCED: log entry 48) -/
def Dev.effCaptureStart (K : Memory) (h : Hdr) (u : Fin 4) (o : CapOps) (x : Dev) : Dev :=
  if K.atlType o.atoll.val ≠ 3 then x.complete h stBadOperand
  else
    (x.capEnd K u stCancelled).modCap u (fun c => { c with
      ops := some (o, h), start := h.tt, samples := 0, seq := 0, due := none, staged := [], gap := false, gapRun := false })
/-- CAPTURE_STOP. -/
def Dev.effCaptureStop (K : Memory) (h : Hdr) (u : Fin 4) (x : Dev) : Dev := (x.capEnd K u stCancelled).complete h stOK

/-! ### Losing and regaining the host (R269, R270, R284) -/

/-- Every capture ends and its staged records are discarded. (DEDUCED: log entry 65) -/
def Dev.capLost (u : Fin 4) (x : Dev) : Dev :=
  let c := x.capu u
  let y := x.modCap u (fun c => { c with ops := none, due := none, staged := [], tails := [] })
  let z := y.over c.tails (fun t v => v.complete t.hdr stCancelled)
  match c.ops with
  | some (_, h) => z.complete h stCancelled
  | none => z
/-- HOST_LOST: every loss resets the configuration space with the MSI-X structures and the Atoll indices; the writes that wait, with the
completions that follow them, wait on (R269, R270, R290). (DEDUCED: log entry 65) -/
def Dev.hostLost (K : Memory) (c : LostCause) (x : Dev) : Dev :=
  let y := { x with host := { x.host with lost := true, bme := false, pcie := {}, bar4 := [], msixPend := 0 } }
  let z := y.each 48 (fun n v =>
    let w := v.modAtl n (fun a => { a with
      beacon := 0, dev := 0, avail := [], inChain := false, chainLen := 0, preempted := false, chainCancel := false
      head := none, reread := false, unann := 0, irqDue := false, fetchLate := [], resume := false })
    if K.atlType n.val = 0 then w
    else
      let u := (w.setAtl K n .halted .linkDown).changedAtl K n
      if K.isCommand n then u.signalAtl K n else u)
  (z.each 4 (fun u v => v.capLost u)).faultSet K 0x0005 objDevice (leBytes 1 (lostCode c))
/-- Bus Master Enable is written; with it set the link is up again, and the writes that waited are issued in their order (R269,
R270). -/
def Dev.busMasterEnable (K : Memory) (on : Bool) (x : Dev) : Dev :=
  if on then
    (({ x with host := { x.host with bme := true, lost := false, link := x.host.link ++ x.host.held, held := [] } } : Dev).resumeAtolls
      K).msixFlush
  else x.modHost (fun h => { h with bme := false })

end Sys2Proof.Machine
end

