-- ==== Sys2Proof/Machine/Bus.lean ====
section
/-! DEFINITION. Bus channels (R340 to R366, R305 to R308): transmission, error confinement, bus-off, sleep and wake, rate
detection, and reception for the host. Every function acts at the present instant. -/

namespace Sys2Proof.Machine

/-! ### Channel state -/

/-- The CH_EVENT source of a channel (R448). -/
def Dev.chEvent (K : Memory) (c : ChanId) (cond : Nat) (x : Dev) : Dev := x.event K (0xD8 + c.val) (objChan c.val) cond 0
/-- Both error counters at 0, as in DETECT and after recovery (R349, R350, R362). -/
def Chan.clearErr (v : Chan) : Chan := { v with tec := 0, recv := 0, warned := false }
/-- The channel starts on the bus: integration, or rate detection first, with its error counters at 0 (R341, R350, R364). A channel
that went to sleep in bus-off starts error-active, its recovery being abandoned (R359, R363). (DEDUCED: log entries 77, 161) -/
def Dev.chStart (K : Memory) (c : ChanId) (x : Dev) : Dev :=
  x.modCh c (fun v =>
    if K.rateAuto c.val then
      { v.clearErr with
        mode := .detect, cand := 0, good := 0, candAt := none, detAt := x.time.cyc, rateFound := false }
    else { (if 255 < v.tec then v.clearErr else v) with mode := .integrating })
/-- Error state: 0 active, 1 passive, 2 bus-off (R359). -/
def Chan.errState (v : Chan) : Nat :=
  if v.mode = .busOff ∨ v.mode = .recovering ∨ 255 < v.tec then 2 else if 127 < v.tec ∨ 127 < v.recv then 1 else 0
/-- The candidate whose timing the channel applies: the one on trial or the one adopted (R350). -/
def Chan.candidate (v : Chan) : Option Nat :=
  if v.mode = .detect then some v.cand else if v.rateFound then some v.rateUsed else none
/-- The bus sample point of the start-of-frame bit after its edge, in ns, under the timing in force (R343, R350, R360). -/
def Dev.sofSample (K : Memory) (x : Dev) (c : ChanId) : Nat :=
  let w := match (x.ch c).candidate with
    | some j => chBase c.val + 0x284 + 16 * j
    | none => chBase c.val + 4
  25 * ((1 + K.bits w 6 9) * K.bits w 0 6) / 2

/-! ### Pins (R341, R344, R347, R363, R364) -/

/-- The channel takes part in the bus and may drive it (R341, R349, R350, R362, R363). -/
def Dev.drivesBus (K : Memory) (x : Dev) (c : ChanId) : Bool :=
  decide ((x.ch c).mode = .running) && !K.listenOnly c.val
/-- A format the candidate on trial enables (R350). -/
def Memory.candFmt (K : Memory) (c j : Nat) (f : Fmt) : Bool :=
  match f with
  | .cc => true
  | .fd => K.bit (chBase c + 0x280 + 16 * j) 2
  | .xl => K.bit (chBase c + 0x280 + 16 * j) 3
/-- The channel hears frames of a format: in normal operation one that is enabled, in DETECT one that the candidate enables once the
channel has integrated on it (R348, R350). -/
def Dev.hears (K : Memory) (x : Dev) (c : ChanId) (f : Fmt) : Bool :=
  match (x.ch c).mode with
  | .running => x.fmtOn K c f
  | .detect => (x.ch c).candAt.isSome && K.candFmt c.val (x.ch c).cand f
  | _ => false
/-- Level of BCn_STB; none is high impedance, in a device reset and without supply (R462). (DEDUCED: log entry 139) -/
def Dev.stbPin (K : Memory) (x : Dev) (c : ChanId) : Option Bool :=
  if x.keeper.phase = .inReset ∨ x.keeper.phase = .unpowered then none
  else some (if (x.ch c).mode = .off ∨ ((x.ch c).mode = .asleep ∧ K.wakeMode c.val ≠ 2) then K.stbPol c.val else !K.stbPol c.val)
/-- Level of BCn_MODE; `fast` says that a CAN XL frame is on the bus between its ADS and DAS fields and no error has been met
in it. It is high in every such frame the channel transmits or receives, in DETECT too (R347, R350). (DEDUCED: log entry 139) -/
def Dev.modePin (K : Memory) (x : Dev) (c : ChanId) (fast : Bool) : Bool := x.hears K c .xl && K.xlTms c.val && fast
/-- BCn_TXD while bit `b` of a frame is sent: levels with their lengths in 12.5 ns, a PWM symbol in fast mode; none as a length is
the one the bit timing gives. Recessive is true, and in a device reset the pin is so by its pull-up; no list at all is high
impedance, without supply (R462, R506). (DEDUCED: log entry 139) -/
def Dev.txdPin (K : Memory) (x : Dev) (c : ChanId) (fast b : Bool) : Option (List (Bool × Option Nat)) :=
  if x.keeper.phase = .unpowered then none
  else if !x.drivesBus K c then some [(true, none)]
  else if K.xlTms c.val && fast then
    some [(b, some (K.pwmShort c.val)), (!b, some (K.pwmLong c.val))]
  else some [(b, none)]
/-- The bit read from a PWM symbol given by its levels in steps of 12.5 ns: its level PWM_O steps from the start of the symbol, which
is in the phase that carries the bit's own level, since PWM_O is less than PWM_S (R343, R347). (DEDUCED: log entry 139) -/
def Memory.pwmBit (K : Memory) (c : Nat) (levels : List Bool) : Option Bool := levels[K.pwmOffset c]?
/-- The level of BCn_RXD that the protocol sees: the majority of the latest 2 × RXD_FILT + 1 samples, the latest first. -/
def Memory.rxdLevel (K : Memory) (c : Nat) (samples : List Bool) : Bool :=
  let l := samples.take (2 * K.rxdFilt c + 1)
  decide (l.length < 2 * (l.filter id).length)

/-! ### The transmit queue (R305, R306, R357) -/

/-- An identifier with the unit's twin bit written (R393). -/
def Memory.withTwin (K : Memory) (x : Dev) (c : ChanId) (f : CanFrame) : CanFrame :=
  let id := K.noTwin c.val f.ide f.ident.toNat + (if x.twin.unitB then 2 ^ K.twinPos c.val f.ide else 0)
  if x.twin.en then { f with ident := BitVec.ofNat 29 id } else f
/-- Status with which a frame released now is refused (R306, R349, R350, R362). (DEDUCED: log entry 73) -/
def Dev.txRefuse (K : Memory) (x : Dev) (c : ChanId) : Option Nat :=
  match (x.ch c).mode with
  | .off | .asleep | .noRate => some stState
  | .busOff | .recovering => some stBusOff
  | _ => if K.listenOnly c.val then some stState else none
/-- The end of a bus frame for its source; `tt` is the TT of its completion. (DEDUCED: log entry 78) -/
def Dev.txOutcome (h : Hdr) (code tt : Nat) (x : Dev) (after : Nat := 0) : Dev :=
  match h.src with
  | .service => { x with parts := { x.parts with svcBusy := x.parts.svcBusy.filter (fun u => decide (u ≠ h.uid)) } }
  | _ => x.completeTt h code true tt after
/-- A released frame reaches its channel (R357). -/
def Dev.busRelease (K : Memory) (h : Hdr) (c : ChanId) (f : CanFrame) (retry deadline : Nat) (x : Dev) : Dev :=
  match x.txRefuse K c with
  | some code => x.txOutcome h code x.tt
  | none =>
    x.modCh c (fun v => { v with txq := v.txq ++
      [{ hdr := h, frame := K.withTwin x c f, limit := if retry = 255 then K.txRetryDef c.val else retry
         deadline := deadline, cancel := if h.cancelLate then some x.tt else none }] })
/-- A frame leaves the transmit queue with a status; a cancel that reached it shows in its completion (R317, R320). -/
def Dev.txLeave (c : ChanId) (t : TxFrame) (code tt : Nat) (x : Dev) (after : Nat := 0) : Dev :=
  (x.modCh c (fun v => { v with
    txq := v.txq.filter (fun q => decide (q.hdr.uid ≠ t.hdr.uid))
    att := if v.att = some t.hdr.uid then none else v.att })).txOutcome
    { t.hdr with cancelLate := t.hdr.cancelLate || t.cancel.isSome } code tt (after := after)
/-- Every queued frame leaves with a status, in queue order. -/
def Dev.txFlush (c : ChanId) (code : Nat) (x : Dev) : Dev :=
  x.over (x.ch c).txq (fun t y => y.txLeave c t code (t.sof.getD x.tt))
/-- The order of arbitration: the lower value wins (R357). -/
def arbKey (f : CanFrame) : Nat :=
  let id := f.ident.toNat
  let r := if f.rtr then 1 else 0
  if f.ide then (((id / 2 ^ 18 % 2 ^ 11 * 2 + 1) * 2 + 1) * 2 ^ 18 + id % 2 ^ 18) * 2 + r
  else ((id % 2 ^ 11 * 2 + r) * 2) * 2 ^ 19
/-- The queued frame offered at an opportunity: the winner of arbitration, the first released among equals. -/
def bestFrame : List TxFrame → Option TxFrame
  | [] => none
  | t :: r =>
    match bestFrame r with
    | some u => if arbKey u.frame < arbKey t.frame then some u else some t
    | none => some t
/-- Cancels are sampled at a start of frame at `sof` that the channel hears: frames that are not in an attempt leave (R360). (DEDUCED: log entry 78) -/
def Dev.sampleCancels (K : Memory) (c : ChanId) (sof : Nat) (x : Dev) : Dev :=
  let at' := sof + x.sofSample K c
  x.over (if (x.ch c).mode = .running ∨ (x.ch c).mode = .detect then (x.ch c).txq else []) (fun t y =>
    match t.cancel with
    | some k => if (y.ch c).att ≠ some t.hdr.uid ∧ k < at' then y.txLeave c t stCancelled (t.sof.getD at') else y
    | none => y)
/-- An attempt begins; the error state indicator of a CAN FD or CAN XL frame is the channel's (R340, R356 to R358, R360). -/
def Dev.txAttempt (K : Memory) (c : ChanId) (sof : Nat) (x : Dev) : Dev :=
  let v := x.ch c
  if v.mode ≠ .running ∨ v.att.isSome = true ∨ K.listenOnly c.val = true then x
  else
    match bestFrame v.txq with
    | none => x
    | some t =>
      let y := x.modCh c (fun v => { v with
        att := some t.hdr.uid
        txq := v.txq.map (fun q =>
          if q.hdr.uid = t.hdr.uid then
            { q with
              made := q.made + 1, sof := some sof
              frame := { q.frame with esi := decide (q.frame.fmt ≠ .cc ∧ v.errState = 1) } }
          else q)
        sentStep := if t.hdr.src = .sync c then false else v.sentStep })
      y.sampleCancels K c sof
/-- A cancel reaches a frame in a transmit queue. -/
def Dev.cancelTx (uid : Nat) (x : Dev) : Dev :=
  x.each 8 (fun c y => y.modCh c (fun v => { v with
    txq := v.txq.map (fun q => if q.hdr.uid = uid ∧ q.cancel.isNone then { q with cancel := some x.tt } else q) }))
/-- BUS_TX_LATE of a frame (R361). -/
def Dev.txLate (K : Memory) (c : ChanId) (t : TxFrame) (x : Dev) : Dev :=
  (x.modCh c (fun v => { v with
    txq := v.txq.map (fun q => if q.hdr.uid = t.hdr.uid then { q with lateRaised := true } else q) })).faultSet K 0x0301
    (objChan c.val) (leBytes 4 t.hdr.seq.toNat)
/-- The deadline of a queued frame passes (R361). (DESIGN CHOICE: log entry 133) -/
def Dev.busTxLate (K : Memory) (c : ChanId) (uid : Nat) (x : Dev) : Dev :=
  match (x.ch c).txq.find? (fun t => decide (t.hdr.uid = uid)) with
  | some t => if !t.lateRaised && decide (t.deadline ≤ x.tt) then x.txLate K c t else x
  | none => x

/-! ### Reception for the host (R351 to R354) -/

/-- Filter entry `i` matches a frame (R351). -/
def Memory.filtMatch (K : Memory) (c : Nat) (i : Nat) (f : CanFrame) : Bool :=
  decide (K.filtAct c i = 1 ∨ K.filtAct c i = 2) &&
  decide ((f.ident.toNat ^^^ K.filtId c i) &&& K.filtMask c i = 0) &&
  (match K.filtFmt c i, f.fmt with
   | 0, _ => true
   | 1, .cc => true
   | 2, .fd => true
   | 3, .xl => true
   | _, _ => false) &&
  (match K.filtIde c i with
   | 0 => true
   | 1 => !f.ide
   | 2 => f.ide
   | _ => false)
/-- The deciding entry of a selected frame; none where the frame is dropped. -/
def Memory.selected (K : Memory) (c : Nat) (f : CanFrame) : Option Nat :=
  match (List.range 32).find? (fun i => K.filtMatch c i f) with
  | some i => if K.filtAct c i = 1 then some i else none
  | none => if K.filtDrop c then none else some 255
/-- A frame is offered to the acceptance filter (R351, R352). -/
def Dev.toHost (K : Memory) (c : ChanId) (f : CanFrame) (sof : Nat) (echo : Bool) (x : Dev) : Dev :=
  match K.selected c.val f with
  | none => x
  | some i =>
    let v := x.ch c
    let r : RxRec := ⟨f, sof, i, echo, v.rxSeq, v.lostRun⟩
    let y := x.modCh c (fun v => { v with rxSeq := wrapInc 16 v.rxSeq })
    if v.staging.isNone then y.modCh c (fun v => { v with staging := some r, lostRun := 0 })
    else if v.shadow.isNone then y.modCh c (fun v => { v with shadow := some r, lostRun := 0 })
    else
      let z := y.modCh c (fun v => { v with rxLost := satInc 32 v.rxLost, lostRun := satInc 16 v.lostRun })
      if v.lostRun = 0 then z.chEvent K c 4 else z
/-- Format code of R305. -/
def fmtCode (f : Fmt) : Nat := match f with | .cc => 0 | .fd => 1 | .xl => 2
/-- The received-frame record (R354). -/
def rxBytes (c : ChanId) (cookie : Word) (r : RxRec) : List Byte :=
  let f := r.frame
  leBytes 4 cookie.toNat ++
  leBytes 4 (f.ident.toNat + (if f.ide then 2 ^ 29 else 0) + (if f.rtr then 2 ^ 30 else 0)) ++
  leBytes 8 r.sof ++ leBytes 1 (fmtCode f.fmt) ++
  leBytes 1 ((if f.brs then 1 else 0) + (if f.esi then 2 else 0) + (if f.sec then 4 else 0) + (if r.echo then 8 else 0) +
    (if r.lost = 0 then 0 else 16)) ++
  leBytes 2 f.data.length ++ leBytes 4 f.af.toNat ++ [f.sdt, f.vcid] ++ leBytes 1 c.val ++ leBytes 1 r.filter ++
  leBytes 2 r.rxSeq ++ leBytes 2 r.lost ++ f.data
/-- The staged record takes the oldest buffer large enough (R353). -/
def Dev.rxDeliver (c : ChanId) (x : Dev) : Dev :=
  let v := x.ch c
  match v.staging with
  | none => x
  | some r =>
    match v.bufs.find? (fun b => decide (32 + r.frame.data.length ≤ b.len)) with
    | none => x
    | some b =>
      if !x.linkOk then x
      else
        ((x.modCh c (fun v => { v with
          staging := v.shadow, shadow := none, bufs := v.bufs.filter (fun q => decide (q.hdr.uid ≠ b.hdr.uid)) })).postBuf
          b.buf 0 (rxBytes c b.cookie r)).completeTt b.hdr stOK false r.sof
/-- RX_SUPPLY (R307, R353). -/
def Dev.effRxSupply (h : Hdr) (c : ChanId) (buf : Buf) (len : Nat) (cookie : Word) (x : Dev) : Dev :=
  if 512 ≤ (x.ch c).bufs.length then x.complete h stState
  else x.modCh c (fun v => { v with bufs := v.bufs ++ [⟨h, buf, len, cookie⟩] })
/-- Every unfilled receive buffer completes with CANCELLED (R308, R341). -/
def Dev.rxFlush (c : ChanId) (x : Dev) : Dev :=
  let l := (x.ch c).bufs
  (x.modCh c (fun v => { v with bufs := [] })).over l (fun b y => y.complete b.hdr stCancelled)

/-! ### Attempts and errors (R306, R358, R359, R362) -/

/-- The channel enters bus-off: its queued frames complete in queue order, one a cycle, so that the order within a cycle does not
sort them again (R292, R362). (DEDUCED: log entry 67) -/
def Dev.enterBusOff (K : Memory) (c : ChanId) (x : Dev) : Dev :=
  let y := x.modCh c (fun v => { v with mode := .busOff, boffAt := x.time.cyc })
  (y.over (y.ch c).txq.zipIdx (fun t z => z.txLeave c t.1 stBusOff (t.1.sof.getD x.tt) (after := t.2))).faultSet K 0x0300
    (objChan c.val) []
/-- Events of the error counters after a change (R359). -/
def Dev.errEvents (K : Memory) (c : ChanId) (old : Chan) (x : Dev) : Dev :=
  let v := x.ch c
  let high := decide (96 ≤ v.tec ∨ 96 ≤ v.recv)
  let y := x.modCh c (fun v => { v with warned := high })
  let z := if high && !old.warned then y.chEvent K c 1 else y
  if v.errState = 1 ∧ old.errState = 0 then z.chEvent K c 2 else z
/-- Code of a bus error in CH_STATUS (R498); the counts after an error flag leave the code of the error. (PRESUMED: log entry 74) -/
def busErrCode (old : Nat) (e : BusErr) : Nat :=
  match e with
  | .stuff _ => 1
  | .form => 2
  | .ack _ => 3
  | .bit1 => 4
  | .bit0 | .flagBit => 5
  | .crc => 6
  | .afterFlag | .dominantRun => old
/-- What an error adds to the transmit counter of a transmitter, and to the receive counter of a receiver, under
ISO 11898-1. (PRESUMED: log entry 74) -/
def busErrCount (passive transmitting : Bool) (e : BusErr) : Nat × Nat :=
  if transmitting then
    match e with
    | .ack dominant => if passive && !dominant then (0, 0) else (8, 0)
    | .stuff true | .afterFlag => (0, 0)
    | _ => (8, 0)
  else
    match e with
    | .afterFlag | .flagBit | .dominantRun => (0, 8)
    | _ => (0, 1)
/-- An error on the bus (R359). A channel that only listens keeps its counters at 0 (R349, R350), and so does one in a CAN XL
frame without error signalling (R347). -/
def Dev.busError (K : Memory) (c : ChanId) (e : BusErr) (transmitting xl : Bool) (sof : Nat) (x : Dev) : Dev :=
  let x0 := x.sampleCancels K c sof
  let v := x0.ch c
  if v.mode ≠ .running ∧ v.mode ≠ .detect then x0
  else
    let n := if v.mode = .detect ∨ K.listenOnly c.val = true ∨ (xl && K.xlTms c.val) = true then (0, 0)
      else busErrCount (decide (v.errState = 1)) transmitting e
    let y := x0.modCh c (fun v => { v with
      lastErr := busErrCode v.lastErr e, tec := v.tec + n.1, recv := min 255 (v.recv + n.2) })
    let z := y.errEvents K c v
    if 255 < (z.ch c).tec then z.enterBusOff K c else z
/-- The receive error counter after a frame received without error (R359): one above 127 takes a value from 119 to 127 that
the standard leaves open. (DESIGN CHOICE: log entry 75) -/
def Dev.rxGood (K : Memory) (c : ChanId) (x : Dev) : Dev :=
  let v := x.ch c
  if 127 < v.recv then
    (x.modCh c (fun v => { v with recv := 119 + x.fresh.toNat % 9 })).drawn.errEvents K c v
  else (x.modCh c (fun v => { v with recv := v.recv - 1 })).errEvents K c v
/-- An attempt ends (R38, R306, R358). (DEDUCED: log entry 76) -/
def Dev.txAttemptEnd (K : Memory) (c : ChanId) (o : TxOutcome) (x : Dev) : Dev :=
  let v := x.ch c
  match v.txq.find? (fun t => decide (v.att = some t.hdr.uid)) with
  | none => x
  | some t =>
    let tt := t.sof.getD x.tt
    match o with
    | .sent =>
      let x1 := if !t.lateRaised && decide (t.deadline ≤ tt) then x.txLate K c t else x
      let x2 := (x1.modCh c (fun v => { v with tec := v.tec - 1 })).errEvents K c v
      let x3 := if t.hdr.src = .sync c ∧ t.frame.data.getD 0 0 = 0x51 then
          x2.modCh c (fun v => { v with
            sent := some ⟨(t.frame.data.getD 1 0).toNat, beNat (slice t.frame.data 4 4), tt⟩ })
        else x2
      let x4 := x3.txLeave c t stOK tt
      if K.rxOwn c.val then x4.toHost K c t.frame tt true else x4
    | _ =>
      let ack := match o with
        | .failed a => a
        | _ => false
      let only := t.ackOnly && ack
      if t.limit + 1 ≤ t.made ∨ t.cancel.isSome = true then
        x.txLeave c t (if (if t.cancel.isSome then ack else only) then stNoAck else stRetryLimit) tt
      else
        x.modCh c (fun v => { v with
          att := none, txq := v.txq.map (fun q => if q.hdr.uid = t.hdr.uid then { q with ackOnly := only } else q) })
/-- Automatic recovery starts (R362). -/
def Dev.autoRecoveryStart (K : Memory) (c : ChanId) (x : Dev) : Dev :=
  let v := x.ch c
  if v.mode = .busOff ∧ K.boffAuto c.val = true ∧ v.boffAt + 200000 * K.boffDelay c.val ≤ x.time.cyc then
    x.modCh c (fun v => { v with mode := .recovering })
  else x
/-- Recovery is complete (R362). -/
def Dev.busOk (K : Memory) (c : ChanId) (x : Dev) : Dev :=
  if (x.ch c).mode = .recovering then
    (x.modCh c (fun v => { v.clearErr with mode := .running })).chEvent K c 3
  else x
/-- Eleven recessive bits end bus integration; in DETECT the dwell of the candidate begins (R341, R350). -/
def Dev.busIntegration (c : ChanId) (x : Dev) : Dev :=
  match (x.ch c).mode with
  | .integrating => x.modCh c (fun v => { v with mode := .running })
  | .detect => x.modCh c (fun v => { v with candAt := some (v.candAt.getD x.time.cyc) })
  | _ => x
/-- A frame of a format that is not enabled is heard: a protocol exception, or a form error with PEX_EN 0 (R348). In DETECT the
formats are the candidate's, and listening on it ends (R350), which RATE_CANDIDATE_NEXT does. -/
def Dev.protocolExc (K : Memory) (c : ChanId) (xl : Bool) (sof : Nat) (x : Dev) : Dev :=
  let v := x.ch c
  if (v.mode ≠ .running ∧ (v.mode ≠ .detect ∨ v.candAt.isNone = true)) ∨ x.hears K c (if xl then .xl else .fd) = true then x
  else if K.pexEn c.val then
    ((x.sampleCancels K c sof).modCh c (fun w => { w with mode := if v.mode = .detect then .detect else .integrating })).chEvent K c 5
  else x.busError K c .form false false sof

/-! ### Rate detection (R350) -/

/-- A frame is received without error in DETECT, once the channel has integrated on the candidate. -/
def Dev.detectFrame (K : Memory) (c : ChanId) (f : CanFrame) (x : Dev) : Dev :=
  if (x.ch c).candAt.isNone ∨ K.candFmt c.val (x.ch c).cand f.fmt = false then x
  else x.modCh c (fun v => { v with
    detectFrames := satInc 32 v.detectFrames, good := min (max 1 (K.rateConfirm c.val)) (v.good + 1) })
/-- Detection gives up after RATE_TIMEOUT. -/
def Dev.rateOver (K : Memory) (x : Dev) (c : ChanId) : Bool :=
  decide (K.rateTimeout c.val ≠ 0 ∧ (x.ch c).detAt + 200000000 * K.rateTimeout c.val ≤ x.time.cyc)
/-- Cycle at which the dwell of the candidate on trial ends; now where an error ends it, none while it has not begun. -/
def Dev.dwellEnd (K : Memory) (x : Dev) (c : ChanId) (onError : Bool) : Option Nat :=
  let v := x.ch c
  if v.mode ≠ .detect then none
  else v.candAt.map (fun t => if onError then x.time.cyc else t + 200000 * K.rateDwell c.val)
/-- Listening on a candidate ends, for an error or at the end of its dwell: detection gives up after RATE_TIMEOUT, and takes the
next candidate before it. -/
def Dev.rateNext (K : Memory) (c : ChanId) (onError : Bool) (x : Dev) : Dev :=
  match x.dwellEnd K c onError with
  | none => x
  | some t =>
    if x.time.cyc < t then x
    else if x.rateOver K c then ((x.modCh c (fun v => { v with mode := .noRate })).txFlush c stState).chEvent K c 7
    else x.modCh c (fun v => { v with
      cand := (v.cand + 1) % max 1 (K.rateNcand c.val), good := 0, candAt := none })
/-- A candidate is confirmed and adopted. -/
def Dev.rateAdopt (K : Memory) (c : ChanId) (x : Dev) : Dev :=
  let v := x.ch c
  if v.mode = .detect ∧ max 1 (K.rateConfirm c.val) ≤ v.good then
    (x.modCh c (fun v => { v with mode := .running, rateFound := true, rateUsed := v.cand })).chEvent K c 6
  else x
/-- NO_RATE is entered, where listening on a candidate ends after RATE_TIMEOUT. -/
def Dev.rateFail (K : Memory) (c : ChanId) (onError : Bool) (x : Dev) : Dev :=
  if x.rateOver K c then x.rateNext K c onError else x

/-! ### Sleep, wake and channel requests (R308, R362 to R365) -/

/-- SLEEP: at once on a channel that is asleep, else at the next bus idle. (DEDUCED: log entry 72) -/
def Dev.effSleep (h : Hdr) (c : ChanId) (x : Dev) : Dev :=
  match (x.ch c).mode with
  | .asleep | .off => x.complete h stOK
  | _ => x.modCh c (fun v => { v with sleepReq := v.sleepReq ++ [some h] })
/-- The bus is idle and a SLEEP takes effect (R363). -/
def Dev.channelAsleep (c : ChanId) (x : Dev) : Dev :=
  let v := x.ch c
  if v.sleepReq.isEmpty ∨ v.mode = .off ∨ v.att.isSome = true then x
  else
    ((x.txFlush c stState).modCh c (fun v => { v with mode := .asleep, sleepReq := [] })).over v.sleepReq
      (fun h y => y.completeOpt h stOK)
/-- The channel wakes for cause 1 REQUEST, 2 DOMINANT or 3 FRAME (R364). -/
def Dev.wakeStart (c : ChanId) (cause : Nat) (ide : Bool) (id : Nat) (x : Dev) : Dev :=
  x.modCh c (fun v => { v with mode := .waking, wakeAt := x.time.cyc, wakeCause := cause, wakeIde := ide, wakeId := id })
/-- WAKE. -/
def Dev.effWake (h : Hdr) (c : ChanId) (x : Dev) : Dev :=
  (if (x.ch c).mode = .asleep then x.wakeStart c 1 false 0 else x).complete h stOK
/-- RECOVER. -/
def Dev.effRecover (K : Memory) (h : Hdr) (c : ChanId) (x : Dev) : Dev :=
  (match (x.ch c).mode with
   | .busOff => x.modCh c (fun v => { v with mode := .recovering })
   | .noRate => x.chStart K c
   | _ => x).complete h stOK
/-- FLUSH: its own completion follows every completion it causes (R292, R308). (DEDUCED: log entry 67) -/
def Dev.effFlush (h : Hdr) (c : ChanId) (x : Dev) : Dev :=
  let y := x.rxFlush c
  let z := y.complete h stOK
  let own := fun (e : Compl) => decide (e.uid = h.uid ∧ e.cyc = x.time.cyc)
  { z with host := { z.host with
    outcomes := z.host.outcomes.filter (fun e => !(own e)) ++ z.host.outcomes.filter own } }
/-- Dominant for WAKE_DOM without interruption (R364). -/
def Dev.wakeDominant (K : Memory) (c : ChanId) (x : Dev) : Dev :=
  if (x.ch c).mode = .asleep ∧ K.wakeMode c.val = 1 then x.wakeStart c 2 false 0 else x
/-- The data of a frame as WAKE_DATA orders it: byte k in bits [8k + 7 : 8k] (R498). -/
def wakeWord (f : CanFrame) : Nat := leNat (padTo 8 f.data)
/-- A wake frame of R365. -/
def Memory.isWake (K : Memory) (c : Nat) (f : CanFrame) : Bool :=
  decide (f.fmt = .cc) && !f.rtr && decide ((f.ident.toNat ^^^ K.wakeId c) &&& K.wakeIdMask c = 0) &&
  (f.ide == K.wakeIde c) && decide (f.data.length = K.wakeDlc c) &&
  decide ((wakeWord f ^^^ K.wakeData c) &&& K.wakeDMask c = 0)
/-- The wake decoder hears a frame (R365). -/
def Dev.wakeFrame (K : Memory) (c : ChanId) (f : CanFrame) (wellFormed : Bool) (x : Dev) : Dev :=
  if (x.ch c).mode ≠ .asleep ∨ K.wakeMode c.val ≠ 2 ∨ f.fmt ≠ .cc then x
  else if !wellFormed then x.modCh c (fun v => { v with wakeErr := satInc 32 v.wakeErr })
  else if K.isWake c.val f then x.wakeStart c 3 f.ide f.ident.toNat
  else x
/-- The transceiver has settled for 50 µs after a wake (R364). -/
def Dev.busWake (K : Memory) (c : ChanId) (x : Dev) : Dev :=
  let v := x.ch c
  if v.mode = .waking ∧ v.wakeAt + 10000 ≤ x.time.cyc then
    ((x.chStart K c).record 0x0041 (objChan c.val)
      (leBytes 1 v.wakeCause ++ leBytes 1 (if v.wakeIde then 1 else 0) ++ leBytes 4 v.wakeId ++ [0, 0]) none).chEvent K c 8
  else x
/-- A CHAN_MODE request (R308). -/
def Dev.effChanMode (K : Memory) (h : Hdr) (c : ChanId) (r : ChanReq) (x : Dev) : Dev :=
  match r with
  | .sleep => x.effSleep h c
  | .wake => x.effWake h c
  | .recover => x.effRecover K h c
  | .flush => x.effFlush h c

/-! ### Seal and unseal (R341) -/

/-- An enabled channel starts at seal. (DEDUCED: log entry 77) -/
def Dev.chSeal (K : Memory) (c : ChanId) (x : Dev) : Dev :=
  if K.chEn c.val then
    (x.modCh c (fun v => { v.clearErr with rateFound := false })).chStart K c
  else x
/-- A channel goes OFF at unseal. -/
def Dev.chUnseal (c : ChanId) (x : Dev) : Dev :=
  let reqs := (x.ch c).sleepReq
  (((x.txFlush c stState).rxFlush c).modCh c (fun v => { v with
    mode := .off, sleepReq := [], half0 := none, half1 := none, ready := none, sent := none
    done0 := none, done1 := none, skip0 := [], skip1 := [] })).over reqs
    (fun h y => y.completeOpt h stState)

end Sys2Proof.Machine
end

