-- ==== Sys2Proof/Machine/TwinUnit.lean ====
section
/-! DEFINITION. Twin operation (R389 to R418): the Summit and its watchdog, the Isthmus with its header and mirror batches,
the digest and the stale state, takeback and yield, self-tests, and the clearing writes of the twin block. -/

namespace Sys2Proof.Machine

def Dev.modTwin (f : Twin → Twin) (x : Dev) : Dev := { x with twin := f x.twin }

/-! ### Health report (R401, R411) -/

/-- The actuator-affecting actions of R294. -/
def Act.actuator (a : Act) : Bool :=
  match a with
  | .door _ _ | .envLoad _ _ _ _ | .outSet _ _ | .outMask _ _ | .ttSet _ | .tmControl _ _ => true
  | .axis _ (.coefRead _ _ _) => false
  | .axis _ _ => true
  | _ => false
/-- Actuator-affecting actions pending in the launch scheduler. -/
def Dev.pendingAct (x : Dev) : Nat := (x.sched.pend.filter (fun p => Act.actuator p.act)).length
/-- Highest reaction rank in force on any object. -/
def Dev.topRank (x : Dev) : Nat := x.evt.opens.foldl (fun m f => max m f.rank) 0
/-- Byte 25 of the Isthmus header. -/
def Dev.health2 (x : Dev) : Nat :=
  (if x.twin.selftest.isSome then 1 else 0) + (if x.cairn.st = .failed then 2 else 0) +
  (if x.time.state = .unset then 4 else 0) + (if x.twin.xMask ≠ 0 ∨ x.twin.xSafe ≠ 0 then 8 else 0) +
  (if x.twin.inhibit then 16 else 0)
/-- The 32 bytes of the Isthmus header of this frame, with a mirror segment of `len` bytes. -/
def Dev.headerOf (x : Dev) (health b digest len : Nat) : List Byte :=
  let t := x.twin
  [1] ++ leBytes 1 health ++ leBytes 2 t.isSeq ++ leBytes 8 b ++ leBytes 4 digest ++ leBytes 4 t.mseqSent ++
  leBytes 4 t.mseqApplied ++ leBytes 1 x.topRank ++ leBytes 1 x.health2 ++ leBytes 1 (t.msgs.head?.map Prod.fst |>.getD 0) ++ [t.msgs.head?.map Prod.snd |>.getD 0] ++ leBytes 2 len ++
  leBytes 2 (min 65535 x.pendingAct)
/-- The header of the frame the core island computes. -/
def Dev.header (x : Dev) (len : Nat) : List Byte := x.headerOf x.health1 x.frameB x.twin.digest.toNat len
/-- The partner's last valid header shows HOLDING. -/
def Twin.peerHolding (t : Twin) : Bool := (t.peerHdr.getD 1 0).toNat.testBit 3
/-- Pending actuator-affecting actions of the partner, and its MSEQ_APPLIED. -/
def Twin.peerPending (t : Twin) : Nat := leNat (slice t.peerHdr 30 2)
def Twin.peerApplied (t : Twin) : Nat := leNat (slice t.peerHdr 20 4)

/-! ### Digest (R410) -/

/-- The values of R410 in its order. -/
def Dev.digestItems (K : Memory) (x : Dev) : List Nat :=
  let bits := fun (n : Nat) (f : Fin n → Bool) => (List.finRange n).foldl (fun v i => if f i then v + 2 ^ i.val else v) 0
  (List.finRange 8).map (fun (d : DoorId) => (x.dw d).st.code) ++
  [bits 8 (fun d => K.dwEn d.val && (x.dw d).gate), bits 4 (fun j => (x.sout j).cmd)] ++
  (List.finRange 8).map (fun (d : DoorId) => (if (x.dw d).btn then 1 else 0) + (if (x.dw d).hold then 2 else 0)) ++
  [bits 32 (fun o => (x.outPin o).cmd)]
/-- The state digest of the running frame. (DESIGN CHOICE: log entry 97) -/
def Dev.takeDigest (K : Memory) (x : Dev) : Dev :=
  x.modTwin (fun t => { t with digest := BitVec.ofNat 32 (crc32 (Config.digestBytes (x.digestItems K))), digestB := x.frameB })

/-! ### Stale state (R411) -/

/-- A unit that does not hold the Summit becomes STALE. (DEDUCED: log entry 86) -/
def Dev.makeStale (x : Dev) : Dev := if x.holding then x else x.modTwin (fun t => { t with stale := true })
/-- The conditions that clear STALE once they have held together for 100 ms. -/
def Dev.clearCond (x : Dev) : Bool :=
  x.twin.isUp && !x.twin.ttMismatch && decide (x.twin.digestBad = 0 ∧ x.pendingAct = 0 ∧ x.twin.peerPending = 0)
/-- STALE clears. -/
def Dev.staleCleared (x : Dev) : Dev :=
  match x.twin.clearAt with
  | some c => if x.twin.stale ∧ c + 20000000 ≤ x.time.cyc then x.modTwin (fun t => { t with stale := false }) else x
  | none => x

/-! ### Claiming the Summit (R394, R395) -/

/-- The partner claims, or reports HOLDING, while this unit holds the Summit (R394). On unit A the fault is raised once
until it is cleared. (DEDUCED: log entry 84) -/
def Dev.conflict (K : Memory) (x : Dev) : Dev :=
  if !x.twin.en || !x.holding then x
  else if x.twin.unitB then x.fault K 0x0402 objDevice 7 [] true
  else if x.isOpen 0x0402 objDevice then x
  else x.fault K 0x0402 objDevice 2 [] true
/-- First cycle at which the claim conditions that time decides hold. -/
def Dev.claimAt (K : Memory) (x : Dev) : Nat :=
  let t := x.twin
  let start := if t.pref ∨ t.seenLow = true then 0 else t.sealAt + 200000 * K.twStart
  max (t.seeAt + 400) (max start (match t.handAt with
    | some c => c + 200000
    | none => 0))
/-- A unit in STANDBY claims. -/
def Dev.claim (K : Memory) (x : Dev) : Dev :=
  let t := x.twin
  if t.en && decide (t.summit = .standby) && x.healthy && t.see && decide (x.claimAt K ≤ x.time.cyc) then
    x.modTwin (fun t => { t with summit := .claiming, drive := true, claimAt := x.time.cyc })
  else x
/-- The confirmation time ends with the line high: the unit holds the Summit. -/
def Dev.claimConfirmed (K : Memory) (x : Dev) : Dev :=
  let t := x.twin
  if t.summit = .claiming ∧ t.see = true ∧ t.claimAt + 600 ≤ x.time.cyc then
    let cause := match t.hand with
      | .awaiting _ _ offer => if offer then 0x05 else 0x04
      | _ => x.gainCause
    (x.enterHolding K cause).modTwin (fun t => { t with hand := match t.hand with
      | .awaiting _ _ _ => .none
      | h => h })
  else x
/-- Unit B's backoff ends. -/
def Dev.backoffElapsed (x : Dev) : Dev :=
  if x.twin.summit = .backoff ∧ x.twin.claimAt + 2000 ≤ x.time.cyc then x.modTwin (fun t => { t with summit := .standby })
  else x
/-- A change of SUMMIT_SEE is recognised. A single unit ignores the line (R391). (DEDUCED: log entry 83) -/
def Dev.summitSee (K : Memory) (high : Bool) (x : Dev) : Dev :=
  if !x.twin.en || x.twin.see == high then x
  else
    let y := x.modTwin (fun t => { t with
      see := high, seeAt := if high then x.time.cyc else t.seeAt, seenLow := t.seenLow || !high
      claimAt := if t.summit = .claiming then x.time.cyc else t.claimAt })
    if high then y
    else match x.twin.summit with
      | .claiming => if x.twin.unitB then y.modTwin (fun t => { t with summit := .backoff, drive := false }) else y
      | .holding => y.conflict K
      | _ => y
/-- SUMMIT_LINE: the readback has disagreed with the drive for 1 µs (R397, R416). (DEDUCED: log entry 94) -/
def Dev.summitLine (K : Memory) (x : Dev) : Dev :=
  if !x.isSealed then x
  else if x.twin.drive then x.fault K 0x0401 objDevice 7 [1] true
  else x.fault K 0x0401 objDevice 2 [0] true

/-- The Isthmus transmitters drive their lanes; else they are off, at high impedance (R391, R462, R506). -/
def Dev.isthmusDrives (x : Dev) : Bool := decide (x.keeper.phase = .run) && x.twin.en

/-! ### Frame watchdog (R396) -/

/-- The core island retriggers the watchdog, at the end of pass 1 of a frame; only consecutive frames form a run, and the eighth
ends the reaction of FRAME_WDOG. (DEDUCED: log entry 96) -/
def Dev.retriggerNow (K : Memory) (x : Dev) : Dev :=
  let t := x.twin
  let run := if t.wdogFrame.map (· + 1) = some x.time.frames then min 255 (t.wdogRun + 1) else 1
  let ended := decide (8 ≤ run) && x.isOpen 0x0400 objDevice
  let y := x.modTwin (fun t => { t with
    wdogRun := run, wdogAt := x.time.cyc, wdogFrame := some x.time.frames, wdogFired := false, wdogNext := none
    wdogPrev := some { run := t.wdogRun, cyc := t.wdogAt, fired := t.wdogFired, ended := ended } })
  if ended then
    ({ y with evt := { y.evt with opens := y.evt.opens.filter (fun f => decide (f.code ≠ 0x0400)) } } : Dev).settleUnit K
  else y
/-- The retrigger of a frame whose pass 1 ends `took` cycles after its boundary, by 24.5 µs: it comes when that time has passed. -/
def Dev.retrigger (K : Memory) (took : Nat) (x : Dev) : Dev :=
  if 4900 < took then x.modTwin (fun t => { t with wdogRun := 0, wdogPrev := none, wdogNext := none })
  else if took = 0 then x.retriggerNow K
  else x.modTwin (fun t => { t with wdogPrev := none, wdogNext := some (x.time.cyc + took) })
/-- A frame with a miss does not retrigger the watchdog (R197). (DEDUCED: log entry 96) -/
def Dev.unRetrigger (K : Memory) (x : Dev) : Dev :=
  match x.twin.wdogPrev with
  | none => if x.twin.wdogNext.isSome then x.modTwin (fun t => { t with wdogRun := 0, wdogNext := none }) else x
  | some p =>
    let y := x.modTwin (fun t => { t with wdogRun := 0, wdogAt := p.cyc, wdogFired := p.fired, wdogPrev := none })
    if p.ended then
      ({ y with evt := { y.evt with opens := y.evt.opens ++ [⟨0x0400, objDevice, objDevice, 7⟩] } } : Dev).demote K 0x11
    else y
/-- The headers of the frames since the latest Isthmus frame that the core island did not compute, up to frame `last`: the twin
island sends them alone, in the state it has then, with HEALTH_GOOD clear and the digest 0 (R400). (DEDUCED: log entry 92) -/
def Dev.stoppedFrames (last : Nat) (x : Dev) : Dev :=
  match x.twin.en, x.twin.sentFrame with
  | true, some f =>
    x.over (List.range (last - f)) (fun i y =>
      let b := y.frameB + 25000 * (f + 1 + i) - 25000 * y.time.frames
      let h := y.headerOf (if y.healthy then y.health1 - 64 else y.health1) b 0 0
      y.modTwin (fun t => { t with
        ownHdr := h, sent := t.sent ++ [h ++ leBytes 4 (crc32 h)], isSeq := wrapInc 16 t.isSeq, msgs := t.msgs.drop 1
        sentFrame := some (f + 1 + i) }))
  | _, _ => x
/-- FRAME_WDOG: 50 µs without a retrigger. -/
def Dev.frameWdog (K : Memory) (x : Dev) : Dev :=
  if x.twin.wdogFired ∨ x.time.cyc < x.twin.wdogAt + 10000 then x
  else
    (x.modTwin (fun t => { t with wdogFired := true, wdogRun := 0, wdogPrev := none })).fault K 0x0400 objDevice 7 [] true
/-- Cycle at which 50 µs without a retrigger will have passed, the retrigger at the end of a running pass 1 counted. -/
def Twin.wdogDue (t : Twin) : Nat :=
  match t.wdogNext with
  | some c => if c < t.wdogAt + 10000 then c + 10000 else t.wdogAt + 10000
  | none => t.wdogAt + 10000

/-! ### Isthmus: sending (R400, R407) -/

/-- The first `k` entries may form a batch: they fit, and no chain is divided or still under way (`opened` are the groups of the
version-1 chains that are). (DEDUCED: log entry 142) -/
def wholePrefix (opened : List Nat) (l : List MirrorEntry) (k : Nat) : Bool :=
  decide (((l.take k).map (fun q => q.bytes.length)).sum ≤ 16256) &&
  (l.take k).all (fun e => !opened.contains e.group && (l.drop k).all (fun q => decide (q.group ≠ e.group)))
/-- The entries of the next batch and the rest: the longest prefix that may form one. Where chains interleave so far that none
does, the chain accepted first goes alone. (DEDUCED: log entry 142) -/
def fitBatch (opened : List Nat) (l : List MirrorEntry) : List MirrorEntry × List MirrorEntry :=
  match (List.range (l.length + 1)).reverse.find? (wholePrefix opened l), l with
  | some 0, e :: _ =>
    if opened.contains e.group then ([], l)
    else (l.filter (fun q => decide (q.group = e.group)), l.filter (fun q => decide (q.group ≠ e.group)))
  | some k, _ => (l.take k, l.drop k)
  | none, _ => ([], l)
/-- The entries accepted in the frame before form a batch. -/
def Dev.formBatch (x : Dev) : Dev :=
  let t := x.twin
  let opened := (List.finRange 48).filterMap (fun n => if (x.atl n).inChain then some (x.atl n).chainGroup else none)
  let s := fitBatch opened t.entries
  match s.1 with
  | [] => x
  | e :: _ =>
    let seq := wrapInc 32 t.batchSeq
    x.modTwin (fun t => { t with
      batchSeq := seq, entries := s.2, unacked := t.unacked ++ [(seq, e.cyc)]
      batches := t.batches ++ [{ seq := seq, bytes := s.1.flatMap (fun q => q.bytes), made := e.cyc }] })
/-- The segment of a batch the next frame carries, and whether it commits the batch. -/
def Batch.segment (b : Batch) : List Byte × Bool :=
  let part := (b.bytes.drop (1016 * b.next)).take 1016
  let last := decide (b.bytes.length ≤ 1016 * (b.next + 1))
  (leBytes 4 b.seq ++ leBytes 1 b.next ++ leBytes 1 (if last then 1 else 0) ++ leBytes 2 part.length ++ part, last)
/-- The Isthmus frame of this control frame. (DEDUCED: log entry 87) -/
def Dev.isthmusSend (x : Dev) : Dev :=
  if !x.twin.en then x
  else
    let x0 := x.formBatch
    let t := x0.twin
    let r : List Byte × Twin := match t.batches with
      | b :: rest =>
        if t.ttMismatch then ([], t)
        else if b.segment.2 then (b.segment.1, { t with batches := rest, mseqSent := b.seq })
        else (b.segment.1, { t with batches := { b with next := b.next + 1 } :: rest })
      | [] => ([], t)
    let y : Dev := { x0 with twin := r.2 }
    let h := y.header r.1.length
    y.modTwin (fun t => { t with
      ownHdr := h, sent := t.sent ++ [h ++ r.1 ++ leBytes 4 (crc32 (h ++ r.1))], isSeq := wrapInc 16 t.isSeq
      msgs := t.msgs.drop 1, sentFrame := some x.time.frames })

/-! ### Isthmus: mirror batches received (R406, R408) -/

/-- The batch being received is discarded. (DEDUCED: log entry 87) -/
def Dev.dropBatch (seq : Nat) (x : Dev) : Dev :=
  if x.twin.rxBad = some seq then x.modTwin (fun t => { t with rx := none })
  else x.modTwin (fun t => { t with rx := none, rxBad := some seq, mirrorDiscard := satInc 32 t.mirrorDiscard })
/-- A batch under way is discarded. -/
def Dev.dropRx (x : Dev) : Dev :=
  match x.twin.rx with
  | some r => x.dropBatch r.1
  | none => x
/-- The entries of a batch. -/
def entriesOf : Nat → List Byte → List (List Byte)
  | 0, _ => []
  | fuel + 1, b =>
    let n := leNat (slice b 0 2)
    if b.isEmpty ∨ n < 64 then [] else b.take n :: entriesOf fuel (b.drop n)
/-- The Atoll, the action and the times of an entry. -/
def entryAct (e : List Byte) : Option (AtollId × Word × Act × Nat × Nat × Bool) :=
  let d := Desc.ofBytes (slice e 4 56)
  match finOf 48 (e.getD 2 0).toNat, actOf d (match readBuf d with
    | some r => slice e 64 r.2
    | none => []) [] with
  | some n, some a => some (n, BitVec.ofNat 32 d.seq, a, d.launch, d.deadline, d.isHeld)
  | _, _ => none
/-- An entry enters the launch scheduler. (DEDUCED: log entry 47) -/
def Dev.applyEntry (e : List Byte) (x : Dev) : Dev :=
  match entryAct e with
  | none => x
  | some (n, seq, a, launch, deadline, held) =>
    let h : Hdr := { x.ownHdr (.mirror n) with seq := seq, mirror := true, tt := 0 }
    ((x.addPend h a launch deadline held).newUid).modTwin (fun t => { t with
      lastHseq := t.lastHseq.set n.val seq n.isLt })
/-- A complete batch is applied, or discarded whole for want of internal slots (R52, R408, R411). (DEDUCED: log entry 86) -/
def Dev.applyBatch (K : Memory) (seq : Nat) (bytes : List Byte) (x : Dev) : Dev :=
  let es := entriesOf 256 bytes
  let y := if seq = wrapInc 32 x.twin.mseqApplied then x else x.makeStale
  if 256 < y.slots (fun s => !Src.isHost s && !Src.isRoute s) + es.length then
    ((y.over es (fun _ z => z.notScheduled K)).dropBatch seq).makeStale
  else
    let z := ({ y with sched := { y.sched with fullRun := y.sched.fullRun && es.isEmpty } } : Dev).over es
      (fun e w => w.applyEntry e)
    z.modTwin (fun t => { t with mseqApplied := seq, rx := none, rxBad := none })
/-- The mirror segment of a valid frame (R408); `consec` tells that the frame before was valid too. -/
def Dev.segment (K : Memory) (s : List Byte) (consec : Bool) (x : Dev) : Dev :=
  if x.holding || x.twin.ttMismatch then x.dropRx
  else
    let x0 := if consec then x else x.dropRx
    if s.isEmpty then x0.dropRx
    else
      let seq := leNat (slice s 0 4)
      let i := (s.getD 4 0).toNat
      let part := slice s 8 (leNat (slice s 6 2))
      let commit := (s.getD 5 0).toNat.testBit 0
      let x1 := match x0.twin.rx with
        | some r => if r.1 = seq then x0 else x0.dropRx
        | none => x0
      let got : Option (List Byte) := match x1.twin.rx with
        | some r => if r.2.1 = i then some (r.2.2 ++ part) else none
        | none => if i = 0 then some part else none
      match got with
      | none => x1.dropBatch seq
      | some b =>
        if commit then x1.applyBatch K seq b
        else x1.modTwin (fun t => { t with rx := some (seq, i + 1, b), rxBad := none })

/-! ### Isthmus: frames received, heartbeats and the link (R402 to R404, R409 to R411) -/

/-- PEER_STATE takes a value. -/
def Dev.setPeer (K : Memory) (p : Nat) (x : Dev) : Dev :=
  let y := x.modTwin (fun t => { t with peer := p })
  if x.twin.peer = 2 ∧ p ≠ 2 then y.event K 0xEA objDevice 2 0
  else if x.twin.peer ≠ 2 ∧ p = 2 then y.faultSet K 0x0405 objDevice []
  else y
/-- A partner heartbeat has arrived within TWIN_HB_MISS. -/
def Dev.heardPeer (K : Memory) (x : Dev) : Bool :=
  match x.twin.peerHb with
  | some c => decide (x.time.cyc < c + 200000 * K.hbMissMs)
  | none => false
/-- The partner reports MSEQ_APPLIED: batches up to it are no longer waited for (R409). -/
def Dev.acked (applied : Nat) (x : Dev) : Dev :=
  x.modTwin (fun t => { t with
    unacked := t.unacked.filter (fun b => decide (2 ^ 31 ≤ (applied + 2 ^ 32 - b.1) % 2 ^ 32)) })
/-- The partner reports HOLDING: TWIN_YIELD completes and a holder sees a conflict (R394, R415). (DEDUCED: log entries 83, 90) -/
def Dev.peerHolds (K : Memory) (x : Dev) : Dev :=
  match x.twin.hand with
  | .yielded _ hs => (x.modTwin (fun t => { t with hand := .none })).over hs (fun h y => y.complete h stOK)
  | _ => x.conflict K
/-- The digest of the holder is compared with the own digest of the same boundary (R410). (DEDUCED: log entry 85) -/
def Dev.compareDigest (K : Memory) (h : List Byte) (x : Dev) : Dev :=
  if x.holding ∨ (h.getD 1 0).toNat.testBit 3 = false ∨ leNat (slice h 4 8) ≠ x.twin.digestB then x
  else if leNat (slice h 12 4) = x.twin.digest.toNat then x.modTwin (fun t => { t with digestBad := 0 })
  else
    let n := x.twin.digestBad + 1
    let y := x.modTwin (fun t => { t with digestBad := min n (K.digestLimit + 1) })
    if n = K.digestLimit then (y.event K 0xEB objDevice 1 0).makeStale else y
/-- A valid Isthmus frame. (DEDUCED: log entries 83, 85) -/
def Dev.validFrame (K : Memory) (f : IsthmusFrame) (x : Dev) : Dev :=
  let t := x.twin
  let consec := decide (t.isRun ≠ 0 ∧ (t.isFrame + 1 = x.time.frames ∨ t.isFrame = x.time.frames))
  let run := if consec then (if t.isFrame = x.time.frames then t.isRun else t.isRun + 1) else 1
  let b := leNat (slice f.header 4 8)
  let mis := decide (b + 1000 < x.frameB ∨ x.frameB + 1000 < b)
  let x1 := x.modTwin (fun t => { t with
    isRun := min run 255, isFrame := x.time.frames, isAt := x.time.cyc, peerHdr := f.header, ttMismatch := mis })
  let x2 := if !t.isUp && decide (8 ≤ run) then
      ((x1.modTwin (fun t => { t with isUp := true })).event K 0xEA objDevice 1 0).setPeer K 0
    else x1
  let x3 := if mis then x2.makeStale else x2
  let x4 := (x3.acked (leNat (slice f.header 20 4))).compareDigest K f.header
  let x5 := x4.segment K f.segment consec
  if (f.header.getD 1 0).toNat.testBit 3 then x5.peerHolds K else x5
/-- An Isthmus frame arrives: an invalid one breaks the run of valid frames and the batch being received. -/
def Dev.isthmusFrame (K : Memory) (f : IsthmusFrame) (x : Dev) : Dev :=
  if !x.twin.en then x
  else if f.aligned && f.crcOk && decide (f.header.getD 0 0 = 1) then x.validFrame K f
  else (x.modTwin (fun t => { t with isRun := 0 })).dropRx
/-- An exchange ends without a change of the Summit: TWIN_YIELD completes with STATE_REFUSED (R415). (DEDUCED: log entry 90) -/
def Dev.endExchange (x : Dev) : Dev :=
  let hs := match x.twin.hand with
    | .offered _ hs | .granting _ _ hs | .yielded _ hs => hs
    | _ => []
  (x.modTwin (fun t => { t with hand := .none })).over hs (fun h y => y.complete h stState)
/-- The Isthmus is down. An exchange under way before its instant ends (R413, R415). (DESIGN CHOICE: log entry 93) -/
def Dev.isthmusDown (K : Memory) (x : Dev) : Dev :=
  if !x.twin.isUp then x
  else
    let y := ((x.modTwin (fun t => { t with isUp := false, isRun := 0 })).dropRx).faultSet K 0x0404 objDevice []
    let z := if y.twin.peerHolding then y.makeStale else y
    let w := match z.twin.hand with
      | .yielded _ _ => z
      | .awaiting _ h _ => if h ≤ z.time.frames then z else z.endExchange
      | _ => z.endExchange
    w.setPeer K (if w.heardPeer K then 1 else 2)
/-- PEER_LOST: with the Isthmus down, TWIN_HB_MISS has passed without a partner heartbeat. -/
def Dev.peerLost (K : Memory) (x : Dev) : Dev :=
  if x.twin.isUp || x.heardPeer K then x else x.setPeer K 2
/-- The bus heartbeat of this millisecond enters the scheduler (R403). (DEDUCED: log entry 16) -/
def Dev.heartbeatSend (K : Memory) (x : Dev) : Dev :=
  match K.hbCh with
  | none => x
  | some c =>
    if !x.twin.en || !x.isSealed || !x.atMultiple 1000000 || decide (x.twin.hbAt = some (x.multiple 1000000)) then x
    else
      let f := ownFrame .cc K.hbIde K.twinHbId
        ([0x54] ++ leBytes 1 x.twin.hbSeq ++ leBytes 1 x.health1 ++ leBytes 1 x.health2 ++ beBytes 4 x.twin.mseqApplied)
      let r := (x.modTwin (fun t => { t with hbAt := some (x.multiple 1000000) })).sendOwn K .heartbeat c f 0 x.tt
      if r.2 then r.1.modTwin (fun t => { t with hbSeq := wrapInc 8 t.hbSeq }) else r.1
/-- A frame is the partner's heartbeat (R403). -/
def Dev.isPeerBeat (K : Memory) (x : Dev) (c : ChanId) (f : CanFrame) : Bool :=
  x.twin.en && decide (K.hbCh = some c) && decide (f.data.getD 0 0 = 0x54) && !f.rtr && (f.ide == K.hbIde) &&
  decide (K.noTwin c.val f.ide f.ident.toNat = K.noTwin c.val f.ide K.twinHbId) &&
  (K.twinBit c.val f.ide f.ident.toNat == !x.twin.unitB)
/-- The partner's heartbeat arrives (R404). -/
def Dev.peerBeat (K : Memory) (f : CanFrame) (x : Dev) : Dev :=
  let y := (x.modTwin (fun t => { t with peerHb := some x.time.cyc, peerBytes := padTo 8 f.data })).acked
    (beNat (slice f.data 4 4))
  let z := if y.twin.isUp then y else y.setPeer K 1
  if (f.data.getD 2 0).toNat.testBit 3 then z.peerHolds K else z
/-- MIRROR_LATE of the oldest batch that has passed its deadline (R409). (DESIGN CHOICE: log entry 133) -/
def Dev.mirrorLate (K : Memory) (x : Dev) : Dev :=
  if !x.holding then x
  else match x.twin.unacked.find? (fun b =>
      decide (b.2 + 200 * K.mirrorDl ≤ x.time.cyc) && !x.twin.lateBatches.contains b.1) with
    | some b => (x.modTwin (fun t => { t with lateBatches := t.lateBatches ++ [b.1] })).faultSet K 0x0406 objDevice (leBytes 4 b.1)
    | none => x

/-! ### Takeback and yield (R413 to R415) -/

/-- Every axis is at standstill. -/
def Dev.allStill (K : Memory) (x : Dev) : Bool :=
  (List.finRange 24).all (fun (a : AxisId) => decide (K.axKind a.val = 0) || (x.ax a).still)
/-- The conditions on which a holder releases the Summit by handover. -/
def Dev.mayRelease (K : Memory) (x : Dev) : Bool :=
  x.holding && x.allStill K && decide (x.pendingAct = 0 ∧ x.twin.peerApplied = x.twin.mseqSent)
/-- The unit has been healthy for TB_DWELL. -/
def Dev.dwelt (K : Memory) (x : Dev) : Bool :=
  match x.twin.healthyAt with
  | some c => x.healthy && decide (c + 200000000 * K.tbDwell ≤ x.time.cyc)
  | none => false
/-- The first, third and fourth conditions of R413. -/
def Dev.mayTake (K : Memory) (x : Dev) : Bool :=
  decide (x.twin.summit = .standby) && x.dwelt K && x.twin.isUp && !x.twin.stale && x.allStill K
/-- A message for a header of its own, behind those that wait (R401, R414). -/
def Dev.say (msg : Nat) (tag : Byte) (x : Dev) : Dev := x.modTwin (fun t => { t with msgs := t.msgs ++ [(msg, tag)] })
/-- The handover instant a message said now names: the second frame boundary after the frame that carries it (R414). -/
def Dev.instantOf (x : Dev) : Nat := x.time.frames + 3 + x.twin.msgs.length
/-- The preferred standby sends REQUEST. -/
def Dev.takebackRequest (K : Memory) (x : Dev) : Dev :=
  let t := x.twin
  let again := match t.reqAt with
    | some c => decide (c + 200000000 ≤ x.time.cyc)
    | none => true
  if t.en && t.pref && x.mayTake K && !t.inhibit && decide (x.pendingAct = 0) && again then
    (x.modTwin (fun t => { t with
      reqAt := some x.time.cyc, handTag := t.handTag + 1, hand := .requested (t.handTag + 1) })).say 1 (t.handTag + 1)
  else x
/-- TWIN_YIELD actions that wait on the exchange under way. -/
def Handover.waiting (h : Handover) : List Hdr :=
  match h with
  | .offered _ hs | .granting _ _ hs | .yielded _ hs => hs
  | _ => []
/-- The holder decides a REQUEST. -/
def Dev.handoverRequest (K : Memory) (tag : Byte) (x : Dev) : Dev :=
  if !x.holding || !x.twin.en then x
  else if x.mayRelease K then
    (x.modTwin (fun t => { t with hand := .granting tag x.instantOf t.hand.waiting })).say 3 tag
  else x.say 5 tag
/-- The partner decides an OFFER. -/
def Dev.handoverOffer (K : Memory) (tag : Byte) (x : Dev) : Dev :=
  if x.holding || !x.twin.en then x
  else if x.mayTake K then (x.modTwin (fun t => { t with hand := .awaiting tag x.instantOf true })).say 4 tag
  else x.say 5 tag
/-- A GRANT or ACCEPT arrives. -/
def Dev.handoverGrant (tag : Byte) (x : Dev) : Dev :=
  match x.twin.hand with
  | .requested t =>
    if t = tag then x.modTwin (fun w => { w with hand := .awaiting tag (x.time.frames + 2) false }) else x
  | .offered t hs =>
    if t = tag then x.modTwin (fun w => { w with hand := .granting tag (x.time.frames + 2) hs }) else x
  | _ => x
/-- A DECLINE arrives. -/
def Dev.handoverDecline (x : Dev) : Dev :=
  match x.twin.hand with
  | .granting _ _ _ => x
  | _ => x.endExchange
/-- The handover instant. (DEDUCED: log entry 90) -/
def Dev.handoverInstant (K : Memory) (x : Dev) : Dev :=
  match x.twin.hand with
  | .granting tag h hs =>
    if x.time.frames < h then x
    else if x.mayRelease K then
      ((x.leaveHolding K 0x13 .standby).modTwin (fun t => { t with
        handAt := some x.time.cyc, hand := if hs.isEmpty then .none else .yielded x.time.cyc hs }))
    else x.endExchange.say 5 tag
  | _ => x
/-- The exchange is abandoned 50 µs after H with the line still low; a former holder whose partner has not claimed by then
ends its yield. -/
def Dev.handoverAbandon (x : Dev) : Dev :=
  match x.twin.hand with
  | .awaiting _ h _ => if h + 2 ≤ x.time.frames ∧ x.twin.see = false then x.endExchange else x
  | .yielded c _ => if c + 10000 ≤ x.time.cyc ∧ x.twin.see = true then x.endExchange else x
  | _ => x
/-- TWIN_YIELD (R316, R415). (DEDUCED: log entry 89) -/
def Dev.effTwinYield (h : Hdr) (x : Dev) : Dev :=
  let t := x.twin
  if !t.en || !x.holding || !t.isUp then x.complete h stState
  else match t.hand with
    | .offered tag hs => x.modTwin (fun t => { t with hand := .offered tag (hs ++ [h]) })
    | .granting tag i hs => x.modTwin (fun t => { t with hand := .granting tag i (hs ++ [h]) })
    | _ => (x.modTwin (fun t => { t with handTag := t.handTag + 1, hand := .offered (t.handTag + 1) [h] })).say 2 (t.handTag + 1)
/-- TAKEBACK_INHIBIT (R316). -/
def Dev.effInhibit (h : Hdr) (b : Bool) (x : Dev) : Dev := (x.modTwin (fun t => { t with inhibit := b })).complete h stOK

/-! ### Self-tests (R14, R15, R416) -/

/-- SELFTEST_FAIL of a row of R416. (DEDUCED: log entry 96) -/
def Dev.selftestFail (K : Memory) (row : Nat) (x : Dev) : Dev :=
  (x.modTwin (fun t => { t with selftest := some row })).fault K 0x0403 objDevice 7 (leBytes 1 row) true
/-- An uncorrectable word of engine memory (R200). (DESIGN CHOICE: log entries 98, 186) -/
def Dev.engEcc (K : Memory) (addr : Word) (x : Dev) : Dev :=
  let p := Config.eccPlace addr
  match finOf 24 (p / 14), finOf 8 ((p - 336) / 2) with
  | some a, _ => x.engFault K a 0x0206 (p % 14) (leBytes 4 addr.toNat)
  | none, some d => (x.modDw d (fun w => { w with envBad := w.envBad ||| (1 <<< (p % 2)) })).fault K 0x0206 (objDoor d.val) 6 (leBytes 4 addr.toNat) true
  | none, none => x
/-- One result of a scrub or test while sealed; a result about engine memory stands for whichever read met the word, the scrub's, a
pass's or an action's, and counts in setup too (R200, R396). (DESIGN CHOICE: log entry 186) -/
def Dev.selftest (K : Memory) (test : Fin 4) (result : Fin 3) (addr : Word) (x : Dev) : Dev :=
  if !x.isSealed && decide (test.val ≠ 1) then x
  else match test.val, result.val with
    | 0, 1 =>
      let y := x.modTwin (fun t => { t with vecFail := min 255 (t.vecFail + 1) })
      if 1 ≤ x.twin.vecFail ∧ x.twin.selfBad.getLsbD 0 = false then
        (y.modTwin (fun t => { t with selfBad := t.selfBad ||| 1 })).selftestFail K 0
      else y
    | 0, _ => x.modTwin (fun t => { t with vecFail := 0, selfBad := t.selfBad &&& 0xE })
    | 1, 1 => x.engEcc K addr
    | 1, 2 => { x with eng := { x.eng with eccCorr := satInc 16 x.eng.eccCorr } }
    | 1, _ => x
    | r, 1 =>
      if x.twin.selfBad.getLsbD r then x
      else (x.modTwin (fun t => { t with selfBad := t.selfBad ||| (1 <<< r) })).selftestFail K r
    | r, _ => x.modTwin (fun t => { t with selfBad := t.selfBad &&& ~~~((1 : BitVec 4) <<< r) })
/-- An island clock counted over 100 µs. -/
def Dev.clockMonitor (K : Memory) (island : Fin 7) (dev : Int) (x : Dev) : Dev :=
  let lo : Int := if island.val = 0 then -150 else -50
  let ok := decide (lo ≤ dev ∧ dev ≤ 50)
  let bad := x.twin.clkFail.getLsbD island.val
  if !x.isSealed then x
  else if ok then x.modTwin (fun t => { t with clkFail := t.clkFail &&& ~~~((1 : BitVec 7) <<< island.val) })
  else if bad then x
  else (x.modTwin (fun t => { t with clkFail := t.clkFail ||| (1 <<< island.val) })).selftestFail K 4
/-- The straits whose late handshake has rank Unit demotion (R445): Axis–Core, Axis–Field, Axis–Twin, Core–Field, Core–Twin. -/
def demotingStraits : BitVec 13 := 0xAD0
/-- A strait handshake: late, or complete within its bound. -/
def Dev.straitShake (K : Memory) (row : Fin 13) (bToA late : Bool) (x : Dev) : Dev :=
  let bit : BitVec 13 := 1 <<< row.val
  if !late then x.modTwin (fun t => { t with straitLate := t.straitLate &&& ~~~bit })
  else if x.twin.straitLate.getLsbD row.val then x
  else
    (x.modTwin (fun t => { t with straitLate := t.straitLate ||| bit })).fault K 0x0001 objDevice
      (if demotingStraits.getLsbD row.val then 7 else 2) (leBytes 1 row.val ++ leBytes 1 (if bToA then 1 else 0)) true

/-! ### Clearing writes (R397, R412) -/

/-- The output a fault object names. -/
def Dev.outOf (x : Dev) (obj : Nat) : OutPin :=
  match finOf 32 (obj - 0x0F20), finOf 4 (obj - 0x0F40) with
  | some o, _ => x.outPin o
  | none, some j => x.sout j
  | none, none => {}
/-- The condition that raised a fault of rank 7 still holds. -/
def Dev.condHolds (x : Dev) (holdLow : Bool) (f : OpenFault) : Bool :=
  match f.code with
  | 0x0001 => decide (x.twin.straitLate &&& demotingStraits ≠ 0)
  | 0x0003 => x.time.holdoverExpired
  | 0x0004 => (List.finRange 48).any (fun n => decide (f.obj = objAtoll n.val) && !(x.atl n).fetchLate.isEmpty)
  | 0x0005 => x.host.lost
  | 0x0100 => (List.finRange 4).any (fun p => (x.gate.pairs.get p).fault)
  | 0x0101 => (List.finRange 8).any (fun j => (x.sin j).diag)
  | 0x0102 => decide (2000 ≤ (x.outOf f.obj).timer)
  | 0x0103 => (List.finRange 8).any (fun g => decide (f.obj = objGroup g.val) && (x.grp g).sag)
  | 0x0104 => (List.finRange 8).any (fun g => decide (f.obj = objGroup g.val) && (x.grp g).loss)
  | 0x0105 => (x.outOf f.obj).overload
  | 0x0106 => (x.outOf f.obj).noOutput
  | 0x0107 => (x.outOf f.obj).backFed
  | 0x0108 => (x.outOf f.obj).openLoad
  | 0x0300 => (List.finRange 8).any (fun (c : ChanId) => decide (f.obj = objChan c.val ∧ (x.ch c).errState = 2))
  | 0x0301 => (List.finRange 8).any (fun (c : ChanId) => decide (f.obj = objChan c.val) && (x.ch c).txq.any (fun t => t.lateRaised))
  | 0x0400 => true
  | 0x0401 => x.twin.drive && !holdLow
  | 0x0402 => x.holding && !x.twin.see
  | 0x0403 => decide (x.twin.selfBad ≠ 0 ∨ x.twin.clkFail ≠ 0)
  | 0x0404 => !x.twin.isUp
  | 0x0405 => decide (x.twin.peer = 2)
  | 0x0406 => !x.twin.unacked.isEmpty
  | 0x0500 => x.cairn.lateRun || x.cairn.ledLate
  | 0x0501 => !ledgerValid x.cairn.ledger0 || !ledgerValid x.cairn.ledger1
  | 0x0503 => decide (x.cairn.st = .failed)
  | _ => false
/-- DEMOTE_CLR. A SUMMIT_LINE or SUMMIT_CONFLICT of rank Warn ends by it too. (DEDUCED: log entry 95) -/
def Dev.demoteClr (K : Memory) (holdLow : Bool) (x : Dev) : Dev :=
  let ends := fun (f : OpenFault) =>
    if f.rank = 7 then !x.condHolds holdLow f
    else match f.code with
      | 0x0001 => decide (x.twin.straitLate = 0)
      | 0x0401 => x.twin.drive || !holdLow
      | 0x0402 => !(x.holding && (!x.twin.see || x.twin.peerHolding))
      | _ => false
  let next := x.evt.opens.filterMap (fun f =>
    if !ends f then some f
    else if f.code = 0x0001 ∧ x.twin.straitLate ≠ 0 then some { f with rank := 2 }
    else none)
  let gone := x.evt.opens.any (fun f => decide (f.code = 0x0403) && ends f)
  ({ x with
    evt := { x.evt with opens := next }
    twin := { x.twin with selftest := if gone then none else x.twin.selftest } } : Dev).settleUnit K
/-- SAFE_HOLD_CLR. (DEDUCED: log entry 88) -/
def Dev.safeHoldClr (K : Memory) (x : Dev) : Dev := x.endFaults K (fun f => decide (f.code = 0x0407))
/-- The first frame of holding after a safe-hold takeover (R412). (DEDUCED: log entry 88) -/
def Dev.safeTakeover (K : Memory) (x : Dev) : Dev :=
  if !x.twin.safeTake || !x.holding then x
  else
    let y := x.modTwin (fun t => { t with safeTake := false })
    let y1 := y.each 8 (fun d z =>
      if K.dwEn d.val && decide ((z.dw d).st ≠ .isolated ∧ (z.dw d).st ≠ .egress) then
        z.fault K 0x0407 (objDoor d.val) 6 [] true
      else z)
    let y2 := y1.each 24 (fun a z =>
      if (K.owner a).isNone ∧ K.axKind a.val ≠ 0 then
        let rest := z.evt.opens.filter (fun f => decide (¬ (f.code = 0x0407 ∧ f.obj = objAxis a.val)))
        let w : Dev := { z with evt := { z.evt with opens := rest ++ [⟨0x0407, objAxis a.val, objAxis a.val, 3⟩] } }
        if z.axisRank K a < 3 then w.axisReact a 3 else w
      else z)
    y2.each 32 (fun o z => if K.outRole o then z else z.setFree o false)

/-! ### Seal, unseal and the watch over conditions in time -/

/-- The twin part of the seal instant (R391, R394, R469). (DEDUCED: log entry 116) -/
def Dev.twinSeal (K : Memory) (x : Dev) : Dev :=
  let y := x.modTwin (fun t => { t with sealAt := x.time.cyc, seenLow := t.en && !t.see, held := false })
  if y.unitRank < 7 then
    if y.twin.en then y.modTwin (fun t => { t with summit := .standby }) else y.enterHolding K y.gainCause
  else y.modTwin (fun t => { t with summit := .demoted })
/-- The twin part of an unseal. -/
def Dev.twinUnseal (K : Memory) (x : Dev) : Dev :=
  let y := if x.holding then x.leaveHolding K 0x15 .off else x.modTwin (fun t => { t with summit := .off, drive := false })
  y.endExchange
/-- Conditions the twin island watches over time: since when the unit is healthy, since when STALE may clear, and what an
exchange waits for once the Summit has changed hands. (DEDUCED: log entries 90, 91) -/
def Dev.twinWatch (x : Dev) : Dev :=
  let x0 := match x.twin.hand with
    | .offered _ hs | .granting _ _ hs =>
      if x.holding then x
      else x.modTwin (fun t => { t with hand := if hs.isEmpty then .none else .yielded x.time.cyc hs })
    | .yielded _ _ => if x.holding then x.endExchange else x
    | _ => x
  x0.modTwin (fun t => { t with
    healthyAt := since x0.healthy x0.time.cyc t.healthyAt
    clearAt := since x0.clearCond x0.time.cyc t.clearAt
    claimedAt := since (!x0.unclaimed) x0.time.cyc t.claimedAt })

end Sys2Proof.Machine
end

