-- ==== Sys2Proof/Machine/Recorder.lean ====
section
/-! DEFINITION. The Cairn recorder and the cycle ledger (R419 to R437): the ring in the recorder MRAM, the write of one
record, failure and epitaphs, power-down and the start-up scan, the window, the export and the mark. -/

namespace Sys2Proof.Machine

def Dev.modCairn (f : Cairn → Cairn) (x : Dev) : Dev := { x with cairn := f x.cairn }

/-! ### The ring (R419 to R421) -/

/-- A byte of the recorder MRAM that nothing has written. (DESIGN CHOICE: log entry 100) -/
def mramReset (_ : Nat) : Byte := 0
/-- Bytes stored from an address upward. (DESIGN CHOICE: log entry 100) -/
def mramPut (m : List Host.Cell) (a : Nat) (bs : List Byte) : List Host.Cell :=
  (bs.zip (List.range bs.length)).foldl (fun r b => NMap.set mramReset r (a + b.2) b.1) m
/-- The slot of a sequence number. -/
def slotOf (s : Nat) : Nat := s % 2097152
/-- The 32 bytes of the slot of a sequence number. (DESIGN CHOICE: log entry 100) -/
def Cairn.slot (c : Cairn) (s : Nat) : List Byte :=
  (List.range 32).map (fun i => NMap.get mramReset c.mram (32 * slotOf s + i))
/-- Bytes with the CRC, the reserved byte and the valid mark of R419 behind them. -/
def seal28 (b : List Byte) : List Byte := b ++ leBytes 2 (crc16 b) ++ [0, 0xA5]
/-- The record a raised record becomes: SEQ, PCC, OPTIME and the payload of a TIME_ANCHOR are taken as it leaves the queue
(R56, R422). -/
def Dev.recBytes (x : Dev) (r : RawRec) : List Byte :=
  seal28 (leBytes 4 x.cairn.next ++ leBytes 4 x.cairn.pcc ++ leBytes 8 x.optime ++ leBytes 2 r.type ++ leBytes 2 r.source ++
    (if r.type = 0x0005 then leBytes 8 x.tt else padTo 8 r.payload))
/-- The valid mark and the CRC of a slot are right. -/
def recValid (b : List Byte) : Bool := (b.getD 31 0 == 0xA5) && leNat (slice b 28 2) == crc16 (slice b 0 28)
def recSeq (b : List Byte) : Nat := leNat (slice b 0 4)
def recPcc (b : List Byte) : Nat := leNat (slice b 4 4)
def recOp (b : List Byte) : Nat := leNat (slice b 8 8)
/-- CAIRN_HEAD and CAIRN_OLDEST. -/
def Cairn.headSeq (c : Cairn) : Nat := (c.next + 2 ^ 32 - 1) % 2 ^ 32
def Cairn.oldest (c : Cairn) : Nat :=
  match c.first with
  | some f => f
  | none => (c.headSeq + 2 ^ 32 - 2097150) % 2 ^ 32
/-- Sequence number `a` comes before `b`, compared modulo 2^32. -/
def seqBefore (a b : Nat) : Bool := decide (0 < (b + 2 ^ 32 - a) % 2 ^ 32 ∧ (b + 2 ^ 32 - a) % 2 ^ 32 < 2 ^ 31)
/-- The sequence numbers from OLDEST to HEAD. -/
def Cairn.seqs (c : Cairn) : List Nat :=
  (List.range ((c.next + 2 ^ 32 - c.oldest) % 2 ^ 32)).map (fun i => (c.oldest + i) % 2 ^ 32)
/-- A slot gives its bytes: always but after a failure for want of a response. (DESIGN CHOICE: log entry 104) -/
def Cairn.readable (c : Cairn) (s : Nat) : Bool :=
  !(decide (c.st = .failed ∧ c.failCause = 2)) || Config.slotReadable (slotOf s)
/-- CAIRN_WSTAT and the window of a cursor (R431). -/
def Cairn.window (c : Cairn) (s : Nat) : Nat × List Byte :=
  let b := c.slot s
  if seqBefore c.headSeq s then (2, List.replicate 32 0)
  else if seqBefore s c.oldest ∨ recSeq b ≠ s then (1, List.replicate 32 0)
  else if !recValid b || !c.readable s then (3, b.take 31 ++ [0])
  else (0, b)

/-! ### Writing (R420, R425, R435 to R437) -/

/-- The run of lost records is queued as QUEUE_GAP once room returns (R425). -/
def Cairn.gap (now : Nat) (c : Cairn) : Cairn :=
  if c.gapRun ≠ 0 ∧ c.queue.length < 512 then
    { c with queue := c.queue ++ [⟨0x0051, objDevice, padTo 8 (leBytes 4 c.gapRun), now, none⟩], gapRun := 0 }
  else c
/-- A record is written and verified. -/
def Dev.committed (r : RawRec) (x : Dev) : Dev :=
  let b := x.recBytes r
  let y := x.modCairn (fun c =>
    let n := wrapInc 32 c.next
    { c with
      mram := mramPut c.mram (32 * slotOf c.next) b, next := n, sinceCommit := c.sinceCommit + 1
      first := match c.first with
        | some f => if 2097151 ≤ (n + 2 ^ 32 - f) % 2 ^ 32 then none else some f
        | none => none
      lateRun := if x.time.cyc < r.at' + 400000 then false else c.lateRun })
  match r.hdr with
  | some h => y.complete h stOK
  | none => y
/-- Bytes 0 to 27 of an epitaph (R436): the lost record, the failing slot and the cause. -/
def Dev.epitaph (x : Dev) (r : Option RawRec) (slot cause : Nat) : List Byte :=
  leBytes 4 x.cairn.next ++ leBytes 4 x.cairn.pcc ++ leBytes 8 x.optime ++ leBytes 2 0x00F0 ++
  leBytes 2 ((r.map (fun q => q.type)).getD 0) ++ leBytes 4 slot ++ leBytes 1 cause ++
  leBytes 2 ((r.map (fun q => q.source)).getD 0) ++ [0]
/-- The epitaph goes to the first free slot, or to the keeper. -/
def Dev.putEpitaph (K : Memory) (e : List Byte) (ok : Bool) (x : Dev) : Dev :=
  match (List.finRange 16).find? (fun i => (x.cairn.epis.get i).isNone), ok with
  | some i, true => x.modCairn (fun c => { c with epis := c.epis.set i.val (some (seal28 e)) i.isLt })
  | _, _ =>
    ({ x with keeper := { x.keeper with epi := e, epiFail := true } } : Dev).event K 0xF6 objDevice 1 0
/-- The Cairn fails: what waits in the queue stays unwritten (R435). (DEDUCED: log entry 103) -/
def Dev.cairnFail (K : Memory) (slot cause : Nat) (epiOk : Bool) (x : Dev) : Dev :=
  let q := x.cairn.queue
  let y := x.modCairn (fun c => { c with
    st := .failed, queue := [], unplaced := [], gapRun := 0, failSlot := slot, failCause := cause
    unwritten := min (2 ^ 32 - 1) (c.unwritten + (q.length - 1)) })
  let z := y.putEpitaph K (x.epitaph q.head? slot cause) epiOk
  (z.faultSet K 0x0503 objDevice []).over (q.filterMap (fun r => r.hdr) ++ x.cairn.unplaced) (fun h w => w.complete h stLogFailed)
/-- The record at the head of the queue is written (R420, R435); `bad` gives the bytes of its slot where its second read-back
differs too. CAIRN_MARK actions whose record found no place complete. -/
def Dev.commitHead (K : Memory) (bad : Option (List Byte)) (epiOk : Bool) (x : Dev) : Dev :=
  match x.cairn.queue, bad with
  | _ :: _, some b =>
    (x.modCairn (fun c => { c with mram := mramPut c.mram (32 * slotOf c.next) (padTo 32 b) })).cairnFail K
      (slotOf x.cairn.next) 1 epiOk
  | r :: rest, none =>
    (((x.modCairn (fun c => { c with queue := rest, unplaced := [] })).committed r).over x.cairn.unplaced
      (fun h w => w.complete h stLogFailed))
  | [], _ => x
/-- The recorder takes the next record (R420): a read-back that differs is written once more. -/
def Dev.recordCommit (K : Memory) (rb1 rb2 : Option (List Byte)) (epiOk : Bool) (x : Dev) : Dev :=
  if x.cairn.st = .running then
    (x.commitHead K (rb1.bind (fun _ => rb2)) epiOk).modCairn (fun c => c.gap x.time.cyc)
  else x
/-- The recorder MRAM gives no response for 10 ms. -/
def Dev.cairnNoResponse (K : Memory) (epiOk : Bool) (x : Dev) : Dev :=
  if x.cairn.st = .running then x.cairnFail K 0xFFFFFFFF 2 epiOk else x
/-- CAIRN_REARM, whose test write of the failing slot has passed or failed. -/
def Dev.cairnRearm (ok : Bool) (x : Dev) : Dev :=
  if !x.isSealed && decide (x.cairn.st = .failed) && ok then
    (x.modCairn (fun c => { c with st := .running })).record 0x0052 objDevice
      (leBytes 4 x.cairn.headSeq ++ leBytes 1 x.cairn.failCause) none
  else x
/-- EPI_CLR. -/
def Dev.epiClr (x : Dev) : Dev :=
  if x.isSealed then x else x.modCairn (fun c => { c with epis := Vector.replicate 16 none })
/-- Epitaph slots in use. -/
def Cairn.epiUsed (c : Cairn) : Nat := ((List.finRange 16).filter (fun i => (c.epis.get i).isSome)).length
/-- LOG_LATE of a record or of a ledger commit, once per run (R424, R429). -/
def Dev.logLate (K : Memory) (ledger : Bool) (x : Dev) : Dev :=
  if ledger then
    match x.cairn.dirtyAt with
    | some c =>
      if x.cairn.ledLate ∨ x.time.cyc < c + 4000000 then x
      else (x.modCairn (fun c => { c with ledLate := true })).faultSet K 0x0500 objDevice [1]
    | none => x
  else
    match x.cairn.queue with
    | r :: _ =>
      if x.cairn.lateRun ∨ x.time.cyc < r.at' + 400000 ∨ x.cairn.st ≠ .running then x
      else (x.modCairn (fun c => { c with lateRun := true })).faultSet K 0x0500 objDevice [0]
    | [] => x

/-! ### The ledger (R428, R429) -/

/-- Fields of a ledger copy (R428): copy sequence, checkpoint, operating time, power-cycle count, whether the Cairn had failed, and
counter `i` of doorway `d`. -/
def ledgerSeq (b : List Byte) : Nat := leNat (slice b 0 4)
def ledgerCheckpoint (b : List Byte) : Nat := leNat (slice b 4 4)
def ledgerOptime (b : List Byte) : Nat := leNat (slice b 8 8)
def ledgerPcc (b : List Byte) : Nat := leNat (slice b 16 4)
def ledgerFailed (b : List Byte) : Bool := b.getD 20 0 == 1
def ledgerCounter (b : List Byte) (d i : Nat) : Nat := leNat (slice b (32 + 32 * d + 4 * i) 4)
/-- Copy 1 holds the higher sequence of the valid copies, compared modulo 2^32. -/
def Cairn.newer1 (c : Cairn) : Bool :=
  if ledgerValid c.ledger0 ∧ ledgerValid c.ledger1 then seqBefore (ledgerSeq c.ledger0) (ledgerSeq c.ledger1)
  else ledgerValid c.ledger1
/-- The copy that stands. -/
def Cairn.ledger (c : Cairn) : List Byte := if c.newer1 then c.ledger1 else c.ledger0
/-- The 292 bytes of the next ledger copy (R428). -/
def Dev.ledgerImage (x : Dev) : List Byte :=
  let c := x.cairn
  let b := leBytes 4 (wrapInc 32 (ledgerSeq c.ledger)) ++ leBytes 4 c.next ++ leBytes 8 x.optime ++ leBytes 4 c.pcc ++
    leBytes 1 c.st.code ++ leBytes 1 c.epiUsed ++ List.replicate 10 0 ++
    x.doors.toList.flatMap (fun w => w.ledger.toList.flatMap (leBytes 4))
  b ++ leBytes 4 (crc32 b)
/-- A commit writes the copy that does not hold the higher sequence, and reads it back; `bad` gives the bytes the copy
holds where the read-back differs. (DESIGN CHOICE: log entry 71; DEDUCED: log entry 102) -/
def Dev.ledgerCommit (K : Memory) (bad : Option (List Byte)) (x : Dev) : Dev :=
  let c := x.cairn
  if c.st = .scanning then x
  else
    let put := fun (b : List Byte) (c : Cairn) => if c.newer1 then { c with ledger0 := b } else { c with ledger1 := b }
    match bad with
    | none =>
      x.modCairn (fun c => { put x.ledgerImage c with dirtyAt := none, ledLate := false, sinceCommit := 0, commitOp := x.optime })
    | some b => (x.modCairn (put (padTo 292 b))).faultSet K 0x0501 objDevice [if c.newer1 then 0 else 1]
/-- A commit is due (R429). (DESIGN CHOICE: log entry 71) -/
def Dev.commitDue (x : Dev) : Bool :=
  x.cairn.dirtyAt.isSome || decide (65536 ≤ x.cairn.sinceCommit ∨ x.cairn.commitOp + 600000000 ≤ x.optime)

/-! ### Power-down and start-up (R427, R430, R459) -/

/-- A record is committed where the Cairn has not failed; record number `i` may be the one whose read-back fails. -/
def Dev.commitAt (K : Memory) (m : Media) (i : Nat) (x : Dev) : Dev :=
  if x.cairn.st = .failed then x
  else x.commitHead K (m.badRec.bind (fun f => if f.1 = i then some f.2 else none)) m.epiOk
/-- Every queued record is committed, in order. (DEDUCED: log entry 105) -/
def Dev.commitAll (K : Memory) (m : Media) (x : Dev) : Dev :=
  x.over (List.range x.cairn.queue.length) (fun i y => y.commitAt K m i)
/-- The power-fail warning: POWER_DOWN, the queue and the ledger. A recorder that scans or has failed writes no record. (DEDUCED: log entry 105) -/
def Dev.powerDown (K : Memory) (m : Media) (x : Dev) : Dev :=
  let now := x.time.cyc
  match x.cairn.st with
  | .running =>
    let gap := if x.cairn.gapRun = 0 then [] else [(⟨0x0051, objDevice, padTo 8 (leBytes 4 x.cairn.gapRun), now, none⟩ : RawRec)]
    let y := x.modCairn (fun c => { c with
      pf := true, sincePf := 0, gapRun := 0
      queue := c.queue ++ gap ++ [⟨0x0002, objDevice, padTo 8 (leBytes 4 c.queue.length), now, none⟩] })
    ((y.commitAll K m).modCairn (fun c => { c with st := if c.st = .failed then .failed else .stopped })).ledgerCommit K m.ledger
  | .failed =>
    (x.modCairn (fun c => { c with pf := true, sincePf := 0, unwritten := satInc 32 c.unwritten })).ledgerCommit K m.ledger
  | _ => x
/-- The warning clears without a reset. -/
def Dev.powerRestored (x : Dev) : Dev :=
  if x.cairn.pf then
    let n := x.cairn.sincePf
    (x.modCairn (fun c => { c with
      pf := false, sincePf := 0, st := if c.st = .stopped then .running else c.st })).record 0x0003 objDevice (leBytes 4 n) none
  else x
/-- Records from a sequence number on that are valid and continue it by one (R430). -/
def Cairn.follow (c : Cairn) : Nat → Nat → Nat
  | 0, s => s
  | fuel + 1, s =>
    if recValid (c.slot s) ∧ recSeq (c.slot s) = s then c.follow fuel ((s + 1) % 2 ^ 32) else s
/-- Slots whose valid mark is set, in slot order. -/
def Cairn.marked (c : Cairn) : List Nat :=
  c.mram.filterMap (fun e => if e.1 % 32 = 31 ∧ e.2 = 0xA5 then some (e.1 / 32) else none)
/-- The sequence number after the newest record found by a scan of the whole ring. (DEDUCED: log entry 102) -/
def Cairn.fullScan (c : Cairn) : Nat :=
  let ok := c.marked.filter (fun s => recValid (c.slot s))
  match ok.find? (fun s =>
      let n := (recSeq (c.slot s) + 1) % 2 ^ 32
      !(recValid (c.slot n) && recSeq (c.slot n) == n)) with
  | some s => (recSeq (c.slot s) + 1) % 2 ^ 32
  | none => 0
/-- The start-up of the recorder, with the reset cause it records. (DESIGN CHOICE: log entries 101, 119; DEDUCED: log entry 105) -/
def Dev.recorderScan (K : Memory) (m : Media) (cause : Nat) (x : Dev) : Dev :=
  let c := x.cairn
  let l := c.ledger
  let lost := !ledgerValid c.ledger0 && !ledgerValid c.ledger1
  let next := if lost then c.fullScan else c.follow (c.marked.length + 1) (ledgerCheckpoint l)
  let headOp := if recValid (c.slot (next + 2 ^ 32 - 1)) then recOp (c.slot (next + 2 ^ 32 - 1)) else 0
  let found := if lost then x.fresh.toNat % 2 ^ 32 else (next + 2 ^ 32 - ledgerCheckpoint l) % 2 ^ 32
  let pcc := if lost then x.fresh.toNat / 2 ^ 32 else wrapInc 32 (ledgerPcc l)
  let failed := !lost && ledgerFailed l
  let y := (if lost then x.drawn.faultSet K 0x0502 objDevice [] else x).modCairn (fun c => { c with
    st := if failed then .failed else .running, next := next, pcc := pcc
    opNs := 1000 * (max (if lost then 0 else ledgerOptime l) headOp + 1) })
  let z : Dev := { y with doors := Vector.ofFn (fun d => { y.doors.get d with
    ledger := if lost then Vector.replicate 8 0 else Vector.ofFn (fun i => ledgerCounter l d.val i.val) }) }
  let up : RawRec := ⟨0x0001, objDevice, leBytes 4 found ++ leBytes 1 (if lost then 2 else 1) ++ leBytes 1 cause ++ [0, 0],
    z.time.cyc, none⟩
  (if failed then z else (z.modCairn (fun c => { c with queue := up :: c.queue })).commitAt K m 0).ledgerCommit K m.ledger

/-! ### Export and mark (R58, R311, R312, R432) -/

/-- Train time of a record from the anchors of its power cycle (R58). (DEDUCED: log entry 107) -/
def trainTimeOf (anchors : List (List Byte)) (r : List Byte) : Option Int :=
  let tt := fun (b : List Byte) => ((leNat (slice b 20 8) : Nat) : Int)
  match (anchors.filter (fun a => decide (recOp a ≤ recOp r))).getLast?, anchors.find? (fun a => decide (recOp r < recOp a)) with
  | none, _ => none
  | some a, b =>
    let d : Int := (recOp r : Nat) - (recOp a : Nat)
    match b with
    | some b =>
      if 4 ≤ (b.getD 19 0).toNat then some (tt a + (d * (tt b - tt a)).fdiv ((recOp b : Nat) - (recOp a : Nat)))
      else some (tt a + d * 1000)
    | none => some (tt a + d * 1000)
/-- The records a range selects, each as it is written; a record that cannot be read while the Cairn is FAILED is left out. (DEDUCED: log entry 107) -/
def Cairn.select (c : Cairn) (r : ExpRange) (count : Nat) : List Nat :=
  match r with
  | .seq first =>
    let start := if seqBefore first.toNat c.oldest then c.oldest else first.toNat
    let n := if seqBefore c.headSeq start then 0 else (c.next + 2 ^ 32 - start) % 2 ^ 32
    ((List.range (min n count)).map (fun i => (start + i) % 2 ^ 32)).filter (fun s => decide ((c.window s).1 ≠ 1))
  | .tt start stop =>
    let mine := c.seqs.filter (fun s => decide ((c.window s).1 ≠ 1 ∧ recPcc (c.slot s) = c.pcc))
    let anchors := (mine.map c.slot).filter (fun b => recValid b && decide (leNat (slice b 16 2) = 0x0005))
    (mine.filter (fun s => match trainTimeOf anchors (c.slot s) with
      | some t => decide ((start : Int) ≤ t ∧ t < (stop : Int))
      | none => false)).take count
/-- A record as an export writes it: one that reads bad as its window, with its expected SEQ (R432). -/
def Cairn.exported (c : Cairn) (s : Nat) : List Byte :=
  match c.window s with
  | (0, b) => b
  | (_, b) => leBytes 4 s ++ b.drop 4
/-- The records an export writes: while the Cairn is FAILED, those that give their bytes (R311). -/
def Cairn.kept (c : Cairn) (sel : List Nat) : List Nat := if c.st = .failed then sel.filter c.readable else sel
/-- The export header (R311). -/
def Dev.exportHeader (o : ExportOps) (keep : List Nat) (x : Dev) : List Byte :=
  leBytes 4 o.cookie.toNat ++ leBytes 4 keep.length ++ leBytes 4 (keep.head?.getD x.cairn.next) ++
    leBytes 4 x.cairn.headSeq ++ leBytes 8 x.optime ++ leBytes 1 x.cairn.st.code ++ List.replicate 7 0
/-- CAIRN_EXPORT. -/
def Dev.effCairnExport (h : Hdr) (o : ExportOps) (x : Dev) : Dev :=
  let sel := x.cairn.select o.range o.count
  let keep := x.cairn.kept sel
  let y := x.over (keep.zip (List.range keep.length)) (fun e z => z.postBuf o.buf (32 + 32 * e.2) (x.cairn.exported e.1))
  (y.postBuf o.buf 0 (x.exportHeader o keep)).complete h (if keep.length < sel.length then stLogFailed else stOK)
/-- CAIRN_MARK: it completes once its record is written. A record that is not queued leaves it LOG_FAILED. (DEDUCED: log entry 103) -/
def Dev.effCairnMark (h : Hdr) (payload : List Byte) (x : Dev) : Dev :=
  let n := match h.src with
    | .host n => n.val
    | _ => 0
  let y := x.record 0x0050 (0xA000 + n) payload (some h)
  if y.cairn.queue.any (fun r => decide (r.hdr = some h)) then y else y.complete h stLogFailed

end Sys2Proof.Machine
end

