-- ==== Sys2Proof/Machine/Partners.lean ====
section
/-! DEFINITION. Partners, router, mapper and bus service (R367 to R388, R433), and what a frame received without error does
(R351). -/

namespace Sys2Proof.Machine

def Dev.modParts (f : Partners → Partners) (x : Dev) : Dev := { x with parts := f x.parts }
/-- The PARTNER source (R448). -/
def Dev.partnerEvent (K : Memory) (i : Nat) (cond : Nat) (x : Dev) : Dev := x.event K 0xE5 (objCtx i) cond 0

/-! ### Keys (R367 to R370) -/

/-- A field of a partner frame: identifier bits or data bytes; none where it does not lie within the frame. (DEDUCED: log entry 79) -/
def frameField (f : CanFrame) (id : Nat) (data : Bool) (pos width : Nat) : Option Nat :=
  if data then
    let n := (width + 7) / 8
    if pos + n ≤ f.data.length then some (beNat (slice f.data pos n) % 2 ^ width) else none
  else if pos + width ≤ (if f.ide then 29 else 11) then some (id / 2 ^ pos % 2 ^ width)
  else none
/-- A frame as the partner table sees it: no partner frame, one that is too short, or one with its source address and
sequence number. -/
inductive PartnerView where
  | none
  | short
  | key (source : Nat) (seq : Option Nat)
deriving DecidableEq, Repr
/-- The view of a frame received on channel `c` (R367). (DEDUCED: log entry 79) -/
def Memory.partnerView (K : Memory) (c : Nat) (f : CanFrame) : PartnerView :=
  let id := K.noTwin c f.ide f.ident.toNat
  if !K.ptEn c || decide ((id ^^^ K.ptId c) &&& K.ptMask c ≠ 0) then .none
  else
    match frameField f id (K.srcInData c) (K.srcPos c) (K.srcWidth c) with
    | Option.none => .short
    | some s =>
      if K.seqLoc c = 0 then .key s Option.none
      else match frameField f id (K.seqLoc c == 2) (K.seqPos c) (K.seqWidth c) with
        | Option.none => .short
        | some q => .key s (some q)
/-- The class of a source address on a channel (R370). -/
def Memory.classOf (K : Memory) (c source : Nat) : Nat :=
  ((List.range 4).find? (fun k => decide ((source ^^^ K.clsMatch c k) &&& K.clsMask c k = 0))).getD 3

/-! ### Contexts (R371 to R375) -/

/-- The context of a key. -/
def Dev.ctxOf (x : Dev) (group source : Nat) : Option (Fin 256) :=
  (List.finRange 256).find? (fun i => decide ((x.ctx i).st ≠ .free ∧ (x.ctx i).group = group ∧ (x.ctx i).source = source))
/-- The PARTNER record of a context: 1 NEW, 2 GONE_AGED, 3 GONE_EVICTED (R423). -/
def Dev.partnerRecord (i : Fin 256) (kind : Nat) (x : Dev) : Dev :=
  let v := x.ctx i
  x.record 0x0040 (objCtx i.val)
    (leBytes 1 kind ++ leBytes 1 v.group ++ leBytes 1 v.cls ++ [0] ++ leBytes 2 v.source ++ leBytes 1 v.ch.val ++ [0]) none
/-- A context is freed. -/
def Dev.partnerFree (K : Memory) (i : Fin 256) (kind : Nat) (x : Dev) : Dev :=
  ((x.partnerRecord i kind).partnerEvent K i.val 2).modCtx i (fun _ => {})
/-- The heartbeat deadline of a context; none where its class asks for no heartbeat. -/
def Dev.beatDue (K : Memory) (x : Dev) (i : Fin 256) : Option Nat :=
  let v := x.ctx i
  if K.hbMode v.ch.val v.cls = 0 then none
  else some (v.hbTT + 1000000 * K.hbPeriod v.ch.val v.cls * K.hbMiss v.ch.val v.cls)
/-- The freeing instant of a context. -/
def Dev.ageDue (K : Memory) (x : Dev) (i : Fin 256) : Nat := (x.ctx i).lastTT + 1000000000 * K.ageTime (x.ctx i).ch.val (x.ctx i).cls
/-- PARTNER_LATE, while the device is sealed (R373). -/
def Dev.partnerLate (K : Memory) (i : Fin 256) (now : Nat) (x : Dev) : Dev :=
  let v := x.ctx i
  match v.st, x.beatDue K i with
  | .new, some t | .live, some t =>
    if t ≤ now ∧ x.isSealed = true then
      (x.modCtx i (fun v => { v with st := .silent })).faultSet K 0x0302 (objCtx i.val) (leBytes 2 v.source)
    else x
  | _, _ => x
/-- PARTNER_GONE, cause AGED, while the device is sealed. -/
def Dev.partnerGone (K : Memory) (i : Fin 256) (x : Dev) : Dev :=
  if (x.ctx i).st = .free ∨ (x.ctx i).pinned = true ∨ x.tt < x.ageDue K i ∨ x.isSealed = false then x
  else x.partnerFree K i 2
/-- The SILENT unpinned context heard least recently, the lowest-numbered among equals (R374). -/
def Dev.evictable (x : Dev) : Option (Fin 256) :=
  (List.finRange 256).foldl (fun best i =>
    if (x.ctx i).st = .silent ∧ (x.ctx i).pinned = false then
      match best with
      | some j => if (x.ctx i).hbTT < (x.ctx j).hbTT then some i else best
      | none => some i
    else best) none
/-- A context for a new key (R374). (DEDUCED: log entry 80) -/
def Dev.allocCtx (K : Memory) (c : ChanId) (source sof : Nat) (x : Dev) : Dev × Option (Fin 256) :=
  let take := fun (i : Fin 256) (y : Dev) =>
    let z := y.modCtx i (fun _ =>
      { st := .new, group := K.keyGroup c.val, source := source, cls := K.classOf c.val source, ch := c, hbTT := sof
        lastTT := sof })
    (z.partnerRecord i 1).partnerEvent K i.val 1
  match (List.finRange 256).find? (fun i => decide ((x.ctx i).st = .free)) with
  | some i => (take i x, some i)
  | none =>
    match x.evictable with
    | some i => (take i (x.partnerFree K i 3), some i)
    | none =>
      let y := x.modParts (fun p => { p with fullCnt := satInc 32 p.fullCnt, fullRun := true })
      (if x.parts.fullRun then y else y.event K 0xE5 objDevice 5 0, none)
/-- Pinned contexts are allocated at seal, every other is free (R371). The class fields are those of the lowest channel of
the key group. (DEDUCED: log entry 79) -/
def Dev.pinContexts (K : Memory) (x : Dev) : Dev :=
  x.modParts (fun p => { p with
    fullRun := false
    ctx := Vector.ofFn (fun i =>
      if i.val < 16 ∧ K.pinEn i.val = true then
        let c : ChanId := ((List.finRange 8).find? (fun (c : ChanId) =>
          K.ptEn c.val && decide (K.keyGroup c.val = K.pinGroup i.val))).getD
          (((List.finRange 8).find? (fun (c : ChanId) => decide (K.keyGroup c.val = K.pinGroup i.val))).getD 0)
        { st := .new, group := K.pinGroup i.val, source := K.pinSrc i.val, cls := K.classOf c.val (K.pinSrc i.val), ch := c
          pinned := true, hbTT := x.tt, lastTT := x.tt }
      else {}) })

/-! ### The duplicate window (R376, R377) -/

/-- A verdict of the duplicate window. -/
inductive PtVerdict where
  | accept | duplicate | stale
deriving DecidableEq, Repr
/-- The verdict on sequence number `s` of `w` bits: the context after it, the verdict, and whether the window restarted. -/
def Ctx.judge (v : Ctx) (w resync s : Nat) : Ctx × PtVerdict × Bool :=
  if v.empty then ({ v with h := s, win := 1, empty := false, stale := 0 }, .accept, false)
  else
    let d := sext w ((s + 2 ^ w - v.h % 2 ^ w) % 2 ^ w)
    if 0 < d then ({ v with win := v.win <<< d.toNat ||| 1, h := s, stale := 0 }, .accept, false)
    else if -64 < d then
      if v.win.getLsbD (-d).toNat then (v, .duplicate, false)
      else ({ v with win := v.win ||| ((1 : BitVec 64) <<< (-d).toNat), stale := 0 }, .accept, false)
    else if resync ≤ v.stale + 1 then ({ v with h := s, win := 1, stale := 0 }, .accept, true)
    else ({ v with stale := v.stale + 1 }, .stale, false)
/-- A partner frame at its context: verdict, counts, stamps, heartbeat and state (R373, R376, R377). (DEDUCED: log entry 80) -/
def Dev.partnerFrame (K : Memory) (i : Fin 256) (c : ChanId) (f : CanFrame) (seq : Option Nat) (sof : Nat) (x : Dev) :
    Dev × PtVerdict :=
  let x0 := x.partnerLate K i sof
  let v := x0.ctx i
  let r := match seq with
    | none => (v, PtVerdict.accept, false)
    | some s => v.judge (K.seqWidth c.val) (K.staleResync v.ch.val v.cls) s
  let x1 := x0.modCtx i (fun _ => r.1)
  let x2 := if r.2.2 then x1.partnerEvent K i.val 4 else x1
  if r.2.1 = .stale then (x2.modCtx i (fun v => { v with staleCnt := satInc 32 v.staleCnt }), .stale)
  else
    let id := K.noTwin c.val f.ide f.ident.toNat
    let twin := K.twinBit c.val f.ide f.ident.toNat
    let beat : Bool := match K.hbMode v.ch.val v.cls with
      | 1 => true
      | 2 => decide ((id ^^^ K.hbId v.ch.val v.cls) &&& K.hbIdMask v.ch.val v.cls = 0)
      | _ => false
    let acc := decide (r.2.1 = .accept)
    let x3 := x2.modCtx i (fun v => { v with
      acc := if acc then satInc 32 v.acc else v.acc, dup := if acc then v.dup else satInc 32 v.dup
      lastTT := sof, lastTT0 := if twin then v.lastTT0 else sof, lastTT1 := if twin then sof else v.lastTT1
      hbTT := if beat then sof else v.hbTT
      st := if v.st = .new ∧ acc ∧ 1 ≤ v.acc then .live else if v.st = .silent ∧ beat then .live else v.st })
    (if v.st = .silent ∧ beat then x3.partnerEvent K i.val 3 else x3, r.2.1)

/-! ### The router (R378 to R381) -/

/-- Rule `r` matches a frame received on channel `c`. -/
def Memory.routeMatch (K : Memory) (r c : Nat) (f : CanFrame) : Bool :=
  K.rtEn r && decide (K.rtIn r = c) && decide ((f.ident.toNat ^^^ K.rtId r) &&& K.rtMask r = 0) &&
  decide (K.rtFmt r = 0 ∨ K.rtFmt r = fmtCode f.fmt + 1)
/-- The forwarded frame of a rule; none where the conversion is not possible. -/
def Memory.routed (K : Memory) (r : Nat) (f : CanFrame) : Option CanFrame :=
  let id := f.ident.toNat ^^^ (K.rtXid r % (if f.ide then 2 ^ 29 else 2 ^ 11))
  let g := { f with ident := BitVec.ofNat 29 id }
  if f.rtr then some g
  else match K.rtConv r, f.fmt with
    | 1, .fd => if f.data.length ≤ 8 then some { g with fmt := .cc, brs := false, esi := false } else none
    | 2, .cc => some { g with fmt := .fd, brs := K.rtBrs r }
    | _, _ => some g
/-- An output channel takes forwarded frames. -/
def Dev.routeOpen (K : Memory) (x : Dev) (o : ChanId) (f : CanFrame) : Bool :=
  x.fmtOn K o f.fmt && decide (x.txRefuse K o = none ∧ (x.ch o).mode ≠ .detect) &&
  decide (((x.ch o).txq.filter (fun t => Src.isRoute t.hdr.src)).length < 64)
/-- A rule forwards a frame to one output channel. (DEDUCED: log entry 81) -/
def Dev.forward (K : Memory) (r : Fin 128) (f : CanFrame) (o : ChanId) (x : Dev) : Dev :=
  match (K.routed r.val f).filter (fun g => x.routeOpen K o g) with
  | some g =>
    let y := (x.busRelease K (x.ownHdr (.route r)) o g (K.rtRetry r.val) (x.tt + K.rtSlack r.val)).newUid
    (y.modCh o (fun v => { v with dropRun := false })).modParts (fun p => { p with
      fwdCnt := p.fwdCnt.set r.val (satInc 32 (p.fwdCnt.get r)) r.isLt })
  | none =>
    let run := (x.ch o).dropRun
    let y := (x.modCh o (fun v => { v with dropRun := true })).modParts (fun p => { p with
      dropCnt := p.dropCnt.set r.val (satInc 32 (p.dropCnt.get r)) r.isLt })
    if run then y else y.event K 0xE6 (objChan o.val) 1 0
/-- The router decides a frame; `passes` is what RT_ACCEPT_ONLY asks for. (DEDUCED: log entry 81) -/
def Dev.route (K : Memory) (c : ChanId) (f : CanFrame) (passes : Bool) (x : Dev) : Dev :=
  match (List.finRange 128).find? (fun r => K.routeMatch r.val c.val f) with
  | none => x
  | some r =>
    if K.rtForward r.val && (passes || !K.rtAcceptOnly r.val) then
      x.over ((List.finRange 8).filter (fun o => K.rtOut r.val o.val && decide (o ≠ c))) (fun o y => y.forward K r f o)
    else x

/-! ### The mapper (R382 to R387) -/

/-- Rule `r` matches a partner frame of a source. -/
def Memory.mapMatch (K : Memory) (r c source : Nat) (f : CanFrame) : Bool :=
  K.mapEn r && decide (K.mapCh r = c) &&
  decide ((K.noTwin c f.ide f.ident.toNat ^^^ K.mapId r) &&& K.mapIdMask r = 0) &&
  decide ((source ^^^ K.mapSrc r) &&& K.mapSrcMask r = 0)
/-- The doorway command of CMD and SET (R383). -/
def mapCommand (cmd : Nat) (set : Bool) : Option DoorCmd :=
  match cmd with
  | 1 => some .opening
  | 2 => some .close
  | 3 => some (.holdOpen set)
  | 4 => some (.buttons set)
  | 5 => some .faultReset
  | _ => none
/-- The target set of a command field. -/
def Memory.mapTargets (K : Memory) (doors sides : Nat) : List DoorId :=
  (List.finRange 8).filter (fun d => doors.testBit d.val || (K.dwEn d.val && sides.testBit (if K.dwSide d.val then 1 else 0)))
/-- Item of R384 for which a command field is bad; 0 for a good one. -/
def Memory.mapBad (K : Memory) (r : Nat) (f : CanFrame) : Nat :=
  let o := K.mapOffset r
  let b0 := (f.data.getD o 0).toNat
  let b2 := (f.data.getD (o + 2) 0).toNat
  let cmd := b0 % 128
  if f.data.length < o + 8 then 1
  else if (mapCommand cmd false).isNone || !K.mapCmds r (cmd - 1) then 2
  else if decide (8 ≤ b2) || (decide (128 ≤ b0) && !decide (cmd = 3 ∨ cmd = 4)) ||
      (!b2.testBit 2 && decide (beNat (slice f.data (o + 4) 4) ≠ 0)) then 3
  else if (K.mapTargets (f.data.getD (o + 1) 0).toNat (b2 % 4)).isEmpty then 4
  else 0
/-- Launch time of a timed frame stamped at `sof` (R385). -/
def mapLaunch (lt sof : Nat) : Nat :=
  let s := sof / 1000
  (1000 * ((s : Int) + sext 32 ((lt + 2 ^ 32 - s % 2 ^ 32) % 2 ^ 32))).toNat
/-- A frame that rule `r` maps: one action for each doorway of its target set (R385, R386). -/
def Dev.mapFrame (K : Memory) (r : Nat) (c : ChanId) (f : CanFrame) (source sof : Nat) (x : Dev) : Dev :=
  let o := K.mapOffset r
  let b0 := f.data.getD o 0
  let b2 := (f.data.getD (o + 2) 0).toNat
  let ds := K.mapTargets (f.data.getD (o + 1) 0).toNat (b2 % 4)
  let timed := b2.testBit 2
  let launch := if timed then mapLaunch (beNat (slice f.data (o + 4) 4)) sof else x.tt
  let key := x.sched.nextUid
  let todo : BitVec 8 := ds.foldl (fun v d => v ||| (1 <<< d.val)) 0
  let y := x.newUid.modParts (fun p => { p with mapped := p.mapped ++
    [{ key := key, ch := c, rule := r, cmd := b0, source := source, byte3 := f.data.getD (o + 3) 0, todo := todo }] })
  let cmd := (mapCommand (b0.toNat % 128) (decide (128 ≤ b0.toNat))).getD .close
  y.over ds (fun d z =>
    if timed ∧ z.time.state = .unset then z.mapDecide K key d stState false
    else
      let w := z.schedOwn K (.mapped c key) (.door d cmd) launch (launch + K.mapSlack r)
      if w.2 then w.1
      else
        (w.1.modParts (fun p => { p with
          mapped := p.mapped.map (fun m => if m.key = key then { m with full := true } else m) })).mapDecide K key d stState
          false)
/-- The mapper acts on a partner frame with verdict ACCEPT (R384). -/
def Dev.mapper (K : Memory) (c : ChanId) (f : CanFrame) (source sof : Nat) (x : Dev) : Dev :=
  match (List.range 16).find? (fun r => K.mapMatch r c.val source f) with
  | none => x
  | some r =>
    match K.mapBad r f with
    | 0 => x.mapFrame K r c f source sof
    | n =>
      (x.modParts (fun p => { p with mapBad := satInc 32 p.mapBad, mapBadCause := n })).event K 0xE9 objDevice 1 0

/-! ### The bus service (R433) -/

/-- A response enters the scheduler on fetch. (DEDUCED: log entries 16, 82) -/
def Dev.svcReply (K : Memory) (tag : Byte) (status index : Nat) (body : List Byte) (x : Dev) : Dev :=
  match K.svcCh with
  | none => x
  | some c =>
    let uid := x.sched.nextUid
    let f := ownFrame (if K.svcXl then .xl else .fd) K.svcIde K.svcRspId
      ([0x44, tag] ++ leBytes 1 status ++ leBytes 1 index ++ [0, 0, 0, 0] ++ padTo 40 body)
    let r := x.schedOwn K .service (.busTx c f 255) x.tt (x.tt + 100000000)
    if r.2 then r.1.modParts (fun p => { p with svcBusy := p.svcBusy ++ [uid] }) else r.1
/-- A well-formed request is answered, or told BUSY while a reply is being sent. (DEDUCED: log entry 82) -/
def Dev.svcServe (K : Memory) (tag : Byte) (ok : Bool) (f : Dev → Dev) (x : Dev) : Dev :=
  if K.svcCh.isNone then x
  else if !ok then x.svcReply K tag 5 0 []
  else if !x.parts.svcBusy.isEmpty then x.svcReply K tag 4 0 []
  else f x
/-- RECORDS. -/
def Dev.svcRecords (K : Memory) (tag : Byte) (count first : Nat) (x : Dev) : Dev :=
  x.svcServe K tag (decide (1 ≤ count ∧ count ≤ 64)) (fun x =>
    let c := x.cairn
    let start := if seqBefore first c.oldest then c.oldest else first
    let n := if seqBefore c.headSeq start then 0 else (c.next + 2 ^ 32 - start) % 2 ^ 32
    x.over (List.range (min n count)) (fun i y =>
      let w := c.window ((start + i) % 2 ^ 32)
      y.svcReply K tag w.1 i w.2))
/-- LEDGER. -/
def Dev.svcLedger (K : Memory) (tag : Byte) (arg : Nat) (x : Dev) : Dev :=
  match finOf 8 arg with
  | some d => x.svcServe K tag true (fun x => x.svcReply K tag 0 0 ((x.dw d).ledger.toList.flatMap (leBytes 4)))
  | none => x.svcServe K tag false id
/-- STATUS. (DEDUCED: log entry 82) -/
def Dev.svcStatus (K : Memory) (tag : Byte) (x : Dev) : Dev :=
  x.svcServe K tag true (fun x =>
    let c := x.cairn
    x.svcReply K tag 0 0 (leBytes 4 c.headSeq ++ leBytes 4 c.oldest ++ leBytes 8 x.optime ++ leBytes 4 c.pcc ++ leBytes 1 c.st.code))
/-- A frame is a service request. -/
def Memory.isSvc (K : Memory) (c : ChanId) (f : CanFrame) : Bool :=
  decide (K.svcCh = some c) && (f.ide == K.svcIde) && decide (8 ≤ f.data.length) &&
  decide (K.noTwin c.val f.ide f.ident.toNat = K.noTwin c.val f.ide K.svcReqId)
/-- A request is malformed. (DEDUCED: log entry 82) -/
def svcBad (f : CanFrame) : Bool :=
  let b := fun (i : Nat) => (f.data.getD i 0).toNat
  decide (b 0 ≠ 0x43) ||
  (match b 2 with
   | 1 => decide (b 3 < 1 ∨ 64 < b 3)
   | 2 => decide (b 3 ≠ 0 ∨ 8 ≤ beNat (slice f.data 4 4))
   | 3 => decide (b 3 ≠ 0 ∨ beNat (slice f.data 4 4) ≠ 0)
   | _ => true)

/-! ### A frame received (R351, R367) -/

/-- The partner table, the mapper and the router take a frame. -/
def Dev.partnersTake (K : Memory) (c : ChanId) (f : CanFrame) (sof : Nat) (x : Dev) : Dev :=
  match K.partnerView c.val f with
  | .none => x.route K c f true
  | .short =>
    (x.modParts (fun p => { p with short := p.short.set c.val (satInc 32 (p.short.get c)) c.isLt })).route K c f true
  | .key source seq =>
    let a := match x.ctxOf (K.keyGroup c.val) source with
      | some i => (x, some i)
      | none => x.allocCtx K c source sof
    match a.2 with
    | none => a.1.route K c f false
    | some i =>
      let r := (a.1.modParts (fun p => { p with fullRun := false })).partnerFrame K i c f seq sof
      let acc := decide (r.2 = PtVerdict.accept)
      (if acc then r.1.mapper K c f source sof else r.1).route K c f acc
/-- A channel ends a frame without error. (DEDUCED: log entry 76) -/
def Dev.frameReceived (K : Memory) (c : ChanId) (f : CanFrame) (sof : Nat) (x : Dev) : Dev :=
  match (x.ch c).mode with
  | .detect => (x.sampleCancels K c sof).detectFrame K c f
  | .running =>
    if !x.fmtOn K c f.fmt then x
    else
      let x1 := (x.rxGood K c).sampleCancels K c sof
      let x2 := if K.isSync c f then x1.syncReceive K c f sof else x1
      let x3 := if x2.isPeerBeat K c f then x2.peerBeat K f else x2
      let x4 := if K.isSvc c f && svcBad f then x3.svcReply K (f.data.getD 1 0) 5 0 [] else x3
      (x4.partnersTake K c f sof).toHost K c f sof false
  | _ => x

end Sys2Proof.Machine
end

