-- ==== Sys2Proof/Machine/Seal.lean ====
section
/-! DEFINITION. Seal and unseal (R467 to R471): the seal checks in the groups of R468, the seal instant, and the end of a
seal. -/

namespace Sys2Proof.Machine

/-- The lowest-numbered of `n` objects a check finds at fault. (DEDUCED: log entry 109) -/
def lowest (n : Nat) (bad : Fin n → Bool) : Option Nat := ((List.finRange n).find? bad).map Fin.val

/-! ### Group 0x01: doorway and safety I/O resources (R60, R75, R93) -/

/-- Roles of enabled doorways that `use d` counts (R60). -/
def Memory.usesOf (K : Memory) (use : Nat → Nat) : Nat :=
  ((List.range 8).map (fun d => if K.dwEn d then use d else 0)).sum
/-- Times an axis, an input and an output serve roles of enabled doorways. -/
def Memory.axUses (K : Memory) (a : AxisId) : Nat :=
  K.usesOf (fun d => ((List.range 4).filter (fun i => decide (K.doorAx d i = some a))).length)
def Memory.inUses (K : Memory) (v : InId) : Nat :=
  K.usesOf (fun d => ((List.range 11).filter (fun i => decide (K.doorIn d i = some v))).length)
def Memory.outUses (K : Memory) (o : OutId) : Nat :=
  K.usesOf (fun d => ((List.range 4).filter (fun i => decide (K.doorOut d i = some o))).length)
/-- A required resource of R59 is unassigned. -/
def Memory.doorLacks (K : Memory) (d : Nat) : Bool :=
  (K.doorAx d 0).isNone || (if K.lockSol d then (K.doorOut d 0).isNone else (K.doorAx d 3).isNone) ||
  (K.doorIn d 5).isNone || (K.doorIn d 7).isNone || (K.doorIn d 8).isNone ||
  ((K.doorAx d 2).isSome && ((K.doorIn d 9).isNone || (K.doorIn d 10).isNone))
/-- A resource of the doorway is shared against R60. -/
def Memory.doorShares (K : Memory) (d : Nat) : Bool :=
  (List.range 4).any (fun i => match K.doorAx d i with
    | some a => decide (1 < K.axUses a)
    | none => false) ||
  [5, 6, 7, 8].any (fun i => match K.doorIn d i with
    | some v => decide (1 < K.inUses v)
    | none => false) ||
  (match K.doorOut d 0 with
   | some o => decide (1 < K.outUses o)
   | none => false)
/-- A leaf axis is a stepper without what R93 asks for. -/
def Memory.stepperLeaf (K : Memory) (d : Nat) : Bool :=
  (K.leaves d).any (fun l => K.axKind l.2.val == 2) &&
  (K.forceDetEn d || ((K.doorIn d 3).isNone && (K.doorIn d 4).isNone))
/-- An enabled doorway fails group 0x01. The safety inputs and outputs have roles of their own that no field can assign,
so R75 and the last item of R60 find nothing. -/
def Memory.sealDoor (K : Memory) (d : Fin 8) : Bool :=
  K.dwEn d.val && (K.doorLacks d.val || K.doorShares d.val || K.stepperLeaf d.val)

/-! ### Groups 0x02 to 0x06 -/

/-- A doorway lacks an envelope (R96). -/
def Dev.sealEnv (K : Memory) (x : Dev) (d : Fin 8) : Bool :=
  K.dwEn d.val && K.forceDetEn d.val && !((x.dw d).envOpenValid && (x.dw d).envCloseValid)
/-- A profile set of an axis breaks R116 or R162. -/
def Memory.sealProf (K : Memory) (a : Fin 24) : Bool :=
  (List.range 4).any (fun s => !setOk (K.profSet a.val s) ||
    (K.axKind a.val == 2 && !K.stepperOk a.val (K.profSet a.val s).vRidge))
/-- An axis follows against R165. (DEDUCED: log entry 111) -/
def Memory.sealFollow (K : Memory) (a : Fin 24) : Bool :=
  let p := K.followPort a.val
  K.followEn a.val &&
  ((K.owner a).isSome || (K.axKind a.val == 1 && decide (p = a)) || (K.axKind p.val == 1 && K.followEn p.val))
/-- U_LIM_FINAL is greater than U_LIM (R170). -/
def Memory.sealLim (K : Memory) (a : Fin 24) : Bool := decide (K.uLim a.val < K.uLimFinal a.val)
/-- A port breaks R221. -/
def Memory.sealPort (K : Memory) (a : Fin 24) : Bool :=
  decide (K.carN a.val ≤ 2 * K.deadTime a.val + K.minPulse a.val) ||
  (K.fbMode a.val == 4 && decide (1000 * K.ssiLead a.val < (K.ssiBits a.val + 1) * K.ssiDiv a.val * 5 ∨
    K.period a.val ≤ 1000 * K.ssiLead a.val))

/-! ### Group 0x07: Atolls and translation (R272, R325) -/

/-- Bytes of an entry of an Atoll type (R271). -/
def entrySize (t : Nat) : Nat := match t with | 1 => 64 | 2 => 16 | 3 => 48 | 4 => 32 | _ => 0
/-- Bytes of the ring of an Atoll. -/
def Memory.ringLen (K : Memory) (n : Nat) : Nat := K.atlSize n * entrySize (K.atlType n)
/-- Two enabled rings overlap. A COMMAND_V1 ring lies in IOVA space, the others in bus addresses. (DEDUCED: log entry 112) -/
def Memory.ringsMeet (K : Memory) (n m : Nat) : Bool :=
  decide (K.atlType n ≠ 0 ∧ K.atlType m ≠ 0 ∧ (K.atlType n = 4 ↔ K.atlType m = 4) ∧
    K.atlAddr n < K.atlAddr m + K.ringLen m ∧ K.atlAddr m < K.atlAddr n + K.ringLen n)
/-- An Atoll breaks R272 or R325. (DEDUCED: log entry 112) -/
def Memory.sealAtoll (K : Memory) (n : Fin 48) : Bool :=
  let t := K.atlType n.val
  let wb := K.atlWb n.val
  decide (t ≠ 0) &&
  ((K.isCommand n && (K.cqOf n).isNone) ||
   (List.finRange 48).any (fun m => decide (m ≠ n) && K.ringsMeet n.val m.val) ||
   (decide (wb ≠ 0) && (List.range 48).any (fun m =>
     decide (K.atlType m ≠ 0 ∧ K.atlType m ≠ 4 ∧ K.atlAddr m ≤ wb ∧ wb < K.atlAddr m + K.ringLen m))) ||
   (t == 4 && decide (K.tuRoot = 0 ∨ K.tuRoot % 32768 ≠ 0 ∨ 2 ^ 36 ≤ K.atlAddr n.val)))

/-! ### Group 0x08: channels and time roles (R35, R36, R343, R365, R433) -/

/-- Nominal and data bit of a timing pair at `k`, in minimum time quanta. -/
def Memory.nomBit (K : Memory) (k : Nat) : Nat := K.bits k 0 6 * (1 + K.bits k 6 9 + K.bits k 15 8)
def Memory.datBit (K : Memory) (k : Nat) : Nat := K.bits k 0 4 * (1 + K.bits k 4 6 + K.bits k 10 5)
/-- A timing of R343 with the formats FD and XL it is used for is out of bounds. -/
def Memory.timingBad (K : Memory) (kn kd : Nat) (fd xl tms : Bool) (s l o : Nat) : Bool :=
  decide (K.bits kn 6 9 + K.bits kn 15 8 + 1 < 8 ∨ K.nomBit kn < 80 ∨ 8000 < K.nomBit kn) ||
  decide (K.bits kn 6 9 < K.bits kn 23 8 ∨ K.bits kn 15 8 < K.bits kn 23 8) ||
  decide (K.bits kd 4 6 < K.bits kd 15 5 ∨ K.bits kd 10 5 < K.bits kd 15 5) ||
  ((fd || xl) && decide (K.datBit kd < 8 ∨ K.nomBit kn < K.datBit kd)) || (fd && decide (K.datBit kd < 10)) ||
  (tms && decide (s + l ≠ K.datBit kd ∨ s ≤ o))
/-- An enabled channel or a candidate in use breaks R343. -/
def Memory.channelTiming (K : Memory) (c : Nat) : Bool :=
  let b := chBase c
  let tms := K.bit b 5
  let pwm := fun (f : Nat → Nat → Nat → Bool) => f (K.bits (b + 0xC) 0 6) (K.bits (b + 0xC) 8 6) (K.bits (b + 0xC) 16 6)
  K.chEn c &&
  (pwm (K.timingBad (b + 4) (b + 8) (K.bit b 2) (K.bit b 3) tms) ||
   (K.rateAuto c && (List.range (min 8 (K.rateNcand c))).any (fun j =>
     pwm (K.timingBad (b + 0x284 + 16 * j) (b + 0x288 + 16 * j) (K.bit (b + 0x280 + 16 * j) 2) (K.bit (b + 0x280 + 16 * j) 3)
       tms))) ||
   (K.listenOnly c && K.timeRole c == 1))
/-- A channel fails group 0x08. A second FOLLOWER of one source rank breaks R35. (DEDUCED: log entry 110) -/
def Memory.sealChan (K : Memory) (c : Fin 8) : Bool :=
  let n := c.val
  (K.timeRole n == 2 && (List.range n).any (fun m => K.timeRole m == 2 && (K.sourceRank m == K.sourceRank n))) ||
  (K.timeRole n == 2 && K.sourceRank n && !(List.range 8).any (fun m => K.timeRole m == 2 && !K.sourceRank m)) ||
  !K.fmtEn n (K.syncFmt n) || (decide (K.syncFmt n = .xl) && K.syncIde n) || K.channelTiming n ||
  (K.wakeMode n == 2 && decide (K.nomBit (chBase n + 4) < 160)) ||
  (decide (K.svcCh = some c) && !K.fmtEn n .fd && !K.fmtEn n .xl)

/-! ### Groups 0x09 to 0x0B -/

/-- A pinned context has the key of a lower one (R371). -/
def Memory.sealPin (K : Memory) (i : Fin 16) : Bool :=
  K.pinEn i.val && (List.range 16).any (fun j => decide (j ≠ i.val) && K.pinEn j &&
    decide (K.pinGroup j = K.pinGroup i.val ∧ K.pinSrc j = K.pinSrc i.val))
/-- The twin set-up breaks R392: the channel concerned, or `none'` where TWIN_HB_CH names none. (DESIGN CHOICE: log entry 99) -/
def Dev.sealTwin (K : Memory) (x : Dev) (none' : Nat) : Option Nat :=
  if !x.twin.en then none
  else match K.hbCh with
    | none => some none'
    | some c => if !K.chEn c.val || K.listenOnly c.val then some c.val else none
/-- The ranks R446 allows for a code whose rank FLT_RANK sets. (DEDUCED: log entry 114) -/
def rankAllowed (code r : Nat) : Bool :=
  decide (faultMin code ≤ r) &&
  (if code = 0x0204 then decide (1 ≤ r ∧ r ≤ 7)
   else if code = 0x0302 then decide (r = 1 ∨ r = 2)
   else if code = 0x0002 then decide (r = 1 ∨ r = 2 ∨ r = 6 ∨ r = 7)
   else decide (r = 1 ∨ r = 2 ∨ r = 7))
/-- The codes whose rank FLT_RANK sets, in ascending order. -/
def rankCodes : List Nat :=
  [0x0002, 0x0003, 0x0004, 0x0005, 0x0100, 0x0101, 0x0102, 0x0103, 0x0104, 0x0105, 0x0106, 0x0107, 0x0108, 0x0204,
   0x0300, 0x0301, 0x0302, 0x0404, 0x0405, 0x0406, 0x0500, 0x0501, 0x0502, 0x0503]

/-! ### Judging a seal (R468) -/

/-- The first failing group of R468 with the index of the object concerned; none when every check passes. Start-up ends
within the release of the reset, so reason 0x0C finds nothing. (DESIGN CHOICE: log entries 99, 108; DEDUCED: log entries 109, 113) -/
def Dev.judgeSeal (K : Memory) (x : Dev) : Option (Nat × Nat) :=
  let adm := x.admission K none
  let groups : List (Nat × Option Nat) :=
    [(0x01, lowest 8 K.sealDoor), (0x02, lowest 8 (x.sealEnv K)), (0x03, lowest 24 K.sealProf),
     (0x04, lowest 24 K.sealFollow),
     (0x05, match lowest 24 K.sealLim with
       | some a => some a
       | none => if adm.1 = 0 then none else some adm.2),
     (0x06, lowest 24 K.sealPort), (0x07, lowest 48 K.sealAtoll), (0x08, lowest 8 K.sealChan), (0x09, lowest 16 K.sealPin),
     (0x0A, x.sealTwin K (x.fresh.toNat % 65536)),
     (0x0B, rankCodes.find? (fun c => !rankAllowed c (K.fltRank c)))]
  groups.findSome? (fun g => g.2.map (fun i => (g.1, i)))
def Dev.modSu (f : SealUnit → SealUnit) (x : Dev) : Dev := { x with su := f x.su }
/-- SEAL_STATUS shows an outcome: 1 ACCEPTED, 2 REFUSED. -/
def Dev.sealResult (r reason index : Nat) (x : Dev) : Dev :=
  x.modSu (fun u => { u with result := r, reason := reason, index := index })
/-- A request is being judged, or waits for its instant (R468, R471). -/
def Dev.judging (x : Dev) : Bool := x.su.sealing || x.su.unsealing
/-- A request for seal (R468, R471). The admission check of R196 shows its result when the groups before it pass. (DESIGN CHOICE: log entry 108) -/
def Dev.sealRequest (K : Memory) (x : Dev) : Dev :=
  if x.judging then x.modSu (fun u => { u with reqBusy := true })
  else if x.isSealed then x.sealResult 1 0 0
  else
    match x.judgeSeal K with
    | none => ((x.admitAll K none).sealResult 1 0 0).modSu (fun u => { u with sealing := true })
    | some (r, i) =>
      let tested := decide (5 < r) || (decide (r = 5) && (lowest 24 K.sealLim).isNone)
      ((x.when tested (Dev.admitAll K none)).sealResult 2 r i).drawn

/-! ### The seal instant (R469) -/

/-- A word of SAFE_CFG_CRC with the bits that belong to included fields (R456). -/
def safeWords : List (Nat × Word) :=
  ((List.range 8).flatMap (fun d => let b := dwBase d
    [(b + 0x20, 0x00F0001F#32), (b + 0x24, 0x1F1F1F1F#32), (b + 0x28, 0xFFFFFFFF#32), (b + 0x2C, 0xFFFFFFFF#32),
     (b + 0x30, 0x00FFFFFF#32), (b + 0x34, 0x7F7F7F7F#32)])) ++
  [(0x3800, 0x31F#32), (0x3804, 0x01FF01FF#32), (0x3808, 0x01FF01FF#32), (0x381C, 0xFFFFFFFF#32), (0x3820, 0xFFFFFFFF#32),
   (0x3824, 0xFFFF#32), (0x3828, 0x7F#32), (0x7000, 0xFFFFFFFF#32), (0x7004, 0xFFFFFFFF#32)] ++
  (List.range 16).map (fun i => (0x7010 + 4 * i, 0xFFFFFFFF#32))
/-- SAFE_CFG_CRC (R456). -/
def Memory.safeCrc (K : Memory) : Word :=
  BitVec.ofNat 32 (crc32 (safeWords.flatMap (fun w => leBytes 4 (K.word w.1 &&& w.2).toNat)))
/-- The SEAL record: 1 SEALED, 2 UNSEALED (R423). (DEDUCED: log entry 116) -/
def Dev.sealRecord (v : Nat) (x : Dev) : Dev := x.record 0x0004 objDevice (leBytes 1 v) none
/-- An axis at seal: working copies, CMD_LIMIT and the loop (R117, R118, R189). -/
def Memory.axisSeal (K : Memory) (a : Fin 24) (v : Axis) : Axis :=
  { v with
    gen := { v.gen with
      sets := Vector.ofFn (fun s => K.profSet a.val s.val), cmdLimit := 4294967295, next := [], heldChanges := [] }
    orders := [], trail := false, fol := { v.fol with base := v.gen.x }
    eng := if K.axKind a.val = 1 then { v.eng with loopClosed := true, computed := false } else v.eng }
/-- The seal instant: everything of R469 takes effect together, the initial states of the doorways among it, which are their
transition of the frame that begins then (R62, R83). HOLD_OPEN and BTN_ENABLED keep the values they had before the unseal, which no
rule clears (R66). (DESIGN CHOICE: log entry 24; DEDUCED: log entries 30, 116) -/
def Dev.sealInstant (K : Memory) (x : Dev) : Dev :=
  if !x.su.sealing || !x.atMultiple 200000 then x
  else
    let y := (x.modSu (fun u => { u with sealed := true, sealing := false, safeCrc := K.safeCrc })).each 24
      (fun a z => z.modAx a (K.axisSeal a))
    let u := ({ y with sched := { y.sched with fullRun := false } } : Dev).each 8 (fun c v =>
      (v.chSeal K c).modCh c (fun w => { w with run := true }))
    let w := (((u.each 24 (fun a v => v.carrierStart K a)).pinContexts K).twinSeal K).sealRecord 1
    w.each 8 (fun d v => if K.dwEn d.val then v.dwEnter K d (v.initialRow K d) else v)

/-! ### Unseal (R470) -/

/-- Why an unseal is refused: the lowest axis that is not at standstill or is in manual mode, 0xFFFF for a launch scheduler
that is not empty; none when it may be made. (DEDUCED: log entry 115) -/
def Dev.unsealBusy (K : Memory) (x : Dev) : Option Nat :=
  match lowest 24 (fun a => decide (K.axKind a.val ≠ 0) && (!(x.ax a).still || decide ((x.ax a).eng.mode ≠ .auto))) with
  | some a => some a
  | none => if x.sched.pend.isEmpty then none else some 0xFFFF
/-- A request for unseal (R468, R470, R471). (DEDUCED: log entry 115) -/
def Dev.unsealRequest (K : Memory) (x : Dev) : Dev :=
  if x.judging then x.modSu (fun u => { u with reqBusy := true })
  else if !x.isSealed then x.sealResult 1 0 0
  else match x.unsealBusy K with
    | some i => x.sealResult 2 0x20 i
    | none => x.modSu (fun u => { u with unsealing := true })
/-- The effects of an unseal. (DEDUCED: log entry 28) -/
def Dev.unsealNow (K : Memory) (x : Dev) : Dev :=
  let y := x.each 8 (fun d z =>
    if (z.dw d).st = .disabled then z
    else ((z.modDw d (fun w => { w with cycOn := false, creepExt := false })).dwEnter K d { st := .disabled }).setUnlock d false)
  let z := ((y.doorOutputs K).modSu (fun u => { u with sealed := false })).each 24 (fun a v => v.modAx a (fun w =>
    { w with eng := { w.eng with loopClosed := false } }))
  let u := ((z.doorTail K).each 8 (fun c v => v.chUnseal c)).twinUnseal K
  (u.each 24 (fun a v => v.gateNow K a)).sealRecord 2
/-- The frame boundary after an accepted unseal request: it is judged again and takes effect. (DEDUCED: log entry 115) -/
def Dev.unsealEffect (K : Memory) (x : Dev) : Dev :=
  if !x.su.unsealing || !x.atMultiple 25000 then x
  else
    let y := x.modSu (fun u => { u with unsealing := false })
    match y.unsealBusy K with
    | some i => y.sealResult 2 0x20 i
    | none => (y.sealResult 1 0 0).unsealNow K

/-! ### Automatic seal (R467) -/

/-- Nmax of R467. (DEDUCED: log entry 117) -/
def Memory.maxCeil (K : Memory) : Nat :=
  max ((List.range 64).foldl (fun m i => max m (K.inCeil i)) 0) ((List.range 8).foldl (fun m j => max m (K.sinCeil j)) 0)
/-- Earliest cycle of the automatic seal request. (DEDUCED: log entry 117) -/
def Dev.autoSealAt (K : Memory) (x : Dev) : Option Nat := x.img.loadedAt.map (fun e => e + 200000 * (K.maxCeil + 1))
/-- The device requests seal itself after a LOAD_SEAL image, once. -/
def Dev.autoSeal (K : Memory) (x : Dev) : Dev :=
  match x.autoSealAt K with
  | some c =>
    if c ≤ x.time.cyc then (({ x with img := { x.img with loadedAt := none } } : Dev)).sealRequest K else x
  | none => x

end Sys2Proof.Machine
end

