-- ==== Sys2Proof/Machine/Power.lean ====
section
/-! DEFINITION. Power, reset and start-up (R458 to R466, R473, R474): device resets, what survives them, the release with the
recorder start-up and the set-up image, the power-fail warning, and device sleep. -/

namespace Sys2Proof.Machine

/-! ### Device resets (R461 to R463) -/

/-- The keeper after a device reset (R463, R502): its fields survive every cause but POWER_ON. (DEDUCED: log entry 121) -/
def Keeper.afterReset (cause : Nat) (k : Keeper) : Keeper :=
  if cause = 1 then {} else { k with phase := .inReset, cause := cause, pfWarn := false, sleepRefused := false }
/-- The recorder MRAM keeps the ring, the epitaphs and the ledger copies; everything else of the recorder starts again
(R420, R428, R430, R435). -/
def Cairn.afterReset (c : Cairn) : Cairn :=
  { mram := c.mram, first := c.first, failSlot := c.failSlot, failCause := c.failCause, epis := c.epis,
    ledger0 := c.ledger0, ledger1 := c.ledger1 }
/-- The block under a device reset: every field at its reset value but those of the keeper, the recorder MRAM and the
configuration MRAM. (DESIGN CHOICE: log entry 122) -/
def Dev.inReset (cause : Nat) (x : Dev) : Dev :=
  { cairn := x.cairn.afterReset, keeper := x.keeper.afterReset cause
    img := { slot0 := x.img.slot0, slot1 := x.img.slot1 }, free := x.free }
/-- Set-up registers after a device reset: WAKE_TIMER and WAKE_PERST survive every cause but POWER_ON (R463). -/
def Memory.afterReset (cause : Nat) (K : Memory) : Memory :=
  if cause = 1 then [] else (Memory.put [] 0xB814 (K.word 0xB814)).put 0xB818 (K.word 0xB818)
/-- A device reset of a cause. -/
def State.deviceReset (cause : Nat) (s : State) : State :=
  { s with cfg := s.cfg.afterReset cause, dev := s.dev.inReset cause }
/-- A wake of the sleeping device: a reset of cause WAKE, or PIN for a wake by MRST_N (R474). -/
def State.wake (src ch : Nat) (w : Option (ChanId × Nat × Bool × Nat)) (s : State) : State :=
  let t := s.deviceReset (if src = 4 then 3 else 5)
  { t with dev := { t.dev with keeper := { t.dev.keeper with wakeSrc := src, wakeCh := ch, wake := w } } }
/-- VIN_LOG rises through the keeper threshold. -/
def State.powerOn (s : State) : State := s.deviceReset 1
/-- VIN_LOG falls below the keeper threshold: the keeper is unpowered and its fields are lost (R458). -/
def State.unpowered (s : State) : State :=
  let t := s.deviceReset 1
  { t with dev := { t.dev with keeper := { t.dev.keeper with phase := .unpowered } } }
/-- BROWN_OUT. -/
def State.brownOut (s : State) : State := if s.dev.keeper.phase = .unpowered then s else s.deviceReset 2
/-- PIN: a reset, or a wake of the sleeping device. -/
def State.pinReset (s : State) : State :=
  match s.dev.keeper.phase with
  | .unpowered => s
  | .asleep => s.wake 4 0 none
  | _ => s.deviceReset 3
/-- SOFTWARE: the key written to SW_RESET while unsealed. (DEDUCED: log entry 129) -/
def State.swReset (v : Word) (s : State) : State :=
  if s.dev.keeper.phase = .run ∧ s.dev.isSealed = false ∧ v = 0x0000A5C3#32 then s.deviceReset 4 else s
/-- REF_LOST, while the other islands run. -/
def State.refLost (s : State) : State := if s.dev.keeper.phase = .run then s.deviceReset 6 else s

/-! ### Set-up images (R465, R466) -/

/-- The set-up fields of an image: everything held but IMG_BOOT and TT_SET, which are no set-up fields. (DEDUCED: log entry 118) -/
def Memory.suPart (K : Memory) : Memory := ((K.put 0x44 0).put 0x810 0).put 0x814 0
/-- The set-up fields an image holds, loaded one by one. (DEDUCED: log entry 118) -/
def Memory.loaded (m : Memory) : Memory := m.foldl (fun K e => K.put e.1 e.2) []
/-- Image of a slot that is valid. -/
def okImage (i : Option Image) : Option Image := i.filter (fun m => m.valid)
/-- Slot 1 holds the higher image sequence (compared modulo 2^32). (DEDUCED: log entry 118) -/
def Images.newer1 (g : Images) : Bool :=
  match okImage g.slot0, okImage g.slot1 with
  | some a, some b => seqBefore a.seq b.seq
  | none, some _ => true
  | _, none => false
/-- The valid image with the higher sequence. -/
def Images.best (g : Images) : Option Image := if g.newer1 then okImage g.slot1 else okImage g.slot0
/-- The image IMG_SAVE saves. -/
def Dev.imageOf (K : Memory) (x : Dev) : Image :=
  { seq := wrapInc 32 ((x.img.best.map Image.seq).getD 0), boot := K.imgBoot, cfg := K.suPart
    progs := Vector.ofFn (fun a => (x.axes.get a).eng.prog)
    envs := Vector.ofFn (fun d =>
      let w := x.doors.get d
      (if w.envOpenValid then some w.envOpen else none, if w.envCloseValid then some w.envClose else none))
    valid := true }
/-- IMG_SAVE: a save begins while the device is unsealed and none is under way. (DEDUCED: log entry 118) -/
def Dev.imgSave (K : Memory) (x : Dev) : Dev :=
  if x.isSealed || x.img.saving.isSome then x
  else { x with img := { x.img with saving := some (x.imageOf K), status := 1 } }
/-- The save ends: the slot that does not hold the higher sequence takes the image, valid where the read-back agreed. -/
def Dev.imgSaveDone (ok : Bool) (x : Dev) : Dev :=
  match x.img.saving with
  | none => x
  | some m =>
    let m' := some { m with valid := ok }
    let g := x.img
    let first := g.newer1 || (okImage g.slot0).isNone
    { x with img := { g with
        slot0 := if first then m' else g.slot0
        slot1 := if first then g.slot1 else m'
        saving := none, status := if ok then 2 else 3
        seq := if ok then m.seq else g.seq } }
/-- The programs and envelopes of an image are loaded, and Atolls take their states from the restored contexts. -/
def Dev.loadImage (m : Image) (x : Dev) : Dev :=
  let y := x.each 24 (fun a z => z.modAx a (fun v =>
    let e := (List.finRange 14).foldl (fun e i => match (m.progs.get a).get i with
      | some b => e.setBlock i.val b
      | none => e) v.eng
    { v with eng := e }))
  let z := y.each 8 (fun d u => u.modDw d (fun w =>
    let e := m.envs.get d
    { w with
      envOpen := e.1.getD w.envOpen, envOpenValid := e.1.isSome || w.envOpenValid
      envClose := e.2.getD w.envClose, envCloseValid := e.2.isSome || w.envCloseValid }))
  z.each 48 (fun n u => u.modAtl n (fun a =>
    let st : AtState := if m.cfg.atlType n.val = 0 then .disabled else .idle
    { a with st := st, wbDue := a.wbDue || decide (a.st ≠ st ∧ m.cfg.atlWb n.val ≠ 0) }))
/-- Step 6 of R464. -/
def State.restore (s : State) : State :=
  let g := s.dev.img
  match g.best with
  | none => { s with dev := { s.dev with img := { g with status := 4 } } }
  | some m =>
    if m.boot = 0 then s
    else
      { s with
        cfg := m.cfg.loaded
        dev := ({ s.dev with img := { g with
          status := 5, seq := m.seq, boot := m.boot
          loadedAt := if m.boot = 2 then some s.dev.time.cyc else none } } : Dev).loadImage m }

/-! ### Release and start-up (R462, R464) -/

/-- The WAKE record of a channel wake of the sleeping device, after POWER_UP (R474). -/
def Dev.wakeRecord (x : Dev) : Dev :=
  match x.keeper.wake with
  | none => x
  | some (c, cause, ide, id) =>
    ({ x with keeper := { x.keeper with wake := none } } : Dev).record 0x0041 (objChan c.val)
      (leBytes 1 cause ++ leBytes 1 (if ide then 1 else 0) ++ leBytes 4 id ++ [0, 0]) none
/-- The reset is released: the straps are latched, train time starts at 0, and the recorder starts up. (DESIGN CHOICE: log entries 10, 119; DEDUCED: log entries 59, 134) -/
def Dev.release (K : Memory) (twinEn unitA pref pcieRef : Bool) (media : Media) (x : Dev) : Dev :=
  let y := { x.drawn with
    keeper := { x.keeper with phase := .run, vinLog := x.free }, time := {}
    twin := { x.twin with en := twinEn, unitB := !unitA, pref := pref }
    host := { x.host with hostRef := pcieRef, pllLock := 15 } }
  let z := y.recorderScan K media y.keeper.cause
  (z.modTime (fun t => { t with anchorOp := z.optime })).wakeRecord
/-- RESET_RELEASE: steps 1 to 6 of R464. (DESIGN CHOICE: log entries 2, 119) -/
def State.resetRelease (twinEn unitA pref pcieRef : Bool) (media : Media) (s : State) : State :=
  if s.dev.keeper.phase ≠ .inReset then s
  else ({ s with dev := s.dev.release s.cfg twinEn unitA pref pcieRef media } : State).restore

/-! ### The power-fail warning (R427, R459) -/

/-- VIN_LOG falls through the warning threshold. -/
def Dev.powerFail (K : Memory) (media : Media) (x : Dev) : Dev :=
  if x.keeper.pfWarn then x else ({ x with keeper := { x.keeper with pfWarn := true } } : Dev).powerDown K media
/-- The warning has cleared for 10 ms. -/
def Dev.warningClear (x : Dev) : Dev :=
  if x.keeper.pfWarn then ({ x with keeper := { x.keeper with pfWarn := false } } : Dev).powerRestored else x

/-! ### Device sleep (R473, R474) -/

/-- The device may sleep. -/
def Dev.maySleep (K : Memory) (x : Dev) : Bool :=
  (x.unsealBusy K).isNone && (!x.isSealed || (List.finRange 8).all (fun (d : DoorId) =>
    !K.dwEn d.val || decide ((x.dw d).st = .lockedClosed ∨ (x.dw d).st = .isolated ∨ (x.dw d).st = .disabled)))
/-- SLEEP_REQ: the sleep sequence, or SLEEP_REFUSED. (DESIGN CHOICE: log entry 120) -/
def Dev.sleepReq (K : Memory) (media : Media) (x : Dev) : Dev :=
  if !x.maySleep K then { x with keeper := { x.keeper with sleepRefused := true } }
  else
    let y := x.when x.isSealed (Dev.unsealNow K)
    let z := y.each 8 (fun c u => if K.chEn c.val && decide (K.wakeMode c.val ≠ 0) then
      u.modCh c (fun v => { v with mode := .asleep }) else u)
    let u := if z.cairn.pf then z else z.powerDown K media
    { u with keeper := { u.keeper with phase := .asleep } }
/-- The wake timer. -/
def State.wakeTimerExpiry (s : State) : State :=
  if s.dev.keeper.phase = .asleep ∧ s.cfg.wakeTimer ≠ 0 then s.wake 2 0 none else s
/-- A rising edge of PERST_N. -/
def State.perstWake (s : State) : State :=
  if s.dev.keeper.phase = .asleep ∧ s.cfg.wakePerst = true then s.wake 3 0 none else s
/-- Dominant for WAKE_DOM on a channel that is asleep: it wakes the channel, and the device where that sleeps. -/
def State.wakeDominant (c : ChanId) (s : State) : State :=
  match s.dev.keeper.phase with
  | .run => { s with dev := s.dev.wakeDominant s.cfg c }
  | .asleep =>
    if (s.dev.ch c).mode = .asleep ∧ s.cfg.wakeMode c.val = 1 then s.wake 1 c.val (some (c, 2, false, 0)) else s
  | _ => s
/-- A frame at the wake decoder of a channel. -/
def State.wakeFrame (c : ChanId) (f : CanFrame) (wellFormed : Bool) (s : State) : State :=
  match s.dev.keeper.phase with
  | .run => { s with dev := s.dev.wakeFrame s.cfg c f wellFormed }
  | .asleep =>
    if (s.dev.ch c).mode = .asleep ∧ s.cfg.wakeMode c.val = 2 ∧ wellFormed = true ∧ s.cfg.isWake c.val f = true then
      s.wake 1 c.val (some (c, 3, f.ide, f.ident.toNat))
    else { s with dev := s.dev.wakeFrame s.cfg c f wellFormed }
  | _ => s

end Sys2Proof.Machine
end

