-- ==== Sys2Proof/Machine/RegMap.lean ====
section
/-! DEFINITION. The register map as data (R477, R478, R481, R483 to R502): the fields that hold what is written, with their
ranges, and the model key behind each register offset. -/

namespace Sys2Proof.Machine

/-- The values a field takes (R478). -/
inductive Rng where
  | any
  | le (hi : Nat)
  | within (lo hi : Nat)
  /-- 0 to `hi`, or the code for none. -/
  | orNone (hi code : Nat)
  /-- One of a list of values. -/
  | oneOf (l : List Nat)
  | odd
deriving DecidableEq, Repr
/-- A field of `n` bits from bit `lo` of its word. -/
structure RField where
  lo : Nat
  n : Nat
  rng : Rng := .any
deriving DecidableEq, Repr

/-- A value lies in a range. -/
def Rng.ok (r : Rng) (v : Nat) : Bool :=
  match r with
  | .any => true
  | .le hi => decide (v ≤ hi)
  | .within lo hi => decide (lo ≤ v ∧ v ≤ hi)
  | .orNone hi code => decide (v ≤ hi ∨ v = code)
  | .oneOf l => l.contains v
  | .odd => decide (v % 2 = 1)
/-- The field's part of a word. -/
def RField.get (f : RField) (v : Word) : Nat := v.toNat / 2 ^ f.lo % 2 ^ f.n
/-- The bits of the fields of a word. (DESIGN CHOICE: log entry 123) -/
def fieldsMask (fs : List RField) : Word := BitVec.ofNat 32 (fs.foldl (fun m f => m + (2 ^ f.n - 1) * 2 ^ f.lo) 0)
/-- Every field of a word takes a value of its range (R478). -/
def fieldsOk (fs : List RField) (v : Word) : Bool := fs.all (fun f => f.rng.ok (f.get v))

/-- A word that is one field. -/
def wordField (r : Rng) : List RField := [⟨0, 32, r⟩]
/-- Four bytes of one range. -/
def byteFields (r : Rng) : List RField := (List.range 4).map (fun i => ⟨8 * i, 8, r⟩)
/-- An input role field at bit `lo` with its POL bit (R491). -/
def roleFields (lo : Nat) : List RField := [⟨lo, 7, .orNone 63 127⟩, ⟨lo + 7, 1, .any⟩]
/-- Single bits. -/
def bitFields (l : List Nat) : List RField := l.map (fun i => ⟨i, 1, .any⟩)
/-- An identifier of 29 bits. -/
def idField : List RField := [⟨0, 29, .any⟩]

/-! ### Set-up fields by block -/

/-- Context of an Atoll (R488), by word. -/
def atlFields (o : Nat) : List RField :=
  match o with
  | 0x00 => [⟨0, 3, .le 4⟩, ⟨4, 3, .any⟩, ⟨8, 6, .any⟩, ⟨16, 6, .le 47⟩, ⟨24, 4, .within 3 15⟩]
  | 0x04 => [⟨12, 20, .any⟩] | 0x08 => wordField .any | 0x0C => [⟨2, 30, .any⟩] | 0x10 => wordField .any
  | 0x14 => [⟨0, 20, .within 25 1000000⟩] | 0x18 => [⟨0, 9, .within 1 256⟩, ⟨16, 10, .le 1000⟩]
  | _ => []
/-- Doorway block (R491). -/
def dwFields (o : Nat) : List RField :=
  match o with
  | 0x20 => [⟨3, 2, .le 2⟩, ⟨20, 4, .any⟩] ++ bitFields [0, 1, 2, 5, 6, 7, 8, 9, 10, 11, 12, 13, 14, 15, 16]
  | 0x24 => (List.range 4).map (fun i => ⟨8 * i, 5, .orNone 23 31⟩)
  | 0x28 | 0x2C => (List.range 4).flatMap (fun i => roleFields (8 * i))
  | 0x30 => (List.range 3).flatMap (fun i => roleFields (8 * i))
  | 0x34 => (List.range 4).map (fun i => ⟨8 * i, 7, .orNone 31 127⟩)
  | 0x38 => [⟨0, 2, .any⟩, ⟨4, 2, .any⟩, ⟨8, 2, .any⟩]
  | 0x3C => [⟨0, 10, .within 10 1000⟩, ⟨16, 13, .within 10 5000⟩]
  | 0x40 => [⟨0, 13, .within 10 5000⟩, ⟨16, 14, .within 100 10000⟩]
  | 0x44 => [⟨0, 15, .within 500 30000⟩, ⟨16, 15, .within 500 30000⟩]
  | 0x48 => [⟨0, 11, .within 10 2000⟩, ⟨16, 10, .le 1000⟩]
  | 0x4C => [⟨0, 10, .le 600⟩, ⟨16, 6, .le 60⟩, ⟨24, 7, .le 100⟩]
  | 0x50 => [⟨0, 5, .le 20⟩, ⟨8, 7, .le 64⟩, ⟨16, 4, .any⟩, ⟨24, 8, .within 1 255⟩]
  | 0x54 => [⟨0, 15, .any⟩, ⟨16, 8, .any⟩]
  | 0x58 | 0x5C => wordField (.within 1 4294967295)
  | 0x60 => [⟨0, 31, .any⟩] | 0x64 => [⟨0, 16, .any⟩]
  | _ => if 0x80 ≤ o ∧ o < 0xC8 then (if o % 8 = 0 then wordField .any else [⟨0, 16, .any⟩]) else []
/-- Axis block of the profile generators (R493). -/
def axFields (o : Nat) : List RField :=
  match o with
  | 0x50 => [⟨0, 16, .any⟩, ⟨16, 8, .within 1 255⟩]
  | 0x54 => wordField .any | 0x58 => [⟨0, 16, .any⟩]
  | 0x5C => roleFields 0 ++ roleFields 8 ++ bitFields [16, 17, 18]
  | 0x60 => (List.range 6).map (fun i => ⟨2 * i, 2, .le 2⟩)
  | 0x74 => wordField .any | 0x78 => [⟨0, 8, .any⟩, ⟨8, 1, .any⟩]
  | _ => []
/-- Axis block of the control engine (R495). -/
def engFields (o : Nat) : List RField :=
  match o with
  | 0x00 => [⟨0, 2, .le 2⟩, ⟨4, 3, .within 1 4⟩, ⟨9, 2, .le 2⟩, ⟨11, 2, .orNone 1 3⟩, ⟨13, 2, .any⟩] ++ bitFields [2, 3, 7, 8]
  | 0x04 => wordField .any | 0x08 => [⟨0, 16, .any⟩] | 0x0C => [⟨0, 15, .any⟩, ⟨16, 15, .any⟩]
  | 0x10 => [⟨0, 15, .within 1 32767⟩, ⟨16, 10, .within 1 1000⟩]
  | 0x14 => [⟨0, 8, .any⟩] | 0x18 => wordField .any | 0x1C => [⟨0, 31, .within 0x10000 0x7FFFFFFF⟩]
  | 0x20 => [⟨0, 31, .within 1 0x7FFFFFFF⟩] | 0x24 => [⟨0, 31, .any⟩] | 0x28 => [⟨0, 16, .within 1 65535⟩]
  | _ => []
/-- Port block (R221, R496). -/
def portFields (o : Nat) : List RField :=
  match o with
  | 0x00 => [⟨0, 1, .any⟩, ⟨1, 2, .any⟩, ⟨3, 2, .any⟩, ⟨5, 1, .any⟩, ⟨6, 5, .le 30⟩, ⟨16, 14, .within 2500 12500⟩]
  | 0x04 => [⟨0, 9, .le 400⟩, ⟨16, 9, .le 400⟩]
  | 0x08 => [⟨0, 1, .any⟩, ⟨1, 3, .any⟩, ⟨4, 6, .within 10 40⟩, ⟨12, 9, .within 64 256⟩, ⟨24, 5, .any⟩]
  | 0x0C => [⟨0, 23, .any⟩, ⟨24, 5, .within 1 16⟩]
  | 0x10 => [⟨0, 3, .le 4⟩, ⟨4, 5, .odd⟩, ⟨9, 1, .any⟩, ⟨10, 1, .any⟩, ⟨16, 5, .within 1 16⟩]
  | 0x14 => [⟨0, 6, .within 13 32⟩, ⟨6, 1, .any⟩, ⟨7, 1, .any⟩, ⟨8, 13, .within 20 2000⟩, ⟨24, 5, .within 1 24⟩]
  | 0x18 => [⟨0, 31, .within 1 0x7FFFFFFF⟩]
  | 0x1C => [⟨0, 6, .any⟩, ⟨6, 1, .any⟩, ⟨16, 10, .within 1 1000⟩]
  | 0x20 | 0x24 | 0x28 => wordField .any
  | 0x2C => [⟨0, 4, .le 8⟩, ⟨16, 12, .any⟩] | 0x30 => [⟨0, 12, .any⟩]
  | _ => []
/-- Nominal and data bit timing (R342, R498). -/
def nomFields : List RField := [⟨0, 6, .within 1 32⟩, ⟨6, 9, .within 2 256⟩, ⟨15, 8, .within 1 128⟩, ⟨23, 8, .within 1 128⟩]
def datFields : List RField :=
  [⟨0, 4, .within 1 8⟩, ⟨4, 6, .within 1 32⟩, ⟨10, 5, .within 1 16⟩, ⟨15, 5, .within 1 16⟩, ⟨20, 7, .any⟩]
/-- Channel block (R342, R498). -/
def chFields (o : Nat) : List RField :=
  match o with
  | 0x000 => [⟨8, 2, .any⟩, ⟨16, 2, .le 2⟩] ++ bitFields [0, 1, 2, 3, 4, 5, 6, 7, 10, 11, 12, 13, 14, 18]
  | 0x004 => nomFields | 0x008 => datFields
  | 0x00C => [⟨0, 6, .within 1 63⟩, ⟨8, 6, .within 1 63⟩, ⟨16, 6, .any⟩]
  | 0x010 => [⟨0, 8, .le 254⟩] | 0x014 => [⟨0, 16, .le 60000⟩] | 0x018 => [⟨0, 8, .within 1 255⟩, ⟨8, 4, .le 8⟩]
  | 0x01C | 0x020 => idField
  | 0x024 | 0x028 | 0x02C | 0x030 => wordField .any
  | 0x034 => [⟨0, 4, .within 1 8⟩, ⟨4, 4, .within 1 8⟩, ⟨8, 14, .within 10 10000⟩, ⟨22, 10, .le 600⟩]
  | 0x040 => [⟨0, 2, .le 2⟩, ⟨2, 1, .any⟩, ⟨3, 1, .any⟩, ⟨4, 3, .any⟩, ⟨8, 4, .any⟩, ⟨12, 2, .le 2⟩, ⟨16, 12, .any⟩]
  | 0x044 => idField | 0x048 => [⟨0, 4, .le 10⟩, ⟨8, 5, .le 28⟩]
  | _ =>
    if 0x80 ≤ o ∧ o < 0x280 then
      match o % 16 with
      | 0 | 4 => idField
      | 8 => [⟨0, 2, .le 2⟩, ⟨2, 2, .any⟩, ⟨4, 2, .le 2⟩]
      | _ => []
    else if 0x280 ≤ o ∧ o < 0x300 then
      match o % 16 with
      | 0 => bitFields [1, 2, 3]
      | 4 => nomFields
      | 8 => datFields
      | _ => []
    else []
/-- Partner fields of a channel, of a class, and of a pin (R368, R370, R371, R499). -/
def ptFields (o : Nat) : List RField :=
  match o with
  | 0x00 => [⟨0, 1, .any⟩, ⟨1, 3, .any⟩, ⟨4, 1, .any⟩, ⟨8, 5, .within 1 16⟩, ⟨13, 2, .le 2⟩, ⟨16, 5, .within 7 16⟩]
  | 0x04 | 0x08 => idField | 0x0C => [⟨0, 11, .le 2046⟩, ⟨16, 11, .le 2046⟩]
  | _ => []
def clsFields (o : Nat) : List RField :=
  match o with
  | 0x00 => wordField .any
  | 0x04 => [⟨0, 2, .le 2⟩, ⟨2, 14, .within 1 10000⟩, ⟨16, 4, .within 1 15⟩, ⟨20, 4, .within 1 15⟩]
  | 0x08 | 0x0C => idField | 0x10 => [⟨0, 12, .within 1 3600⟩]
  | _ => []
/-- Words of a router rule and of a mapper rule (R378, R382). -/
def rtFields (j : Nat) : List RField :=
  match j with
  | 0 => [⟨0, 1, .any⟩, ⟨1, 3, .any⟩, ⟨4, 2, .any⟩, ⟨6, 1, .any⟩, ⟨7, 1, .any⟩, ⟨8, 2, .le 2⟩, ⟨10, 1, .any⟩, ⟨16, 8, .any⟩,
      ⟨24, 8, .any⟩]
  | 1 | 2 | 3 => idField | 4 => [⟨0, 20, .within 100 1000000⟩]
  | _ => []
def mapFields (j : Nat) : List RField :=
  match j with
  | 0 => [⟨0, 1, .any⟩, ⟨1, 3, .any⟩, ⟨4, 5, .any⟩, ⟨16, 11, .le 2040⟩]
  | 1 | 2 => idField | 3 => wordField .any | 4 => [⟨0, 20, .within 25 1000000⟩]
  | _ => []
/-- Event routes, triggers and ranks (R486). A rank takes the codes R445 and R446 allow it. (DEDUCED: log entries 114, 124) -/
def evtFields (k : Nat) : List RField :=
  if k < 0x0E00 then
    [⟨0, 7, .orNone 63 127⟩, ⟨7, 1, .any⟩, ⟨8, 4, .orNone 7 15⟩, ⟨16, 7, .orNone 63 127⟩, ⟨23, 1, .any⟩, ⟨24, 4, .orNone 7 15⟩]
  else if 0x0E40 ≤ k ∧ k < 0x0E80 then
    (if k % 8 = 0 then [⟨0, 6, .le 47⟩, ⟨8, 1, .any⟩] else [⟨0, 28, .le 200000000⟩])
  else if 0x0F00 ≤ k ∧ k < 0x0F30 then
    (List.range 8).filterMap (fun m =>
      let c := rankCode ((k - 0x0F00) / 4) m
      if faultSettable c then some ⟨4 * m, 3, .oneOf ((List.range 8).filter (rankAllowed c))⟩ else none)
  else []
/-- Safety block (R492). -/
def safeFields (k : Nat) : List RField :=
  match k with
  | 0x3800 => [⟨0, 4, .any⟩, ⟨4, 1, .any⟩, ⟨8, 2, .any⟩]
  | 0x3804 | 0x3808 => [⟨0, 9, .within 1 500⟩, ⟨16, 9, .within 1 500⟩]
  | 0x381C | 0x3820 => byteFields (.within 1 255)
  | 0x3824 => [⟨0, 16, .any⟩] | 0x3828 => [⟨0, 7, .within 5 99⟩]
  | _ => []
/-- Field I/O block (R497). -/
def fioFields (k : Nat) : List RField :=
  if k = 0x7000 ∨ k = 0x7004 then byteFields (.within 5 99)
  else if 0x7010 ≤ k ∧ k < 0x7050 then byteFields (.within 1 255)
  else if 0x7050 ≤ k ∧ k < 0x7060 then wordField .any
  else if k = 0x7060 ∨ k = 0x7064 then byteFields (.within 24 56)
  else if k = 0x7068 ∨ k = 0x706C then byteFields (.within 1 255)
  else if 0x7070 ≤ k ∧ k < 0x7090 then byteFields (.within 1 100)
  else if k = 0x7090 then wordField .any
  else []
/-- The single registers of the other blocks (R483 to R485, R490, R500 to R502). -/
def oneFields (k : Nat) : List RField :=
  match k with
  | 0x0030 => [⟨0, 14, .within 10 10000⟩] | 0x0044 => [⟨0, 2, .le 2⟩] | 0x0400 => [⟨0, 2, .le 2⟩]
  | 0x0810 | 0x0814 => wordField .any
  | 0x0820 => [⟨0, 5, .within 1 16⟩, ⟨8, 7, .within 1 100⟩, ⟨16, 12, .within 1 3600⟩]
  | 0x0824 => [⟨0, 11, .within 1 1440⟩]
  | 0x2800 => [⟨15, 17, .any⟩] | 0x2804 => wordField .any
  | 0xA800 => [⟨0, 4, .orNone 7 15⟩, ⟨4, 1, .any⟩, ⟨8, 8, .within 2 255⟩, ⟨16, 8, .within 1 255⟩]
  | 0xA804 => idField | 0xA808 => [⟨0, 14, .within 10 10000⟩] | 0xA80C => [⟨0, 10, .within 1 600⟩]
  | 0xA810 => [⟨0, 14, .within 100 10000⟩]
  | 0xB080 => [⟨0, 4, .orNone 7 15⟩, ⟨4, 1, .any⟩, ⟨5, 1, .any⟩] | 0xB084 | 0xB088 => idField
  | 0xB814 => [⟨0, 17, .le 86400⟩] | 0xB818 => [⟨0, 1, .any⟩]
  | _ => []
/-- The fields that hold what is written at a model key: SU everywhere but at `rwKey`. -/
def fieldsAt (k : Nat) : List RField :=
  if 0x0C00 ≤ k ∧ k < 0x1000 then evtFields k
  else if 0x2000 ≤ k ∧ k < 0x2600 then atlFields (k % 32)
  else if 0x3000 ≤ k ∧ k < 0x3800 then dwFields (k % 256)
  else if 0x3800 ≤ k ∧ k < 0x4000 then safeFields k
  else if 0x4000 ≤ k ∧ k < 0x4C00 then axFields (k % 128)
  else if 0x4D00 ≤ k ∧ k < 0x4E80 then
    (match k % 16 with
     | 0 => [⟨0, 1, .any⟩, ⟨8, 5, .le 23⟩, ⟨16, 9, .within 1 256⟩]
     | 4 => [⟨0, 10, .within 1 1000⟩]
     | _ => [])
  else if 0x5100 ≤ k ∧ k < 0x5D00 then engFields (k % 128)
  else if 0x6000 ≤ k ∧ k < 0x6C00 then portFields (k % 128)
  else if 0x7000 ≤ k ∧ k < 0x70A0 then fioFields k
  else if 0x8000 ≤ k ∧ k < 0xA000 then chFields (k % 1024)
  else if 0xA000 ≤ k ∧ k < 0xA100 then ptFields (k % 32)
  else if 0xA100 ≤ k ∧ k < 0xA500 then clsFields (k % 32)
  else if 0xA500 ≤ k ∧ k < 0xA540 then [⟨0, 1, .any⟩, ⟨1, 3, .any⟩, ⟨16, 16, .any⟩]
  else if 0x10000 ≤ k ∧ k < 0x11000 then wordField (if k % 16 < 8 then .within 1 4294967295 else .any)
  else if 0x11000 ≤ k ∧ k < 0x12000 then rtFields (k % 8)
  else if 0x12000 ≤ k then mapFields (k % 8)
  else oneFields k
/-- The registers that hold what is written at any time: IMG_BOOT and TT_SET. -/
def rwKey (k : Nat) : Bool := decide (k = 0x0044 ∨ k = 0x0810 ∨ k = 0x0814)
/-- The word a write leaves: its fields, and the CC bit of a format field, which always reads 1 (R498). (DESIGN CHOICE: log entry 123) -/
def storedWord (k : Nat) (v : Word) : Word :=
  (v &&& fieldsMask (fieldsAt k)) |||
    (if 0x8000 ≤ k ∧ k < 0xA000 ∧ (k % 1024 = 0 ∨ (0x280 ≤ k % 1024 ∧ k % 1024 < 0x300 ∧ k % 16 = 0)) then 2#32 else 0#32)

/-! ### Selectors and windows (R481, R489, R494, R499) -/

/-- The fields of a selector, by offset. (DEDUCED: log entry 124) -/
def selFields (off : Nat) : List RField :=
  match off with
  | 0x0E20 => [⟨0, 8, .any⟩] | 0x2600 => [⟨0, 6, .le 47⟩] | 0x4C00 => [⟨0, 5, .le 23⟩, ⟨8, 2, .any⟩, ⟨12, 1, .any⟩]
  | 0xA540 => [⟨0, 8, .any⟩] | 0xA600 => [⟨0, 7, .any⟩] | 0xA640 => [⟨0, 4, .any⟩] | 0xB054 => [⟨0, 4, .any⟩]
  | _ => []
def zeroWord (_ : Nat) : Word := 0
/-- A requester's selector. -/
def ReqSide.selector (q : ReqSide) (off : Nat) : Nat := (NMap.get zeroWord q.sel off).toNat
/-- The profile window shows the working copy (R494). -/
def ReqSide.working (q : ReqSide) : Bool := (q.selector 0x4C00).testBit 12
/-- The axis of the profile window. -/
def ReqSide.profAxis (q : ReqSide) : Nat := q.selector 0x4C00 % 32
/-- The model key behind a register offset: the offset itself, or the key of the object a window shows. -/
def ReqSide.key (q : ReqSide) (off : Nat) : Nat :=
  if 0x4C04 ≤ off ∧ off ≤ 0x4C28 then profKey q.profAxis (q.selector 0x4C00 / 256 % 4) ((off - 0x4C04) / 4)
  else if 0xA604 ≤ off ∧ off ≤ 0xA614 then rtKey (q.selector 0xA600) ((off - 0xA604) / 4)
  else if 0xA644 ≤ off ∧ off ≤ 0xA654 then mapKey (q.selector 0xA640) ((off - 0xA644) / 4)
  else off
def Dev.req (x : Dev) (r : Requester) : ReqSide :=
  match r with
  | .host => x.reqH
  | .mgt => x.reqM
def Dev.modReq (r : Requester) (f : ReqSide → ReqSide) (x : Dev) : Dev :=
  match r with
  | .host => { x with reqH := f x.reqH }
  | .mgt => { x with reqM := f x.reqM }

end Sys2Proof.Machine
end

