-- ==== Sys2Proof/Machine/Regs.lean ====
section
/-! DEFINITION. Reads of BAR0 (R30, R31, R267, R431, R480, R481, R483 to R502): the present value of every register, the
latches of wide registers, the snapshot windows and the Cairn window. -/

namespace Sys2Proof.Machine

/-! ### Assembling words -/

/-- A word from values at bit positions. -/
def cat (l : List (Nat × Nat)) : Word := BitVec.ofNat 32 (l.foldl (fun m e => m + e.2 * 2 ^ e.1) 0)
/-- One bit for each of `n` objects from object `lo` on. -/
def maskOf (n lo : Nat) (f : Fin n → Bool) : Word :=
  BitVec.ofNat 32 ((List.finRange n).foldl (fun m i => if lo ≤ i.val ∧ i.val < lo + 32 ∧ f i = true then m + 2 ^ (i.val - lo) else m) 0)
/-- The word of a byte list at byte `i`. -/
def bytesWord (l : List Byte) (i : Nat) : Word := BitVec.ofNat 32 (leNat (slice l i 4))
/-- An object number below a bound. -/
def idx (n v : Nat) (h : 0 < n) : Fin n := ⟨v % n, Nat.mod_lt _ h⟩
def axOf (k : Nat) : AxisId := idx 24 k (by decide)

/-! ### FLT_RANK as read (R487) -/

/-- The rank a fault whose rank FLT_RANK does not set would raise under the present settings. -/
def Memory.fixedRank (K : Memory) (c : Nat) : Nat :=
  let most := fun (f : Nat → Nat) => (List.range 24).foldl (fun m a => max m (f a)) 0
  if c = 0x0200 then most (fun a => if K.limHard a then (if K.limCoilOff a then 5 else 4) else 3)
  else if c = 0x0201 then most (fun a => 3 + K.feReact a)
  else faultDefault c
/-- Word `w` of the FLT_RANK array. -/
def Memory.rankWord (K : Memory) (w : Nat) : Word :=
  cat ((List.range 8).map (fun m =>
    (4 * m, if faultSettable (rankCode w m) then K.bits (0x0F00 + 4 * w) (4 * m) 3 else K.fixedRank (rankCode w m))))

/-! ### Wide registers -/

/-- The value behind the _LO half of a read-only pair at an offset; none elsewhere (R31, R480). -/
def Dev.wide (K : Memory) (x : Dev) (q : ReqSide) (off : Nat) : Option Nat :=
  let atl := x.atl (idx 48 (q.selector 0x2600) (by decide))
  if off = 0x0800 then some x.tt
  else if off = 0x2604 then some atl.beaconTT
  else if off = 0x260C then
    let n := q.selector 0x2600
    let l := x.sched.pend.filter (fun p => decide (p.hdr.src = .host (idx 48 n (by decide))))
    some (match l with
      | [] => 2 ^ 64 - 1
      | p :: r => r.foldl (fun m e => min m e.launch) p.launch)
  else if off = 0x2810 then some x.host.tuIova
  else if off = 0xB820 then some x.optime
  else if 0x4000 ≤ off ∧ off < 0x4C00 then
    let a := axOf ((off - 0x4000) / 128)
    let v := x.ax a
    match off % 128 with
    | 0x08 => some (unsx 48 (wholeCount v.gen.x))
    | 0x10 => some (unsx 48 (x.axPos K a))
    | 0x30 => some (unsx 48 v.gen.laPos)
    | 0x44 => some (unsx 48 v.refDelta)
    | 0x64 => some (unsx 48 (v.idxPrev.getD 0))
    | _ => none
  else if 0x6000 ≤ off ∧ off < 0x6C00 ∧ off % 128 = 0x44 then some (unsx 48 (x.ax (axOf ((off - 0x6000) / 128))).port.raw)
  else none

/-! ### Snapshot windows (R481) -/

/-- The words of a selected context, from 0xA544 (R499). -/
def Ctx.words (v : Ctx) : List Word :=
  let two := fun (t : Nat) => [BitVec.ofNat 32 t, BitVec.ofNat 32 (t / 2 ^ 32)]
  [cat [(0, v.st.code), (2, b2n v.pinned), (3, b2n v.empty), (4, v.cls), (8, v.group), (16, v.source)], BitVec.ofNat 32 v.h] ++
  two v.win.toNat ++ two v.lastTT ++ two v.lastTT0 ++ two v.lastTT1 ++ two v.hbTT ++
  [BitVec.ofNat 32 v.acc, BitVec.ofNat 32 v.dup, BitVec.ofNat 32 v.staleCnt]
/-- Eight words of 32 bytes. -/
def words8 (l : List Byte) : List Word := (List.range 8).map (fun i => bytesWord l (4 * i))
/-- The words a snapshot window takes when its first register, at `off`, is read; none for any other register. -/
def Dev.snapshot (x : Dev) (q : ReqSide) (off : Nat) : Option (List Word) :=
  match off with
  | 0xA544 => some (x.ctx (idx 256 (q.selector 0xA540) (by decide))).words
  | 0xA830 => some (words8 x.twin.ownHdr)
  | 0xA850 => some (words8 (if x.twin.isUp then x.twin.peerHdr else padTo 32 x.twin.peerBytes))
  | 0xB060 => some (words8 ((x.cairn.epis.get (idx 16 (q.selector 0xB054) (by decide))).getD (List.replicate 32 0)))
  | _ => none
/-- A later register of a snapshot window other than the Cairn window. -/
def inWindow (off : Nat) : Bool :=
  decide ((0xA544 < off ∧ off ≤ 0xA57C) ∨ (0xA830 < off ∧ off ≤ 0xA84C) ∨ (0xA850 < off ∧ off ≤ 0xA86C) ∨
    (0xB060 < off ∧ off ≤ 0xB07C))

/-! ### Single words -/

/-- Doorway status (R491). -/
def Dev.dwWord (K : Memory) (x : Dev) (d : DoorId) (o : Nat) : Word :=
  let w := x.dw d
  match o with
  | 0x00 => cat [(0, w.st.code)] | 0x04 => cat [(0, w.cause)]
  | 0x08 => cat [(0, x.doorRank d), (4, b2n w.btn), (5, b2n w.hold), (6, b2n (K.dwEn d.val && w.gate))]
  | 0x0C => cat [(0, b2n w.envOpenValid), (1, b2n w.envCloseValid), (8, w.obstLeaf), (16, w.obstCause), (24, w.obstK)]
  | 0x10 => cat [(0, unsx 16 w.obstR), (16, unsx 16 w.obstE)] | 0x14 => cat [(0, w.obstReact)]
  | _ => 0
/-- Axis status of the profile generators (R493). (DEDUCED: log entries 37, 46) -/
def Dev.axWord (K : Memory) (x : Dev) (a : AxisId) (o : Nat) : Word :=
  let v := x.ax a
  let g := v.gen
  match o with
  | 0x00 =>
    cat [(0, b2n v.still), (1, b2n v.posUncertain), (2, b2n v.referenced), (3, b2n v.cmp.behind), (4, b2n v.cmp.armed),
      (5, b2n (!g.heldChanges.isEmpty)), (6, b2n (x.following K a)), (7, b2n g.queueOvf), (8, b2n v.limLatched),
      (9, x.axisRank K a), (12, g.seg.code), (16, g.len)]
  | 0x18 => BitVec.ofNat 32 (rdiv g.v 65536) | 0x1C => cat [(0, g.endReason)] | 0x20 => g.endSeq
  | 0x24 => BitVec.ofNat 32 (min g.overshoot 4294967295) | 0x28 => g.overshootSeq
  | 0x2C => cat [(0, b2n g.predOn), (4, g.laSeg.code), (16, unsx 16 (clampI (-32768) 32767 g.laForce))]
  | 0x38 => BitVec.ofNat 32 g.laSpeed | 0x3C => cat [(0, unsx 16 g.laEnv)] | 0x40 => BitVec.ofNat 32 g.laLimit
  | 0x6C => BitVec.ofInt 32 v.idxDelta | 0x70 => BitVec.ofNat 32 v.idxDrift
  | _ => 0
/-- Code of a control mode (R495). -/
def EngMode.code : EngMode → Nat
  | .auto => 0 | .manualV => 1 | .manualF => 2
/-- Axis status of the control engine (R495). -/
def Axis.engWord (v : Axis) (o : Nat) : Word :=
  let e := v.eng
  match o with
  | 0x40 =>
    cat [(0, b2n e.loopClosed), (1, e.mode.code), (3, b2n e.uSat), (4, b2n e.lateLatched), (5, b2n e.feLatched),
      (8, min e.missCnt 7)] ||| (maskOf 14 0 (fun i => (e.prog.get i).isSome) <<< 16)
  | 0x44 => BitVec.ofNat 32 e.cost | 0x48 => BitVec.ofNat 32 e.intWraps | 0x4C => cat [(0, unsx 16 e.force)]
  | 0x50 => BitVec.ofNat 32 (min 2147483647 (e.fePeak / 4294967296)) | 0x54 => BitVec.ofInt 32 e.hoZ | 0x58 => cat [(0, e.hoStatus)]
  | 0x5C => cat [(0, e.injPoint), (2, e.injForm), (4, e.injEnd)] | 0x60 => BitVec.ofNat 32 e.injCount
  | _ => 0
/-- Port status (R496). (DEDUCED: log entry 59) -/
def Dev.portWord (K : Memory) (x : Dev) (a : AxisId) (o : Nat) : Word :=
  let v := x.ax a
  let p := v.port
  let aligned := (List.range 3).any (K.sdEn a.val) && !K.sdManch a.val &&
    decide (200000 % (5 * K.sdOsr a.val * K.sdDiv a.val) = 0)
  match o with
  | 0x40 =>
    cat [(0, b2n p.fltLatched), (1, b2n p.ocLatched), (2, b2n p.fbLatched), (3, b2n aligned), (4, p.wireBreak.toNat),
      (8, p.sdLoss.toNat), (11, p.hall.toNat), (14, b2n p.fltPin), (16, min p.fbRun 15)]
  | 0x4C => BitVec.ofNat 32 p.illegal | 0x50 => cat [(0, p.ssiErr)] | 0x54 => cat [(0, v.eng.theta % 65536)]
  | _ => 0
/-- CH_MODE code (R498). -/
def ChMode.code : ChMode → Nat
  | .off => 0 | .integrating | .running | .busOff => 1 | .detect => 2 | .noRate => 3 | .asleep | .waking => 4 | .recovering => 5
/-- Channel status (R498). -/
def Chan.word (v : Chan) (o : Nat) : Word :=
  match o with
  | 0x60 =>
    cat [(0, v.errState), (2, v.mode.code), (5, v.lastErr), (16, min v.recv 255), (24, min v.tec 255)]
  | 0x64 => cat [(0, v.rateUsed), (3, b2n v.rateFound)]
  | 0x68 => BitVec.ofNat 32 v.rxLost | 0x6C => BitVec.ofNat 32 v.detectFrames | 0x70 => BitVec.ofNat 32 v.wakeErr
  | _ => 0
/-- PAIR_STATUS of one pair with its DISC_TIME in µs (R71, R492): a timer that has run out runs no more. (DEDUCED: log entry 32) -/
def Pair.code (lim : Nat) (p : Pair) : Nat :=
  if p.fault then 3 else if p.active then 1 else if p.timer ≠ 0 ∧ p.timer < lim then 2 else 0
/-- Safety, doorway and field status (R492, R497). (DEDUCED: log entries 55, 130) -/
def Dev.fioWord (K : Memory) (x : Dev) (off : Nat) : Word :=
  match off with
  | 0x380C => cat ((List.finRange 4).map (fun p => (2 * p.val, (x.gate.pairs.get p).code (1000 * K.discTime p.val))))
  | 0x3810 => maskOf 8 0 (fun d => K.dwEn d.val && (x.dw d).gate)
  | 0x3814 =>
    maskOf 4 0 (fun j => (x.sout j).cmd) ||| (maskOf 4 0 (fun j => (x.sout j).readback) <<< 4) |||
    (maskOf 2 0 (fun s => x.gate.loopFault.get s) <<< 8) ||| (maskOf 2 0 (fun s => x.gate.loopCond.get s) <<< 10)
  | 0x382C => maskOf 8 0 (fun j => (x.sin j).level) ||| (maskOf 8 0 (fun j => (x.sin j).pin.unknown || (x.sin j).diag) <<< 8)
  | 0x70A0 => maskOf 64 0 (fun i => (x.inPin i).lvl) | 0x70A4 => maskOf 64 32 (fun i => (x.inPin i).lvl)
  | 0x70A8 => maskOf 64 0 (fun i => (x.inPin i).unknown) | 0x70AC => maskOf 64 32 (fun i => (x.inPin i).unknown)
  | 0x70B0 => maskOf 32 0 (fun o => (x.outPin o).cmd) | 0x70B4 => maskOf 32 0 (fun o => (x.outPin o).readback)
  | 0x70B8 => maskOf 32 0 (fun o => (x.outPin o).overload) | 0x70BC => maskOf 32 0 (fun o => (x.outPin o).noOutput)
  | 0x70C0 => maskOf 32 0 (fun o => (x.outPin o).backFed) | 0x70C4 => maskOf 32 0 (fun o => (x.outPin o).openLoad)
  | 0x70C8 => maskOf 8 0 (fun g => (x.grp g).sag) ||| (maskOf 8 0 (fun g => (x.grp g).loss) <<< 8)
  | 0x70D0 => cat ((List.range 4).map (fun i => (8 * i, min 255 ((x.grp (idx 8 i (by decide))).vfs / 2))))
  | 0x70D4 => cat ((List.range 4).map (fun i => (8 * i, min 255 ((x.grp (idx 8 (i + 4) (by decide))).vfs / 2))))
  | _ => 0
/-- Identity, global, islands, time and event registers (R483 to R486). -/
def Dev.globalWord (x : Dev) (q : ReqSide) (off : Nat) : Word :=
  let t := x.time
  match off with
  | 0x0000 => cat [(24, if Config.variantMC then 0x43 else 0x58), (16, 0x41 + Config.stepping.val), (8, 1 + Config.issue.val)]
  | 0x0004 => 0x24081D9C#32
  | 0x0008 => cat [(0, b2n x.host.suWrSealed), (1, b2n x.host.rangeErr)]
  | 0x000C => cat [(0, x.host.glbErr), (16, b2n x.host.glbErrReq)]
  | 0x0010 => BitVec.ofNat 32 x.host.barErr | 0x0014 => BitVec.ofNat 32 x.host.complLost
  | 0x0024 => cat [(0, b2n x.isSealed), (3, b2n x.su.reqBusy), (4, x.su.result), (8, x.su.reason), (16, x.su.index)]
  | 0x002C => x.su.safeCrc | 0x0048 => cat [(0, x.img.status), (16, x.img.seq % 65536)]
  | 0x0404 => cat [(0, x.host.pllLock.toNat), (8, b2n x.host.hostRef), (16, x.twin.clkFail.toNat)]
  | 0x0408 => cat [(0, x.twin.straitLate.toNat)]
  | 0x0808 =>
    cat [(0, t.state.code), (3, b2n t.stepPending), (4, b2n t.holdoverExpired), (5, b2n t.setRefused),
      (6, b2n t.upstreamHoldover), (7, b2n t.sourceChanged), (8, t.sourceCh.val), (11, b2n t.secondary)]
  | 0x080C => BitVec.ofInt 32 (clampI (-2147483648) 2147483647 t.offset)
  | 0x0828 => BitVec.ofNat 32 t.syncDiscards | 0x082C => BitVec.ofNat 32 t.syncOutlier
  | 0x0830 => BitVec.ofNat 32 x.sched.pend.length | 0x0834 => BitVec.ofNat 32 x.sched.refused
  | 0x0E24 => BitVec.ofNat 32 (x.evt.cnt.get (idx 256 (q.selector 0x0E20) (by decide)))
  | 0x0E28 => x.evt.cause.get (idx 256 (q.selector 0x0E20) (by decide))
  | _ =>
    if 0x0E00 ≤ off ∧ off < 0x0E20 then (x.evt.pend >>> (8 * (off - 0x0E00))).setWidth 32
    else if 0x0E80 ≤ off ∧ off < 0x0EA0 then BitVec.ofNat 32 (x.evt.trigMiss.get (idx 8 ((off - 0x0E80) / 4) (by decide)))
    else 0
/-- Registers of Atolls, translation, the management port, following, captures and the engine's globals (R488 to R490,
R494, R495). -/
def Dev.hostWord (x : Dev) (q : ReqSide) (off : Nat) : Word :=
  match off with
  | 0x2614 =>
    BitVec.ofNat 32 (x.sched.pend.filter (fun p =>
      decide (p.hdr.src = .host (idx 48 (q.selector 0x2600) (by decide))))).length
  | 0x2818 => cat [(0, x.host.tuAtoll), (8, x.host.tuCause)] | 0x281C => BitVec.ofNat 32 x.host.tuCnt
  | 0x2830 => cat [(0, x.host.mgtStatus.toNat)] | 0x4C2C => BitVec.ofNat 32 (x.ax (axOf q.profAxis)).gen.cmdLimit
  | 0x5000 => BitVec.ofNat 32 x.eng.load | 0x5004 => cat [(0, x.eng.admReason), (8, x.eng.admAxis)]
  | 0x5008 => BitVec.ofNat 32 x.eng.eccCorr
  | _ =>
    if 0x1000 ≤ off ∧ off < 0x1C00 ∧ off % 64 = 0 then
      BitVec.ofNat 32 (x.atl (idx 48 ((off - 0x1000) / 64) (by decide))).beacon.toNat
    else if 0x2000 ≤ off ∧ off < 0x2600 ∧ off % 32 = 28 then
      let a := x.atl (idx 48 ((off - 0x2000) / 32) (by decide))
      cat [(0, a.dev.toNat), (16, a.st.code), (24, a.reason.code), (28, b2n a.ctxBusy), (29, b2n a.beaconRange),
        (30, b2n a.preempted)]
    else if 0x4D00 ≤ off ∧ off < 0x4E80 then
      let v := x.ax (axOf ((off - 0x4D00) / 16))
      (match off % 16 with
       | 8 => BitVec.ofInt 32 v.fol.count
       | 12 => BitVec.ofNat 32 v.fol.dropped
       | _ => 0)
    else if 0x5010 ≤ off ∧ off < 0x5020 then BitVec.ofNat 32 (x.capu (idx 4 ((off - 0x5010) / 4) (by decide))).dropped
    else 0
/-- Registers of the partner table, router, mapper and twin (R499, R500). -/
def Dev.partWord (x : Dev) (q : ReqSide) (off : Nat) : Word :=
  let p := x.parts
  let t := x.twin
  match off with
  | 0xA580 => BitVec.ofNat 32 p.fullCnt
  | 0xA618 => BitVec.ofNat 32 (p.fwdCnt.get (idx 128 (q.selector 0xA600) (by decide)))
  | 0xA61C => BitVec.ofNat 32 (p.dropCnt.get (idx 128 (q.selector 0xA600) (by decide)))
  | 0xA680 => bytesWord p.mapStatus 0 | 0xA684 => bytesWord p.mapStatus 4
  | 0xA688 => BitVec.ofNat 32 p.mapBad | 0xA68C => cat [(0, p.mapBadCause)]
  | 0xA820 =>
    cat [(0, b2n t.en), (1, b2n t.unitB), (2, b2n t.pref), (4, t.summit.code), (8, b2n t.isUp), (9, t.peer), (11, b2n t.stale),
      (12, b2n t.ttMismatch), (13, b2n t.inhibit), (16, x.unitRank), (19, b2n x.healthy)]
  | 0xA870 => BitVec.ofNat 32 t.mseqSent | 0xA874 => BitVec.ofNat 32 t.mseqApplied
  | 0xA878 => BitVec.ofNat 32 t.mirrorSkipped | 0xA87C => BitVec.ofNat 32 t.mirrorDiscard
  | 0xA880 => t.xMask | 0xA884 => t.xSafe.setWidth 32 | 0xA888 => BitVec.ofNat 32 t.xCnt
  | _ =>
    if 0xA000 ≤ off ∧ off < 0xA100 ∧ off % 32 = 16 then
      BitVec.ofNat 32 (p.short.get (idx 8 ((off - 0xA000) / 32) (by decide)))
    else if 0xA900 ≤ off ∧ off < 0xA9C0 then t.lastHseq.get (idx 48 ((off - 0xA900) / 4) (by decide))
    else 0
/-- Registers of the Cairn, the ledger and the keeper (R501, R502). -/
def Dev.cairnWord (x : Dev) (q : ReqSide) (off : Nat) : Word :=
  let c := x.cairn
  let k := x.keeper
  match off with
  | 0xB000 => cat [(0, c.st.code)] | 0xB004 => BitVec.ofNat 32 c.headSeq | 0xB008 => BitVec.ofNat 32 c.oldest
  | 0xB00C => q.cur | 0xB010 => cat [(0, q.wstat)]
  | 0xB044 => BitVec.ofNat 32 c.qlost | 0xB048 => BitVec.ofNat 32 c.unwritten | 0xB050 => cat [(0, c.epiUsed)]
  | 0xB800 => cat [(0, b2n k.sleepRefused), (1, b2n k.pfWarn), (2, b2n k.epiFail)]
  | 0xB804 => cat [(0, (Config.vinLog k.vinLog (x.time.cyc / 20000)).toNat)] | 0xB808 => cat [(0, k.cause)]
  | 0xB80C => cat [(0, k.wakeSrc), (8, k.wakeCh)] | 0xB828 => BitVec.ofNat 32 c.pcc
  | _ =>
    if 0xB020 < off ∧ off ≤ 0xB03C then bytesWord q.win (off - 0xB020)
    else if 0xB100 ≤ off ∧ off < 0xB200 then
      BitVec.ofNat 32 ((x.dw (idx 8 ((off - 0xB100) / 32) (by decide))).ledger.get (idx 8 (off % 32 / 4) (by decide)))
    else if 0xB840 ≤ off ∧ off < 0xB85C then bytesWord k.epi (off - 0xB840)
    else 0
/-- The present value of a register that holds no set-up: 0 for a write-only field, a reserved word and any offset that
no table lists. (DESIGN CHOICE: log entry 123) -/
def Dev.liveWord (K : Memory) (x : Dev) (q : ReqSide) (off : Nat) : Word :=
  if off < 0x1000 then x.globalWord q off
  else if 0x3000 ≤ off ∧ off < 0x3800 then x.dwWord K (idx 8 ((off - 0x3000) / 256) (by decide)) (off % 256)
  else if (0x3800 ≤ off ∧ off < 0x4000) ∨ (0x7000 ≤ off ∧ off < 0x8000) then x.fioWord K off
  else if 0x4000 ≤ off ∧ off < 0x4C00 then x.axWord K (axOf ((off - 0x4000) / 128)) (off % 128)
  else if 0x5100 ≤ off ∧ off < 0x5D00 then (x.ax (axOf ((off - 0x5100) / 128))).engWord (off % 128)
  else if off < 0x6000 then x.hostWord q off
  else if off < 0x6C00 then x.portWord K (axOf ((off - 0x6000) / 128)) (off % 128)
  else if 0x8000 ≤ off ∧ off < 0xA000 then (x.ch (idx 8 ((off - 0x8000) / 1024) (by decide))).word (off % 1024)
  else if 0xA000 ≤ off ∧ off < 0xB000 then x.partWord q off
  else if 0xB000 ≤ off then x.cairnWord q off
  else 0
/-- A word of the profile window while WORKING is 1: the working copy (R117, R494). -/
def Dev.workingWord (x : Dev) (q : ReqSide) (i : Nat) : Word :=
  let s := (x.ax (axOf q.profAxis)).gen.sets.get (idx 4 (q.selector 0x4C00 / 256) (by decide))
  BitVec.ofNat 32 ([s.vStart, s.vBreak, s.vRidge, s.vStop, s.a1, s.a2, s.d2, s.d1, s.vCreep, s.vBlend].getD i 0)
/-- The word a register reads, latches apart. -/
def Dev.regWord (K : Memory) (x : Dev) (q : ReqSide) (off : Nat) : Word :=
  if 0xC000 ≤ off then 0
  else if 0x4C04 ≤ off ∧ off ≤ 0x4C28 ∧ q.working = true then x.workingWord q ((off - 0x4C04) / 4)
  else if 0x0F00 ≤ off ∧ off < 0x0F30 then K.rankWord ((off - 0x0F00) / 4)
  else if selFields off ≠ [] then NMap.get zeroWord q.sel off
  else if off < 0xC000 ∧ fieldsAt (q.key off) ≠ [] then K.word (q.key off)
  else x.liveWord K q off

/-! ### One read (R31, R267, R431, R480, R481) -/

def ReqSide.setLatch (off : Nat) (v : Word) (q : ReqSide) : ReqSide := { q with latch := NMap.set zeroWord q.latch off v }
def ReqSide.latched (q : ReqSide) (off : Nat) : Word := NMap.get zeroWord q.latch off
/-- Words latched from an offset upward. -/
def ReqSide.setLatches (off : Nat) (ws : List Word) (q : ReqSide) : ReqSide :=
  (ws.zip (List.range ws.length)).foldl (fun r e => r.setLatch (off + 4 * e.2) e.1) q
/-- The word an aligned read returns, and the requester's side after it. A latched upper half is marked one at the key
above the offsets. -/
def Dev.readOne (K : Memory) (x : Dev) (q : ReqSide) (off : Nat) : Word × ReqSide :=
  match x.wide K q off, x.wide K q (off - 4), x.snapshot q off with
  | some v, _, _ =>
    (BitVec.ofNat 32 v, (q.setLatch (off + 4) (BitVec.ofNat 32 (v / 2 ^ 32))).setLatch (0x10000 + off + 4) 1)
  | none, some v, _ => (if q.latched (0x10000 + off) = 1 then q.latched off else BitVec.ofNat 32 (v / 2 ^ 32), q)
  | none, none, some ws => (ws.getD 0 0, q.setLatches off ws)
  | none, none, none =>
    if inWindow off then (q.latched off, q)
    else if off = 0xB020 then
      let w := x.cairn.window q.cur.toNat
      (bytesWord w.2 0, { q with wstat := w.1, win := w.2 })
    else if off = 0xB03C then (bytesWord q.win 28, { q with cur := q.cur + 1 })
    else (x.regWord K q off, q)
/-- A read of BAR0 of a size or alignment the device does not act on (R267). -/
def Dev.barError (x : Dev) : Dev := { x with host := { x.host with barErr := satInc 16 x.host.barErr } }
/-- A read of BAR0: the word joins those the requester's access has returned. -/
def Dev.readInto (K : Memory) (r : Requester) (off : Nat) (x : Dev) : Dev :=
  if off % 4 ≠ 0 then (x.modReq r (fun q => { q with rdata := q.rdata ++ [0] })).barError
  else
    let a := x.readOne K (x.req r) off
    (x.modReq r (fun _ => { a.2 with rdata := a.2.rdata ++ [a.1] }))
/-- A read of one register. -/
def Dev.regRead (K : Memory) (r : Requester) (off : Nat) (x : Dev) : Dev :=
  (x.modReq r (fun q => { q with rdata := [] })).readInto K r off

end Sys2Proof.Machine
end

