-- ==== Sys2Proof/Machine/RegWrite.lean ====
section
/-! DEFINITION. Writes of BAR0 and BAR4 and the management port (R267, R272, R335 to R337, R477 to R482, R503): set-up
writes with their seal and range checks, and what each write-only and write-one-to-clear field does. -/

namespace Sys2Proof.Machine

/-! ### Set-up fields (R272, R477, R478) -/

/-- The Atoll holds what a context write must not touch (R272). (DEDUCED: log entry 68) -/
def Dev.ctxBusy (K : Memory) (x : Dev) (n : AtollId) : Bool :=
  !(x.atl n).live.isEmpty || (K.isWritten n && decide (x.unfreed n ≠ 0))
/-- With ATL_WB at 0 an Atoll has no index word to write: one that waits is dropped, and the signal that waits for it goes out (R275). -/
def Dev.noWriteBack (K' : Memory) (n : AtollId) (x : Dev) : Dev :=
  let a := x.atl n
  if K'.atlWb n.val = 0 ∧ a.wbDue = true then
    (x.modAtl n (fun a => { a with wbDue := false, irqDue := false })).when a.irqDue (Dev.signalAtl K' n)
  else x
/-- The Atoll after an accepted write of its context, under the contexts `K'` the write leaves; `old` are those before it.
A change of type or size clears both indices; a write of the first word enables a halted Atoll again (R272, R284). (DEDUCED: log entry 69) -/
def Dev.ctxWritten (old K' : Memory) (n : AtollId) (w : Nat) (x : Dev) : Dev :=
  let y :=
    if old.atlType n.val ≠ K'.atlType n.val ∨ old.atlSize n.val ≠ K'.atlSize n.val then
      x.modAtl n (fun a => { a with
        beacon := 0, dev := 0, avail := [], inChain := false, preempted := false, chainLen := 0, unann := 0, resume := false
        chainCancel := false, head := none, reread := false, fetchLate := []
        st := if K'.atlType n.val = 0 then .disabled else .idle, reason := .none })
    else if w = 0 ∧ (x.atl n).st = .halted then
      (if (x.atl n).reason = .linkDown ∧ x.linkOk = false then x.modAtl n (fun a => { a with resume := true })
       else x.modAtl n (fun a => { a with st := .idle, reason := .none }))
    else x
  let z := (y.each 48 (fun m u => u.settleAtl K' m)).noWriteBack K' n
  if (z.atl n).dev = (x.atl n).dev ∧ (z.atl n).st = (x.atl n).st ∧ (z.atl n).reason = (x.atl n).reason then z
  else z.changedAtl K' n
/-- LOOP_STATE of an axis whose kind is written as other than SERVO stays OPEN (R189); `k` is the word written. -/
def Dev.kindWritten (K' : Memory) (k : Nat) (x : Dev) : Dev :=
  match finOf 24 ((k - 0x5100) / 0x80) with
  | some a =>
    if k = engBase a.val ∧ K'.axKind a.val ≠ 1 then x.modAx a (fun v => { v with eng := { v.eng with loopClosed := false } }) else x
  | none => x
/-- A write of set-up fields: ignored while sealed or while a seal is being judged, refused where a field is out of range,
stored otherwise (R272, R477, R478). (DEDUCED: log entries 68, 125, 143) -/
def State.setupWrite (r : Requester) (off k : Nat) (v : Word) (s : State) : State :=
  let x := s.dev
  let fs := fieldsAt k
  if 0x4C04 ≤ off ∧ off ≤ 0x4C28 ∧ (x.req r).working = true then s
  else if (x.isSealed || x.su.sealing) && !rwKey k then
    { s with dev := { x with host := { x.host with suWrSealed := true } } }
  else
    let ctx := decide (0x2000 ≤ k ∧ k < 0x2600)
    let n : AtollId := idx 48 ((k - 0x2000) / 32) (by decide)
    if ctx && x.ctxBusy s.cfg n then { s with dev := x.modAtl n (fun a => { a with ctxBusy := true }) }
    else if !fieldsOk fs v || (decide (0xA000 ≤ k ∧ k < 0xA100) && !(s.cfg.put k (storedWord k v)).posOk ((k - 0xA000) / 32)) then
      { s with dev := { x with host := { x.host with rangeErr := true, glbErr := off, glbErrReq := decide (r = .mgt) } } }
    else
      let K' := s.cfg.put k (storedWord k v)
      { s with cfg := K', dev := if ctx then x.ctxWritten s.cfg K' n (k % 32) else x.kindWritten K' k }
/-- A write of a selector (R481). -/
def Dev.selWrite (r : Requester) (off : Nat) (v : Word) (x : Dev) : Dev :=
  if fieldsOk (selFields off) v then
    x.modReq r (fun q => { q with sel := NMap.set zeroWord q.sel off (v &&& fieldsMask (selFields off)) })
  else { x with host := { x.host with rangeErr := true, glbErr := off, glbErrReq := decide (r = .mgt) } }

/-! ### Write-only and write-one-to-clear fields -/

/-- Global, time and event registers. -/
def Dev.globalWrite (K : Memory) (r : Requester) (off : Nat) (v : Word) (x : Dev) : Dev :=
  let b := fun i => v.getLsbD i
  match off with
  | 0x0008 => x.modHost (fun h => { h with suWrSealed := h.suWrSealed && !b 0, rangeErr := h.rangeErr && !b 1 })
  | 0x0010 => if b 0 then x.modHost (fun h => { h with barErr := 0 }) else x
  | 0x0014 => if b 0 then x.modHost (fun h => { h with complLost := 0 }) else x
  | 0x0020 => if v = 0x53#32 then x.sealRequest K else if v = 0x55#32 then x.unsealRequest K else x
  | 0x0024 => if b 3 then x.modSu (fun u => { u with reqBusy := false }) else x
  | 0x0040 => if b 0 then x.imgSave K else x
  | 0x0808 =>
    x.modTime (fun t => { t with setRefused := t.setRefused && !b 5, sourceChanged := t.sourceChanged && !b 7 })
  | 0x0818 => if b 0 then x.askSet K K.ttSet none else x
  | 0x0828 => if b 0 then x.modTime (fun t => { t with syncDiscards := 0 }) else x
  | 0x082C => if b 0 then x.modTime (fun t => { t with syncOutlier := 0 }) else x
  | 0x0834 => if b 0 then { x with sched := { x.sched with refused := 0 } } else x
  | 0x0E24 =>
    let e : Fin 256 := idx 256 ((x.req r).selector 0x0E20) (by decide)
    if b 0 then { x with evt := { x.evt with cnt := x.evt.cnt.set e.val 0 e.isLt } } else x
  | _ =>
    if 0x0E00 ≤ off ∧ off < 0x0E20 then
      { x with evt := { x.evt with pend := x.evt.pend &&& ~~~((v.setWidth 256) <<< (8 * (off - 0x0E00))) } }
    else if 0x0E80 ≤ off ∧ off < 0x0EA0 ∧ b 0 = true then
      let k : Fin 8 := idx 8 ((off - 0x0E80) / 4) (by decide)
      { x with evt := { x.evt with trigMiss := x.evt.trigMiss.set k.val 0 k.isLt } }
    else x
/-- Atoll status, translation, following, captures and the engine's ECC counter. (DEDUCED: log entry 159) -/
def Dev.hostWrite (K : Memory) (mem : HostMem) (off : Nat) (v : Word) (x : Dev) : Dev :=
  let b := fun i => v.getLsbD i
  match off with
  | 0x2808 => if b 0 then x.modHost (fun h => { h with tuL1 := [], tuL2 := [] }) else x
  | 0x281C => if b 0 then x.modHost (fun h => { h with tuCnt := 0 }) else x
  | 0x2820 => match finOf 48 (v.toNat % 64) with
    | some n => x.v1ChainCancel K n mem
    | none => x
  | 0x5008 => if b 0 then { x with eng := { x.eng with eccCorr := 0 } } else x
  | _ =>
    if 0x2000 ≤ off ∧ off < 0x2600 then
      x.modAtl (idx 48 ((off - 0x2000) / 32) (by decide)) (fun a => { a with
        ctxBusy := a.ctxBusy && !b 28, beaconRange := a.beaconRange && !b 29 })
    else if 0x4D00 ≤ off ∧ off < 0x4E80 ∧ off % 16 = 12 ∧ b 0 = true then
      x.modAx (axOf ((off - 0x4D00) / 16)) (fun w => { w with fol := { w.fol with dropped := 0 } })
    else if 0x5010 ≤ off ∧ off < 0x5020 ∧ b 0 = true then
      x.modCap (idx 4 ((off - 0x5010) / 4) (by decide)) (fun c => { c with dropped := 0 })
    else x
/-- LOOP_FAULT_CLR of the sides whose bit is set. -/
def Dev.loopClrSides (sides : BitVec 2) (x : Dev) : Dev :=
  (x.when (sides.getLsbD 0) (Dev.loopFaultClr 0)).when (sides.getLsbD 1) (Dev.loopFaultClr 1)
/-- An axis block: profile generator, engine, port. -/
def Dev.axWrite (K : Memory) (a : AxisId) (o : Nat) (v : Word) (x : Dev) : Dev :=
  let b := fun i => v.getLsbD i
  match o with
  | 0x00 => (x.when (b 7) (Dev.modAx a (fun w => { w with gen := { w.gen with queueOvf := false } }))).when (b 8)
      (Dev.clearLimit K a)
  | 0x04 => x.when (b 0) (Dev.followResume K a)
  | 0x70 => x.when (b 0) (Dev.modAx a (fun w => { w with idxDrift := 0 }))
  | _ => x
/-- The engine block of an axis (R495). -/
def Dev.engWrite (K : Memory) (a : AxisId) (o : Nat) (v : Word) (x : Dev) : Dev :=
  let b := fun i => v.getLsbD i
  match o with
  | 0x40 => (x.when (b 4) (Dev.clearLate K a)).when (b 5) (Dev.clearFe K a)
  | 0x48 => x.when (b 0) (Dev.modAx a (fun w => { w with eng := { w.eng with intWraps := 0 } }))
  | 0x50 => x.when (b 0) (Dev.modAx a (fun w => { w with eng := { w.eng with fePeak := 0 } }))
  | _ => x
/-- The port block of an axis (R496). (DEDUCED: log entry 58) -/
def Dev.portWrite (K : Memory) (a : AxisId) (o : Nat) (v : Word) (x : Dev) : Dev :=
  let b := fun i => v.getLsbD i
  match o with
  | 0x40 => ((x.when (b 0) (Dev.clearFlt K a (x.ax a).port.fltPin)).when (b 1) (Dev.clearOc K a)).when (b 2) (Dev.clearFb K a)
  | 0x4C => x.when (b 0) (Dev.modPort a (fun p => { p with illegal := 0 }))
  | _ => x
/-- Counters of a channel block. -/
def Dev.chWrite (c : ChanId) (o : Nat) (v : Word) (x : Dev) : Dev :=
  if v.getLsbD 0 then
    x.modCh c (fun w =>
      if o = 0x68 then { w with rxLost := 0 }
      else if o = 0x6C then { w with detectFrames := 0 }
      else if o = 0x70 then { w with wakeErr := 0 }
      else w)
  else x
/-- Partner table, router, mapper and twin. (DEDUCED: log entry 95) -/
def Dev.partWrite (K : Memory) (r : Requester) (off : Nat) (v : Word) (x : Dev) : Dev :=
  let b := fun i => v.getLsbD i
  let rule : Fin 128 := idx 128 ((x.req r).selector 0xA600) (by decide)
  match off with
  | 0xA580 => x.when (b 0) (Dev.modParts (fun p => { p with fullCnt := 0 }))
  | 0xA618 => x.when (b 0) (Dev.modParts (fun p => { p with fwdCnt := p.fwdCnt.set rule.val 0 rule.isLt }))
  | 0xA61C => x.when (b 0) (Dev.modParts (fun p => { p with dropCnt := p.dropCnt.set rule.val 0 rule.isLt }))
  | 0xA688 => x.when (b 0) (Dev.modParts (fun p => { p with mapBad := 0 }))
  | 0xA824 => (x.when (b 0) (fun y => y.demoteClr K y.twin.drive)).when (b 1) (Dev.safeHoldClr K)
  | 0xA878 => x.when (b 0) (Dev.modTwin (fun t => { t with mirrorSkipped := 0 }))
  | 0xA87C => x.when (b 0) (Dev.modTwin (fun t => { t with mirrorDiscard := 0 }))
  | 0xA880 => x.modTwin (fun t => { t with xMask := t.xMask &&& ~~~v })
  | 0xA884 => x.modTwin (fun t => { t with xSafe := t.xSafe &&& ~~~(v.setWidth 4) })
  | 0xA888 => x.when (b 0) (Dev.modTwin (fun t => { t with xCnt := 0 }))
  | _ =>
    if off < 0xA100 ∧ off % 32 = 16 then
      let c : Fin 8 := idx 8 ((off - 0xA000) / 32) (by decide)
      x.when (b 0) (Dev.modParts (fun p => { p with short := p.short.set c.val 0 c.isLt }))
    else x
/-- Cairn and keeper. The outcome of the test write that a CAIRN_REARM makes is not known here and is a free value. (DESIGN CHOICE: log entry 106) -/
def Dev.cairnWrite (K : Memory) (m : Media) (r : Requester) (off : Nat) (v : Word) (x : Dev) : Dev :=
  let b := fun i => v.getLsbD i
  match off with
  | 0xB00C => x.modReq r (fun q => { q with cur := v })
  | 0xB040 => if b 0 then (x.cairnRearm (x.fresh.getLsbD 0)).drawn else x
  | 0xB044 => x.when (b 0) (Dev.modCairn (fun c => { c with qlost := 0 }))
  | 0xB048 => x.when (b 0) (Dev.modCairn (fun c => { c with unwritten := 0 }))
  | 0xB058 => x.when (b 0) Dev.epiClr
  | 0xB800 => if b 0 then { x with keeper := { x.keeper with sleepRefused := false } } else x
  | 0xB810 => x.when (b 0) (Dev.sleepReq K m)
  | _ => x
/-- A write of a register that holds no set-up. -/
def Dev.liveWrite (K : Memory) (env : Outside) (r : Requester) (off : Nat) (v : Word) (x : Dev) : Dev :=
  if off < 0x1000 then x.globalWrite K r off v
  else if off < 0x1C00 then
    (if off % 64 = 0 then x.beaconWrite K (idx 48 ((off - 0x1000) / 64) (by decide)) (v.setWidth 16) else x)
  else if off < 0x3000 then x.hostWrite K env.mem off v
  else if off = 0x3818 then x.loopClrSides (v.setWidth 2)
  else if off < 0x4000 then x
  else if off < 0x4C00 then x.axWrite K (axOf ((off - 0x4000) / 128)) (off % 128) v
  else if off < 0x5100 then x.hostWrite K env.mem off v
  else if off < 0x5D00 then x.engWrite K (axOf ((off - 0x5100) / 128)) (off % 128) v
  else if off < 0x6000 then x
  else if off < 0x6C00 then x.portWrite K (axOf ((off - 0x6000) / 128)) (off % 128) v
  else if off = 0x70B8 then x.clearOverload v
  else if off < 0x8000 then x
  else if off < 0xA000 then x.chWrite (idx 8 ((off - 0x8000) / 1024) (by decide)) (off % 1024) v
  else if off < 0xB000 then x.partWrite K r off v
  else x.cairnWrite K env.media r off v

/-! ### One write (R267, R477 to R481) -/

/-- The status byte of a frame: 0 LAST_OK, 1 CRC_ERR, 2 LENGTH_ERR, 3 ACCESS_ERR, 4 SEALED (R336). (DEDUCED: log entry 127) -/
def Dev.mgtDone (crc len acc : Bool) (x : Dev) : Dev :=
  x.modHost (fun h => { h with
    mgtStatus := BitVec.ofNat 8 (b2n (!crc && !len && !acc) + 2 * b2n crc + 4 * b2n len + 8 * b2n acc + 16 * b2n x.isSealed) })
/-- A 32-bit write of BAR0. A management write of the Beacon page or past 0xBFFF reaches no register and sets ACCESS_ERR (R336,
R337). (DEDUCED: log entries 70, 129) -/
def State.regWrite (r : Requester) (off : Nat) (v : Word) (env : Outside) (s : State) : State :=
  if off % 4 ≠ 0 then { s with dev := s.dev.barError }
  else if 0xC000 ≤ off ∨ (r = .mgt ∧ 0x1000 ≤ off ∧ off < 0x2000) then
    { s with dev := s.dev.when (r == .mgt) (Dev.mgtDone false false true) }
  else if selFields off ≠ [] then { s with dev := s.dev.selWrite r off v }
  else if off = 0x0028 then s.swReset v
  else if fieldsAt ((s.dev.req r).key off) ≠ [] then s.setupWrite r off ((s.dev.req r).key off) v
  else { s with dev := s.dev.liveWrite s.cfg env r off v }

/-! ### The management port (R335 to R337) -/

/-- Level of MGT_MISO while bit `b` of a frame is due, `sel` saying that MGT_CS_N is low; none is high impedance, which the pin keeps
in a device reset, without supply and outside a frame (R335, R462, R506). (DEDUCED: log entry 128) -/
def Dev.misoPin (sel b : Bool) (x : Dev) : Option Bool := if x.keeper.phase = .run ∧ sel = true then some b else none

/-- A READ frame of `n` words, of which `took` are clocked out before the frame ends: the words in the order read, and after all
of them the CRC-16 over every byte of the frame before it (R335, R336). (DEDUCED: log entries 127, 128) -/
def Dev.mgtRead (K : Memory) (off n took : Nat) (dummy : Word) (x : Dev) : Dev :=
  let y := x.modReq .mgt (fun q => { q with rdata := [] })
  if n = 0 ∨ 64 < n then y.mgtDone false true false
  else
    let z := y.over (List.range (min n took)) (fun i y => y.readInto K .mgt (off + 4 * i))
    let frame := [0x0B] ++ beBytes 2 off ++ beBytes 1 n ++ beBytes 4 dummy.toNat ++
      (z.req .mgt).rdata.flatMap (fun w => beBytes 4 w.toNat)
    (z.modHost (fun h => { h with mgtCrc := if n ≤ took then BitVec.ofNat 16 (crc16 frame) else h.mgtCrc })).mgtDone
      false (decide (took < n)) (decide (0xC000 ≤ off + 4 * (n - 1)))
/-- The words of a WRITE frame, applied in order; a word that resets the device or puts it to sleep is the last. (DEDUCED: log entry 70) -/
def State.mgtWords (off : Nat) (ws : List Word) (env : Outside) (s : State) : State :=
  (ws.zip (List.range ws.length)).foldl (fun t e =>
    if t.dev.keeper.phase = .run then t.regWrite .mgt (off + 4 * e.2) e.1 env else t) s
/-- A WRITE frame: applied when its length and its CRC are right. A frame whose command byte is no code of R335 applies nothing. (DEDUCED: log entry 127) -/
def State.mgtWrite (bytes : List Byte) (env : Outside) (s : State) : State :=
  let n := (bytes.getD 3 0).toNat
  let off := (bytes.getD 1 0).toNat * 256 + (bytes.getD 2 0).toNat
  let be := fun (l : List Byte) => l.foldl (fun m b => m * 256 + b.toNat) 0
  if bytes.getD 0 0 ≠ 0x02 then { s with dev := s.dev.mgtDone false true false }
  else if bytes.length ≠ 6 + 4 * n ∨ n = 0 ∨ 64 < n then { s with dev := s.dev.mgtDone false true false }
  else if crc16 (bytes.take (4 + 4 * n)) ≠ be (bytes.drop (4 + 4 * n)) then { s with dev := s.dev.mgtDone true false false }
  else
    let ws := (List.range n).map (fun i => BitVec.ofNat 32 (be (slice bytes (4 + 4 * i) 4)))
    let acc := (List.range n).any (fun i => decide (0xC000 ≤ off + 4 * i ∨ (0x1000 ≤ off + 4 * i ∧ off + 4 * i < 0x2000)))
    let t := s.mgtWords off ws env
    if t.dev.keeper.phase = .run then { t with dev := t.dev.mgtDone false false acc } else t
/-- A STATUS frame returns the status byte of the frame before it. (DEDUCED: log entry 127) -/
def Dev.mgtStatusRead (x : Dev) : Dev :=
  (x.modReq .mgt (fun q => { q with rdata := [x.host.mgtStatus.setWidth 32] })).mgtDone false false false

end Sys2Proof.Machine
end

