-- ==== Sys2Proof/Machine/Sched.lean ====
section
/-! DEFINITION. The launch scheduler at work (R17 to R19, R47 to R54, R295, R314): the release of pending actions, what each
action does at its release, cancels, and the passing of time. -/

namespace Sys2Proof.Machine

/-! ### What may act (R295, R296) -/

/-- Doorway commands, axis motion actions and field outputs: the families an unsealed device refuses (R296). -/
def Act.sealedOnly (a : Act) : Bool :=
  match a with
  | .door _ _ | .outSet _ _ | .outMask _ _ => true
  | .axis _ x =>
    (match x with
     | .move _ _ _ | .moveNow _ _ _ | .stop | .profileChange _ _ _ | .compareSet _ _ _ _ | .compareOff | .refArm _ | .refOff
     | .refSet _ => true
     | _ => false)
  | _ => false
/-- Status with which the unit refuses an action of its own host. (DESIGN CHOICE: log entry 6) -/
def Dev.unitRefuse (x : Dev) (h : Hdr) (a : Act) : Option Nat :=
  if !Src.isHost h.src then none
  else if x.isSealed then (if !x.holding && Act.actuator a then some stNotActive else none)
  else if Act.sealedOnly a then some stState
  else none
/-- An action takes effect by `f`, unless the unit refuses it. -/
def Dev.admitted (h : Hdr) (a : Act) (f : Dev → Dev) (x : Dev) : Dev :=
  match x.unitRefuse h a with
  | some c => x.complete h c
  | none => f x

/-! ### Cancels (R51, R314) -/

/-- A cancel has reached an action that is released. -/
def Hdr.mark (uid : Nat) (h : Hdr) : Hdr := if h.uid = uid then { h with cancelLate := true } else h
def Move.mark (uid : Nat) (m : Move) : Move := { m with hdr := m.hdr.map (Hdr.mark uid) }
def Gen.mark (uid : Nat) (g : Gen) : Gen :=
  { g with
    cur := g.cur.map (Move.mark uid), queue := g.queue.map (Move.mark uid), stops := g.stops.map (Hdr.mark uid)
    joints := g.joints.map (fun j => { j with move := j.move.mark uid }) }
def Eng.mark (uid : Nat) (e : Eng) : Eng :=
  let inj := Option.map (fun (j : Inj) => { j with hdr := Hdr.mark uid j.hdr })
  { e with
    inj := inj e.inj, autoReq := e.autoReq.map (Hdr.mark uid), save := e.save.map (fun s => { s with inj := inj s.inj }) }
def Capture.mark (uid : Nat) (c : Capture) : Capture :=
  { c with
    ops := c.ops.map (fun o => (o.1, Hdr.mark uid o.2)), tails := c.tails.map (fun t => { t with hdr := Hdr.mark uid t.hdr }) }
def Handover.mark (uid : Nat) (h : Handover) : Handover :=
  match h with
  | .offered t hs => .offered t (hs.map (Hdr.mark uid))
  | .granting t i hs => .granting t i (hs.map (Hdr.mark uid))
  | .yielded c hs => .yielded c (hs.map (Hdr.mark uid))
  | h => h
/-- A released action carries CANCEL_LATE in its completion, wherever it waits; a bus frame takes its cancel on the channel
(R51, R360). (DEDUCED: log entry 19) -/
def Dev.markLate (uid : Nat) (x : Dev) : Dev :=
  let a := x.each 24 (fun i y => y.modAx i (fun v => { v with gen := v.gen.mark uid, eng := v.eng.mark uid }))
  let b := a.each 4 (fun u y => y.modCap u (Capture.mark uid))
  let c := b.each 8 (fun i y => y.modCh i (fun v => { v with
    bufs := v.bufs.map (fun r => { r with hdr := Hdr.mark uid r.hdr })
    sleepReq := v.sleepReq.map (fun o => o.map (Hdr.mark uid)) }))
  { (c.cancelTx uid) with
    sched := { c.sched with launched := c.sched.launched.map (fun l => { l with hdr := Hdr.mark uid l.hdr }) }
    time := { c.time with setReq := c.time.setReq.map (fun r => { r with hdrs := r.hdrs.map (Hdr.mark uid) }) }
    cairn := { c.cairn with queue := c.cairn.queue.map (fun r => { r with hdr := r.hdr.map (Hdr.mark uid) }) }
    twin := { c.twin with hand := c.twin.hand.mark uid } }
/-- A pending action leaves the scheduler and completes with CANCELLED. -/
def Dev.removePend (uid : Nat) (x : Dev) : Dev :=
  match x.sched.pend.find? (fun p => decide (p.hdr.uid = uid)) with
  | some p =>
    ({ x with sched := { x.sched with pend := x.sched.pend.filter (fun q => decide (q.hdr.uid ≠ uid)) } } : Dev).completeTt
      p.hdr stCancelled false x.tt
  | none => x
/-- The mirrored action a mirrored cancel names. -/
def Dev.mirrored (x : Dev) (n : AtollId) (seq : Word) : Option Nat :=
  (x.sched.pend.find? (fun p => decide (p.hdr.src = .mirror n ∧ p.hdr.seq = seq))).map (fun p => p.hdr.uid)
/-- SCHED_CANCEL (R51, R314). A mirrored cancel looks among the actions mirrored from the Atoll it names (R405). (DEDUCED: log entry 21) -/
def Dev.effCancel (h : Hdr) (n : AtollId) (seq : Word) (x : Dev) : Dev :=
  match h.src with
  | .mirror _ => match x.mirrored n seq with
    | some uid => x.removePend uid
    | none => x
  | _ => match x.liveOf n seq with
    | none => x.complete h stBadOperand
    | some l =>
      if l.released then (x.markLate l.uid).complete h stCancelLate
      else (x.removePend l.uid).complete h stOK

/-! ### Release (R17 to R19, R49) -/

/-- An action that acts at a boundary of the core island waits there (R19). -/
def Dev.launched (h : Hdr) (a : Act) (x : Dev) : Dev :=
  { x with sched := { x.sched with launched := x.sched.launched ++ [⟨h, a⟩] } }
/-- A frame as it leaves the scheduler: a sync frame carries bits [63:32] of its launch (R36, R37). -/
def Dev.frameOut (x : Dev) (h : Hdr) (f : CanFrame) : CanFrame :=
  match h.src with
  | .sync _ => if f.data.getD 0 0 = 0x51 then { f with data := f.data.take 4 ++ beBytes 4 (x.tt / 2 ^ 32) } else f
  | _ => f
/-- TM_CONTROL (R313). (DEDUCED: log entry 21) -/
def Dev.effTmControl (h : Hdr) (c : ChanId) (run : Bool) (x : Dev) : Dev :=
  (x.modCh c (fun v => { v with run := run })).complete h stOK
/-- SCHED_MARK (R313). -/
def Dev.effSchedMark (K : Memory) (h : Hdr) (x : Dev) : Dev := (x.event K 0xE4 objDevice 1 0).complete h stOK
/-- What an action does at its release. -/
def Dev.actNow (K : Memory) (h : Hdr) (a : Act) (deadline : Nat) (x : Dev) : Dev :=
  match a with
  | .door _ _ | .axis _ _ | .envLoad _ _ _ _ | .envRead _ _ _ => x.launched h a
  | .outSet o lvl => x.effOutSet K h o lvl
  | .outMask mask lvl => x.effOutMask K h mask lvl
  | .busTx c f retry => x.busRelease K h c (x.frameOut h f) retry deadline
  | .rxSupply c buf len cookie => x.effRxSupply h c buf len cookie
  | .chanMode c r => x.effChanMode K h c r
  | .captureStart u o => x.effCaptureStart K h u o
  | .captureStop u => x.effCaptureStop K h u
  | .cairnExport o => x.effCairnExport h o
  | .cairnMark p => x.effCairnMark h p
  | .schedMark => x.effSchedMark K h
  | .ttSet v => x.askSet K v.toNat (some h)
  | .tmControl c run => x.effTmControl h c run
  | .schedCancel n seq => x.effCancel h n seq
  | .nop => x.complete h stOK
  | .twinYield => x.effTwinYield h
  | .takebackInhibit b => x.effInhibit h b
/-- A host descriptor's action is released (R286). -/
def Dev.released (K : Memory) (h : Hdr) (x : Dev) : Dev :=
  match h.src with
  | .host n =>
    (x.modAtl n (fun a =>
      let l := a.live.map (fun q => if q.uid = h.uid then { q with released := true } else q)
      { a with live := l, relAt := if l.all (fun q => q.released) then x.time.cyc else a.relAt })).settleAtl K n
  | _ => x
/-- A pending action is launched: LAUNCH_LATE where the actual launch is at or after its deadline (R49), then its effect. (DEDUCED: log entry 19) -/
def Dev.launch (K : Memory) (p : Pend) (x : Dev) : Dev :=
  let late := decide (p.deadline ≤ x.tt)
  let h : Hdr := { p.hdr with tt := x.tt, late := late }
  let y := if late then x.faultSet K 0x0002 (lateObject h p.act) (leBytes 4 (min (2 ^ 32 - 1) (x.tt - p.deadline))) else x
  y.admitted h p.act (Dev.actNow K h p.act p.deadline)
/-- Pending actions in the order of their launch times, those of one launch time in the order received. -/
def byLaunch (l : List Pend) : List Pend :=
  l.foldl (fun r p => r.takeWhile (fun q => decide (q.launch ≤ p.launch)) ++ p :: r.dropWhile (fun q => decide (q.launch ≤ p.launch))) []
/-- The action a cancel names, where it has been released. -/
def Dev.cancelAim (x : Dev) (p : Pend) : Option Nat :=
  match p.act, p.hdr.src with
  | .schedCancel _ _, .mirror _ => none
  | .schedCancel n seq, _ => (x.liveOf n seq).map (fun l => l.uid)
  | _, _ => none
/-- Actions released in one cycle act in order; a cancel among them comes too late for those behind it. -/
def Dev.launchAll (K : Memory) : List Nat → List Pend → Dev → Dev
  | _, [], x => x
  | late, p :: r, x =>
    let q : Pend := if late.contains p.hdr.uid then { p with hdr := { p.hdr with cancelLate := true } } else p
    Dev.launchAll K (late ++ (x.cancelAim p).toList) r (x.launch K q)
/-- A pending action is due at the present instant. -/
def Dev.isDue (x : Dev) (p : Pend) : Bool := !p.held && decide (p.launch ≤ x.tt)
/-- Every pending action whose launch time has come is released in this cycle (R17, R18, R53); a cancel has come too late for those
of `late` (R51). -/
def Dev.releaseWith (K : Memory) (late : List Nat) (x : Dev) : Dev :=
  let due := byLaunch (x.sched.pend.filter x.isDue)
  let y : Dev := { x with sched := { x.sched with pend := x.sched.pend.filter (fun p => !(x.isDue p)) } }
  Dev.launchAll K late due (y.over due (fun p z => z.released K p.hdr))
/-- Every pending action whose launch time has come is released in this cycle. -/
def Dev.releaseDue (K : Memory) (x : Dev) : Dev := x.releaseWith K []
/-- The action a cancel names, where it waits and its launch time has come: the present cycle is its release cycle (R51). -/
def Dev.dueTarget (x : Dev) (h : Hdr) (n : AtollId) (seq : Word) : Option Nat :=
  let aim : Option Nat := match h.src with
    | .mirror _ => x.mirrored n seq
    | _ => (x.liveOf n seq).map (fun l => l.uid)
  aim.bind (fun uid => if x.sched.pend.any (fun p => x.isDue p && decide (p.hdr.uid = uid)) then some uid else none)
/-- SCHED_CANCEL as it is released: in the release cycle of its target it comes too late, and the target acts as launched (R51,
R314). -/
def Dev.cancelNow (K : Memory) (h : Hdr) (n : AtollId) (seq : Word) (x : Dev) : Dev :=
  match x.dueTarget h n seq with
  | some uid => ((x.releaseWith K [uid]).markLate uid).complete h stCancelLate
  | none => x.effCancel h n seq
/-- The earliest launch time of a pending action that is not held. -/
def Dev.nextLaunch (x : Dev) : Option Nat :=
  x.sched.pend.foldl (fun m p =>
    if p.held then m
    else match m with
      | some t => some (min t p.launch)
      | none => some p.launch) none

/-! ### Time passes -/

/-- `n` cycles pass in the twin island: it sends the header alone in each control frame whose Isthmus frame the core island has
not begun by B + 2.0 µs (R400). (DEDUCED: log entry 92) -/
def Dev.twinPass (n : Nat) (x : Dev) : Dev :=
  match x.twin.sentFrame with
  | some _ =>
    let t := (x.cycles n).time
    (x.stoppedFrames (if t.tt % 25000 < 2000 then t.frames - 1 else t.frames)).cycles n
  | none => x.cycles n
/-- `n` cycles pass with no action released in them; the watchdog is retriggered where pass 1 of the running frame ends in them
(R396). -/
def Dev.elapse (K : Memory) (n : Nat) (x : Dev) : Dev :=
  match x.twin.wdogNext with
  | some c =>
    if c - x.time.cyc ≤ n then (((x.twinPass (c - x.time.cyc)).retriggerNow K).twinWatch).twinPass (n - (c - x.time.cyc))
    else x.twinPass n
  | none => x.twinPass n
/-- `n` cycles pass, and each action whose launch time they reach is released in its cycle; the fuel bounds the release
instants. -/
def Dev.pass (K : Memory) : Nat → Nat → Dev → Dev
  | 0, n, x => x.elapse K n
  | fuel + 1, n, x =>
    let y := x.releaseDue K
    match y.nextLaunch with
    | some l =>
      if y.cyclesTo l ≤ n then Dev.pass K fuel (n - y.cyclesTo l) (y.elapse K (y.cyclesTo l)) else y.elapse K n
    | none => y.elapse K n
/-- `n` cycles pass. With 0, what is due now is released. (DESIGN CHOICE: log entries 1, 3) -/
def Dev.advance (K : Memory) (n : Nat) (x : Dev) : Dev := x.twinWatch.pass K (x.sched.pend.length + 1) n
/-- Time passes until a cycle, which is now where it has passed. (DESIGN CHOICE: log entry 4) -/
def Dev.untilCyc (K : Memory) (c : Nat) (x : Dev) : Dev := x.advance K (c - x.time.cyc)
/-- Time passes until a train time, which is now where it has passed. (DESIGN CHOICE: log entry 4) -/
def Dev.untilTT (K : Memory) (t : Nat) (x : Dev) : Dev := x.advance K (x.cyclesTo t)
/-- Time passes until a train time at which a step is applied: what is launched in the cycle of the step is judged by the new
train time (R53). -/
def Dev.untilStep (K : Memory) (t : Nat) (x : Dev) : Dev :=
  if x.cyclesTo t = 0 then x.twinWatch else (x.advance K (x.cyclesTo t - 1)).elapse K 1
/-- Time passes until frame count `f`, which is now where it has passed. (DESIGN CHOICE: log entry 4) -/
def Dev.untilFrame (K : Memory) (f : Nat) (x : Dev) : Dev :=
  if f ≤ x.time.frames then x.advance K 0 else x.untilTT K ((x.tt / 25000 + (f - x.time.frames)) * 25000)
/-- ACTION_RELEASE: time passes until the earliest launch time, where an action is pending. -/
def Dev.actionRelease (K : Memory) (x : Dev) : Dev :=
  match x.nextLaunch with
  | some l => x.untilTT K l
  | none => x
/-- A time-driven effect: where `due` gives its instant as a cycle, time passes until it and `f` follows; nothing happens
otherwise. (DESIGN CHOICE: log entries 3, 4) -/
def Dev.timed (K : Memory) (due : Option Nat) (f : Dev → Dev) (x : Dev) : Dev :=
  match due with
  | some c => f (x.untilCyc K c)
  | none => x

end Sys2Proof.Machine
end

