-- ==== Sys2Proof/Machine/Frame.lean ====
section
/-! DEFINITION. The control frame (R11, R19 to R22, R62, R168, R181, R182): what the core island computes at a frame boundary
and in which order, and the miss of a period (R197). -/

namespace Sys2Proof.Machine

/-! ### The boundary -/

/-- A period of the axis begins at the present frame boundary (R11). -/
def Dev.periodNow (K : Memory) (x : Dev) (a : AxisId) : Bool := decide (x.frameB % K.period a.val = 0)
/-- Time passes until the next frame boundary not computed yet, the present one included (R20). -/
def Dev.toFrame (K : Memory) (x : Dev) : Dev :=
  let here := x.atMultiple 25000 && decide (x.time.lastF ≠ some x.time.frames)
  let y := if here then x.advance K 0 else x.untilTT K ((x.tt / 25000 + 1) * 25000)
  y.modTime (fun t => { t with lastF := some t.frames })

/-- Time passes until the next period boundary of an axis, the present one included while its control frame has not been computed
(R11, R155). -/
def Dev.toPeriod (K : Memory) (a : AxisId) (x : Dev) : Dev :=
  let per := K.period a.val
  if x.atMultiple per && decide (x.time.lastF ≠ some x.time.frames) then x.advance K 0
  else x.untilTT K ((x.tt / per + 1) * per)

/-! ### Launched actions (R19, R62, R301 to R310) -/

/-- A launched action takes effect in the present frame (R19, R299): a coefficient block at the first frame boundary, every
other axis action at a period boundary of its axis. -/
def Dev.actsNow (K : Memory) (x : Dev) (a : Act) : Bool :=
  match a with
  | .axis i y =>
    (match y with
     | .coefLoad _ _ | .coefRead _ _ _ => true
     | _ => x.periodNow K i)
  | _ => true
/-- A maintenance action (R201). -/
def isMaint (y : AxAct) : Bool :=
  match y with
  | .modeManual _ _ _ | .inject _ => true
  | _ => false
/-- An action of an axis takes effect; `frame` says that it does so at a period boundary, `comp` that the engine computes the axis in
the period (R201). -/
def Dev.axisAct (K : Memory) (frame comp : Bool) (h : Hdr) (a : AxisId) (y : AxAct) (x : Dev) : Dev :=
  match y with
  | .move pos rel set => x.effMove K h a pos rel set
  | .moveNow pos rel set => x.effMoveNow K h a pos rel set
  | .stop => x.effStop K h a
  | .profileChange set mask vals => x.effProfile K h a set mask vals
  | .compareSet c neg measured passed => x.effCompareSet K frame h a c neg measured passed
  | .compareOff => x.effCompareOff K h a
  | .refArm o => x.effRefArm K h a o
  | .refOff => x.effRefOff K h a
  | .refSet pos => x.effRefSet K frame h a pos
  | .loopOpen => x.effLoopOpen K h a
  | .loopClose => x.effLoopClose K h a
  | .coefLoad len data => x.effCoefLoad K h a len data
  | .coefRead sel len buf => x.effCoefRead h a sel len buf
  | .modeManual force c0 c1 => x.effManual K comp h a force c0 c1
  | .modeAuto => x.effAuto K h a
  | .manSet force c0 c1 => x.effManSet h a force c0 c1
  | .inject o => x.effInject K comp h a o
  | .injectStop => x.effInjectStop h a
/-- The engine will compute the axis in the period that begins here, once the actions `rest` still to take effect on it have done so
and step 3 has made the period (R169, R201). -/
def Dev.willCompute (K : Memory) (rest : List Launched) (a : AxisId) (x : Dev) : Bool :=
  ((x.over rest (fun l y => match l.act with
    | .axis b z => if b = a ∧ isMaint z = false then y.axisAct K true false l.hdr b z else y
    | _ => y)).axisPeriod K a).computes K a
/-- A launched action of an axis or an envelope takes effect, with `rest` behind it. (DEDUCED: log entry 5) -/
def Dev.applyAct (K : Memory) (rest : List Launched) (l : Launched) (x : Dev) : Dev :=
  match l.act with
  | .axis a y => x.axisAct K true (isMaint y && x.willCompute K rest a) l.hdr a y
  | .envLoad d closing ecrc data => x.effEnvLoad K l.hdr d closing ecrc data
  | .envRead d closing buf => x.effEnvRead l.hdr d closing buf
  | _ => x
/-- The launched actions of a boundary take effect, in order. -/
def Dev.applyActs (K : Memory) : List Launched → Dev → Dev
  | [], x => x
  | l :: r, x => Dev.applyActs K r (x.applyAct K r l)
/-- The doorway commands among launched actions, for one doorway. -/
def dueFor (l : List Launched) (d : DoorId) : List DoorDue :=
  l.filterMap (fun a => match a.act with
    | .door e c => if e = d then some ⟨a.hdr, c⟩ else none
    | _ => none)

/-! ### Steps 1 to 5 of R20 -/

/-- Step 1 for an axis whose period begins: what the period before leaves behind, and the latch. -/
def Dev.latchAxis (K : Memory) (a : AxisId) (x : Dev) : Dev :=
  ((x.capBefore K a x.frameB).hallAngle K a).axisLatch K a
/-- Step 1: the current channels take the pin levels up to the boundary, and every axis whose period begins is latched. -/
def Dev.latchStep (K : Memory) (pins : List (List (BitVec 4))) (x : Dev) : Dev :=
  x.each 24 (fun a y =>
    let z := y.sdTake K a (pins.getD a.val [])
    if z.periodNow K a then z.latchAxis K a else z)
/-- Step 2: safety pairs, release gate, the doorways in ascending order with their commands, outputs and loop, and the state
digest. (DEDUCED: log entry 5) -/
def Dev.doorStep (K : Memory) (due : List Launched) (x : Dev) : Dev :=
  let y := (x.each 4 (fun p z => z.pairFrame K p)).each 8 (fun d z => z.gateFrame K d)
  ((y.each 8 (fun d z => z.doorFrame K d (dueFor due d))).doorTail K).takeDigest K
/-- Step 3: profile changes that wait apply, injections and manual modes that are due to end do so, the launched actions take effect
and every generator whose period begins runs; an injection whose axis the period then leaves uncomputed ends (R169, R206). (DEDUCED: log entry 5) -/
def Dev.profileStep (K : Memory) (due : List Launched) (x : Dev) : Dev :=
  let y := x.each 24 (fun a y => if y.periodNow K a then ((y.genOpen K a).injDue K a true).manDue K a else y)
  (Dev.applyActs K due y).each 24 (fun a y =>
    if y.periodNow K a then
      let z := y.axisPeriod K a
      if z.computes K a then z else z.endInj a 4 stCancelled
    else y)
/-- Pass 1 with measured exceedance on an armed leaf, and the phase duties of a stepper. -/
def Dev.passOne (K : Memory) (a : AxisId) (x : Dev) : Dev :=
  let y := x.pass1 K a
  let z := if K.axKind a.val = 2 then y.stepper K a else y
  match K.owner a with
  | some (d, r) => if r < 2 then z.exceed K d (r, a) else z
  | none => z
/-- Pass 2 on an axis: the prediction of an armed leaf with detection and prediction enabled; one that is not computed predicts
nothing. (DESIGN CHOICE: log entry 175) -/
def Dev.passTwo (K : Memory) (a : AxisId) (x : Dev) : Dev :=
  match K.owner a with
  | some (d, r) =>
    if r < 2 ∧ K.predLeaf a = true ∧ x.leafArmed d a = true ∧ (x.ax a).eng.computed = true then
      match engPass2 (x.ax a).eng with
      | some f => (x.modAx a (fun v => { v with eng := { v.eng with f8 := some f } })).predict K d (r, a)
      | none => x.engRange K a 1
    else
      let y := x.modAx a (fun v => { v with eng := { v.eng with f8 := none } })
      if r < 2 then y.predIdle K d a else y
  | none => x
/-- Step 4: pass 1, which ends `took` cycles after the boundary, where the frame watchdog is retriggered, and pass 2. -/
def Dev.engineStep (K : Memory) (took : Nat) (x : Dev) : Dev :=
  let y := (x.each 24 (fun a z => if z.periodNow K a then z.passOne K a else z)).retrigger K took
  y.each 24 (fun a z => if z.periodNow K a then z.passTwo K a else z)
/-- One control frame with the levels of the current channels' pins up to the boundary; gate-command patterns ordered in it take
effect at once (R222). (DEDUCED: log entry 5) -/
def Dev.controlFrame (K : Memory) (pins : List (List (BitVec 4))) (took : Nat) (x : Dev) : Dev :=
  let x0 := x.toFrame K
  let due := x0.sched.launched.filter (fun l => x0.actsNow K l.act)
  let x1 : Dev := { x0 with sched := { x0.sched with
    launched := x0.sched.launched.filter (fun l => !(x0.actsNow K l.act)) } }
  let x2 := (x1.latchStep K pins).safeTakeover K
  let x3 := ((x2.doorStep K due).profileStep K due).engineStep K took
  let x4 := x3.each 24 (fun a y => if y.periodNow K a then y.capAfter a y.frameB else y)
  (x4.gatesNow K).isthmusSend
/-- Time passes until B + 24.5 µs of the running period of an axis whose boundary B the latest control frame or an earlier one has
computed; none does where that has passed (R197, R199). -/
def Dev.toDeadline (K : Memory) (a : AxisId) (x : Dev) : Dev :=
  let back := x.frameB % K.period a.val
  match x.time.lastF with
  | some f => if x.time.frames ≤ f + back / 25000 then x.untilTT K (x.frameB - back + 24500) else x
  | none => x
/-- A computed axis misses its period, which shows at its deadline (R197): the frame does not retrigger the watchdog, the engine's
values go back, and the period gives no prediction. -/
def Dev.missPeriod (K : Memory) (a : AxisId) (finished : Bool) (x : Dev) : Dev :=
  if (x.ax a).eng.save.isNone then x
  else ((((x.unRetrigger K).toDeadline K a).computeLate K a finished).unPredict K a).gateNow K a
/-- A confirmed detection of a doorway takes effect: its sequencer runs once in the present frame, where a row that ranks above the
detection is taken before it (R62, R100, R106, R107, R111). -/
def Dev.obstacleConfirmed (K : Memory) (d : DoorId) (x : Dev) : Dev :=
  if (x.detection K d).isSome then x.doorNow K d [] else x
/-- The start allowance of a leaf axis ends once T_START has passed since the first set-point of its move (R97). -/
def Dev.allowanceEnd (K : Memory) (a : AxisId) (x : Dev) : Dev :=
  match K.owner a with
  | some (d, _) =>
    if x.allowance K d a then x else x.modAx a (fun v => { v with eng := { v.eng with startAt := none } })
  | none => x.modAx a (fun v => { v with eng := { v.eng with startAt := none } })

/-! ### Times of a doorway (R62, R63, R71) -/

/-- A timed row of R63: where it is pending, time passes until `n` frames have passed since frame `start`, and the sequencer
of the doorway runs. (DEDUCED: log entry 34) -/
def Dev.doorTimer (K : Memory) (d : DoorId) (pending : Bool) (start n : Nat) (x : Dev) : Dev :=
  if pending && x.isSealed && K.dwEn d.val then (x.untilFrame K (start + n)).doorNow K d [] else x
/-- The discrepancy timer of a pair whose channels disagree runs out (R71). -/
def Dev.pairDiscrepancy (K : Memory) (p : Fin 4) (x : Dev) : Dev :=
  let c := x.pairIn K p
  let q := x.gate.pairs.get p
  let lim := 1000 * K.discTime p.val
  if q.fault || c.1 == c.2 || (decide (p = 3) && !K.zs2En) then x
  else
    ((x.untilFrame K (x.time.frames + (lim - q.timer + 24) / 25)).modPair p (fun r =>
      { r with timer := max r.timer (lim - 25) })).pairFrame K p

end Sys2Proof.Machine
end

