-- ==== Sys2Proof/Machine/ActionCommands.lean ====
section
/-! DEFINITION. The commands of the descriptor catalogue (R299 to R316): each is the action judged and carried out at the
present instant, with the header it brings. An action on its way through the launch scheduler is carried out by the same
functions at its release and at its boundary. -/

namespace Sys2Proof.Machine

/-- A doorway command is judged by its doorway now (R301). (DESIGN CHOICE: log entry 6) -/
def State.doorCmd (s : State) (h : Hdr) (d : DoorId) (c : DoorCmd) : Host.Outcome State Fault Refusal :=
  s.live (fun K x => x.admitted h (.door d c) (Dev.doorNow K d [⟨h, c⟩]))
/-- An axis action is judged and takes effect now (R303, R310). (DESIGN CHOICE: log entry 6) -/
def State.axisCmd (s : State) (h : Hdr) (a : AxisId) (y : AxAct) : Host.Outcome State Fault Refusal :=
  s.live (fun K x => x.admitted h (.axis a y) (Dev.axisAct K false (x.computes K a) h a y))
/-- Any other action does now what it does at its release or boundary. (DESIGN CHOICE: log entry 6) -/
def State.actCmd (s : State) (h : Hdr) (a : Act) (f : Memory → Dev → Dev) : Host.Outcome State Fault Refusal :=
  s.live (fun K x => x.admitted h a (f K))

/-! ### Doorway commands (R301) -/

/-- OPEN. -/
def execOpening (h : Hdr) (d : DoorId) (s : State) : Host.Outcome State Fault Refusal := s.doorCmd h d .opening
/-- CLOSE. -/
def execClose (h : Hdr) (d : DoorId) (s : State) : Host.Outcome State Fault Refusal := s.doorCmd h d .close
/-- HOLD_OPEN. -/
def execHoldOpen (h : Hdr) (d : DoorId) (set : Bool) (s : State) : Host.Outcome State Fault Refusal :=
  s.doorCmd h d (.holdOpen set)
/-- BUTTONS. -/
def execButtons (h : Hdr) (d : DoorId) (set : Bool) (s : State) : Host.Outcome State Fault Refusal :=
  s.doorCmd h d (.buttons set)
/-- FAULT_RESET (R81). -/
def execFaultReset (h : Hdr) (d : DoorId) (s : State) : Host.Outcome State Fault Refusal := s.doorCmd h d .faultReset

/-! ### Axis motion (R302, R303) -/

/-- MOVE. -/
def execMove (h : Hdr) (a : AxisId) (pos : Int) (rel : Bool) (set : Fin 4) (s : State) : Host.Outcome State Fault Refusal :=
  s.axisCmd h a (.move pos rel set)
/-- MOVE_NOW. -/
def execMoveNow (h : Hdr) (a : AxisId) (pos : Int) (rel : Bool) (set : Fin 4) (s : State) : Host.Outcome State Fault Refusal :=
  s.axisCmd h a (.moveNow pos rel set)
/-- STOP. -/
def execStop (h : Hdr) (a : AxisId) (s : State) : Host.Outcome State Fault Refusal := s.axisCmd h a .stop
/-- PROFILE_CHANGE. -/
def execProfileChange (h : Hdr) (a : AxisId) (set : Fin 4) (mask : BitVec 11) (vals : List Word) (s : State) :
    Host.Outcome State Fault Refusal := s.axisCmd h a (.profileChange set mask vals)
/-- COMPARE_SET: the present set-point decides whether the compare position is behind (R140). -/
def execCompareSet (h : Hdr) (a : AxisId) (c : Int) (neg measured passed : Bool) (s : State) :
    Host.Outcome State Fault Refusal := s.axisCmd h a (.compareSet c neg measured passed)
/-- COMPARE_OFF. -/
def execCompareOff (h : Hdr) (a : AxisId) (s : State) : Host.Outcome State Fault Refusal := s.axisCmd h a .compareOff
/-- REF_ARM. -/
def execRefArm (h : Hdr) (a : AxisId) (o : RefArmOps) (s : State) : Host.Outcome State Fault Refusal := s.axisCmd h a (.refArm o)
/-- REF_OFF. -/
def execRefOff (h : Hdr) (a : AxisId) (s : State) : Host.Outcome State Fault Refusal := s.axisCmd h a .refOff
/-- REF_SET. -/
def execRefSet (h : Hdr) (a : AxisId) (pos : Int) (s : State) : Host.Outcome State Fault Refusal := s.axisCmd h a (.refSet pos)

/-! ### Field outputs (R304) -/

/-- OUT_SET. -/
def execOutSet (h : Hdr) (o : OutId) (lvl : Bool) (s : State) : Host.Outcome State Fault Refusal :=
  s.actCmd h (.outSet o lvl) (fun K => Dev.effOutSet K h o lvl)
/-- OUT_MASK. -/
def execOutMask (h : Hdr) (mask lvl : Word) (s : State) : Host.Outcome State Fault Refusal :=
  s.actCmd h (.outMask mask lvl) (fun K => Dev.effOutMask K h mask lvl)

/-! ### Bus (R305 to R308) -/

/-- Deadline of a frame sent now: the default slack of its Atoll (R48), none for a frame of another source. (DEDUCED: log entry 20) -/
def Dev.deadlineOf (K : Memory) (x : Dev) (h : Hdr) : Nat :=
  match h.src with
  | .host n => x.tt + K.atlSlack n.val
  | _ => noDeadline
/-- BUS_TX: the frame enters transmit arbitration. (DEDUCED: log entry 20) -/
def execBusTx (h : Hdr) (c : ChanId) (f : CanFrame) (retry : Nat) (s : State) : Host.Outcome State Fault Refusal :=
  s.actCmd h (.busTx c f retry) (fun K x => x.busRelease K h c f retry (x.deadlineOf K h))
/-- RX_SUPPLY. -/
def execRxSupply (h : Hdr) (c : ChanId) (buf : Buf) (len : Nat) (cookie : Word) (s : State) :
    Host.Outcome State Fault Refusal :=
  s.actCmd h (.rxSupply c buf len cookie) (fun _ => Dev.effRxSupply h c buf len cookie)
/-- CHAN_MODE SLEEP. -/
def execChanModeSleep (h : Hdr) (c : ChanId) (s : State) : Host.Outcome State Fault Refusal :=
  s.actCmd h (.chanMode c .sleep) (fun _ => Dev.effSleep h c)
/-- CHAN_MODE WAKE. -/
def execChanModeWake (h : Hdr) (c : ChanId) (s : State) : Host.Outcome State Fault Refusal :=
  s.actCmd h (.chanMode c .wake) (fun _ => Dev.effWake h c)
/-- CHAN_MODE RECOVER. -/
def execChanModeRecover (h : Hdr) (c : ChanId) (s : State) : Host.Outcome State Fault Refusal :=
  s.actCmd h (.chanMode c .recover) (fun K => Dev.effRecover K h c)
/-- CHAN_MODE FLUSH. -/
def execChanModeFlush (h : Hdr) (c : ChanId) (s : State) : Host.Outcome State Fault Refusal :=
  s.actCmd h (.chanMode c .flush) (fun _ => Dev.effFlush h c)

/-! ### Control engine (R309, R310) -/

/-- LOOP_OPEN. -/
def execLoopOpen (h : Hdr) (a : AxisId) (s : State) : Host.Outcome State Fault Refusal := s.axisCmd h a .loopOpen
/-- LOOP_CLOSE. -/
def execLoopClose (h : Hdr) (a : AxisId) (s : State) : Host.Outcome State Fault Refusal := s.axisCmd h a .loopClose
/-- COEF_LOAD of a block. -/
def execCoefLoadBlock (h : Hdr) (a : AxisId) (len : Nat) (data : List Byte) (s : State) : Host.Outcome State Fault Refusal :=
  s.axisCmd h a (.coefLoad len data)
/-- COEF_LOAD of an envelope. -/
def execCoefLoadEnvelope (h : Hdr) (d : DoorId) (closing : Bool) (ecrc : BitVec 16) (data : List Byte) (s : State) :
    Host.Outcome State Fault Refusal :=
  s.actCmd h (.envLoad d closing ecrc data) (fun K => Dev.effEnvLoad K h d closing ecrc data)
/-- COEF_READ of a block. -/
def execCoefReadBlock (h : Hdr) (a : AxisId) (sel len : Nat) (buf : Buf) (s : State) : Host.Outcome State Fault Refusal :=
  s.axisCmd h a (.coefRead sel len buf)
/-- COEF_READ of an envelope. -/
def execCoefReadEnvelope (h : Hdr) (d : DoorId) (closing : Bool) (buf : Buf) (s : State) : Host.Outcome State Fault Refusal :=
  s.actCmd h (.envRead d closing buf) (fun _ => Dev.effEnvRead h d closing buf)
/-- MODE_SWITCH to a manual mode. -/
def execModeSwitchManual (h : Hdr) (a : AxisId) (force : Bool) (c0 c1 : Int) (s : State) : Host.Outcome State Fault Refusal :=
  s.axisCmd h a (.modeManual force c0 c1)
/-- MODE_SWITCH to AUTO. -/
def execModeSwitchAuto (h : Hdr) (a : AxisId) (s : State) : Host.Outcome State Fault Refusal := s.axisCmd h a .modeAuto
/-- MAN_SET. -/
def execManSet (h : Hdr) (a : AxisId) (force : Bool) (c0 c1 : Int) (s : State) : Host.Outcome State Fault Refusal :=
  s.axisCmd h a (.manSet force c0 c1)
/-- INJECT. -/
def execInject (h : Hdr) (a : AxisId) (o : InjectOps) (s : State) : Host.Outcome State Fault Refusal := s.axisCmd h a (.inject o)
/-- INJECT_STOP. -/
def execInjectStop (h : Hdr) (a : AxisId) (s : State) : Host.Outcome State Fault Refusal := s.axisCmd h a .injectStop
/-- CAPTURE_START. -/
def execCaptureStart (h : Hdr) (u : Fin 4) (o : CapOps) (s : State) : Host.Outcome State Fault Refusal :=
  s.actCmd h (.captureStart u o) (fun K => Dev.effCaptureStart K h u o)
/-- CAPTURE_STOP. -/
def execCaptureStop (h : Hdr) (u : Fin 4) (s : State) : Host.Outcome State Fault Refusal :=
  s.actCmd h (.captureStop u) (fun K => Dev.effCaptureStop K h u)

/-! ### Recorder, time, scheduler and twin (R311 to R316) -/

/-- CAIRN_EXPORT. -/
def execCairnExport (h : Hdr) (o : ExportOps) (s : State) : Host.Outcome State Fault Refusal :=
  s.actCmd h (.cairnExport o) (fun _ => Dev.effCairnExport h o)
/-- CAIRN_MARK. -/
def execCairnMark (h : Hdr) (payload : List Byte) (s : State) : Host.Outcome State Fault Refusal :=
  s.actCmd h (.cairnMark payload) (fun _ => Dev.effCairnMark h payload)
/-- SCHED_MARK. -/
def execSchedMark (h : Hdr) (s : State) : Host.Outcome State Fault Refusal :=
  s.actCmd h .schedMark (fun K => Dev.effSchedMark K h)
/-- TT_SET: the set is applied at the instant of R44, by TIME_STEP. -/
def execTtSet (h : Hdr) (v : BitVec 64) (s : State) : Host.Outcome State Fault Refusal :=
  s.actCmd h (.ttSet v) (fun K => Dev.askSet K v.toNat (some h))
/-- TM_CONTROL. A channel that is no master fails at acceptance (R313). -/
def execTmControl (h : Hdr) (c : ChanId) (run : Bool) (s : State) : Host.Outcome State Fault Refusal :=
  s.actCmd h (.tmControl c run) (fun K x =>
    if K.timeRole c.val = 1 then x.effTmControl h c run else x.complete h stBadOperand)
/-- SCHED_CANCEL. An Atoll that is no command Atoll fails at acceptance (R314). -/
def execSchedCancel (h : Hdr) (n : AtollId) (seq : Word) (s : State) : Host.Outcome State Fault Refusal :=
  s.actCmd h (.schedCancel n seq) (fun K x =>
    if K.atlType n.val = 1 then x.cancelNow K h n seq else x.complete h stBadOperand)
/-- NOP. -/
def execNop (h : Hdr) (s : State) : Host.Outcome State Fault Refusal := s.actCmd h .nop (fun _ x => x.complete h stOK)
/-- TWIN_YIELD. -/
def execTwinYield (h : Hdr) (s : State) : Host.Outcome State Fault Refusal :=
  s.actCmd h .twinYield (fun _ x => x.twinWatch.effTwinYield h)
/-- TAKEBACK_INHIBIT. -/
def execTakebackInhibit (h : Hdr) (b : Bool) (s : State) : Host.Outcome State Fault Refusal :=
  s.actCmd h (.takebackInhibit b) (fun _ => Dev.effInhibit h b)

end Sys2Proof.Machine
end

