-- ==== Sys2Proof/Machine/Pcie.lean ====
section
/-! DEFINITION. What the host reaches over PCI Express beside BAR0: BAR4 with the MSI-X structures and the configuration space
(R265, R266, R269, R503). -/

namespace Sys2Proof.Machine

/-! ### BAR4 (R503) -/

/-- A 32-bit write of BAR4: a word of the MSI-X table, whose vector control holds the mask bit alone; messages that a mask
held back are sent. (PRESUMED: log entry 126) -/
def Dev.bar4Write (off : Nat) (v : Word) (x : Dev) : Dev :=
  if off < 0x400 ∧ off % 4 = 0 then
    (x.modHost (fun h => { h with
      bar4 := NMap.set bar4Reset h.bar4 off (if off % 16 = 12 then v &&& 1#32 else if off % 16 = 0 then v &&& ~~~3#32 else v) })).msixFlush
  else x

/-- A 64-bit write of BAR4: both words, the lower first; one that is not aligned is ignored (R503). -/
def Dev.bar4Write64 (off : Nat) (lo hi : Word) (x : Dev) : Dev :=
  if off % 8 = 0 then (x.bar4Write off lo).bar4Write (off + 4) hi else x

/-- A 32-bit read of BAR4: the MSI-X table and the pending-bit array (R266, R503). -/
def Dev.bar4Word (x : Dev) (off : Nat) : Word :=
  if off % 4 ≠ 0 then 0
  else if off < 0x400 then NMap.get bar4Reset x.host.bar4 off
  else if off = 0x800 then x.host.msixPend.setWidth 32
  else if off = 0x804 then (x.host.msixPend >>> 32).setWidth 32
  else 0

/-- A 64-bit read of BAR4, the lower word first; one that is not aligned reads 0 (R503). -/
def Dev.bar4Word64 (x : Dev) (off : Nat) : List Word :=
  if off % 8 = 0 then [x.bar4Word off, x.bar4Word (off + 4)] else [0, 0]

/-! ### The PCI Express configuration space (R265, R266, R269) -/

/-- A 32-bit read of the configuration space: the header of an Endpoint with BAR0 and the pair BAR4 and BAR5, and the power
management, MSI-X, PCI Express and error reporting capabilities. (PRESUMED: log entry 140) -/
def Dev.cfgWord (x : Dev) (off : Nat) : Word :=
  let p := x.host.pcie
  match off with
  | 0x00 => 0x24081D9C
  | 0x04 => cat [(0, p.cmd.toNat ||| (if x.host.bme then 4 else 0)), (20, 1), (16, p.sta.toNat)]
  | 0x08 => cat [(0, Config.pcieRev.toNat), (8, 0x088000)]
  | 0x10 => p.bar0
  | 0x20 => p.bar4.setWidth 32 ||| 4#32
  | 0x24 => (p.bar4 >>> 32).setWidth 32
  | 0x2C => cat [(0, 0x1D9C), (16, if Config.variantMC then 0x43 else 0x58)]
  | 0x34 => 0x40
  | 0x3C => p.line.setWidth 32
  | 0x40 => 0x00035001
  | 0x44 => cat [(0, p.power.toNat)]
  | 0x50 => cat [(0, 0x7011), (16, 63), (30, b2n p.msixMask), (31, b2n p.msixEn)]
  | 0x54 => 4
  | 0x58 => 0x804
  | 0x70 => 0x00020010
  | 0x74 => 1
  | 0x78 => cat [(0, p.devCtl.toNat), (16, p.devSta.toNat)]
  | 0x7C => 0x23
  | 0x100 => 0x00020001
  | 0x104 => p.unc
  | 0x108 => p.uncMask
  | 0x10C => p.uncSev
  | 0x110 => p.cor
  | 0x114 => p.corMask
  | 0x118 => cat [(0, p.firstErr)]
  | 0x11C | 0x120 | 0x124 | 0x128 => (p.headerLog >>> (8 * (0x128 - off))).setWidth 32
  | _ => 0
/-- A 32-bit write of the configuration space: Bus Master Enable as BUS_MASTER_ENABLE does, entry to D3hot as HOST_LOST does. (PRESUMED: log entry 140) -/
def Dev.cfgWrite (K : Memory) (off : Nat) (v : Word) (x : Dev) : Dev :=
  let set := fun (f : Pcie → Pcie) => x.modHost (fun h => { h with pcie := f h.pcie })
  match off with
  | 0x04 =>
    let y := set (fun p => { p with
      cmd := v.setWidth 16 &&& 0x0542, sta := p.sta &&& ~~~((v >>> 16).setWidth 16 &&& 0xF900) })
    if v.getLsbD 2 = x.host.bme then y else y.busMasterEnable K (v.getLsbD 2)
  | 0x10 => set (fun p => { p with bar0 := v &&& 0xFFFF0000 })
  | 0x20 => set (fun p => { p with bar4 := (p.bar4 &&& 0xFFFFFFFF00000000) ||| (v &&& 0xFFFFF000).setWidth 64 })
  | 0x24 => set (fun p => { p with bar4 := (p.bar4 &&& 0xFFFFFFFF) ||| (v.setWidth 64 <<< 32) })
  | 0x3C => set (fun p => { p with line := v.setWidth 8 })
  | 0x44 =>
    if v.toNat % 4 = 3 ∧ x.host.pcie.power ≠ 3 then
      (x.hostLost K .d3hot).modHost (fun h => { h with pcie := { h.pcie with power := 3 } })
    else if v.toNat % 4 = 0 then set (fun p => { p with power := 0 })
    else x
  | 0x50 => (set (fun p => { p with msixMask := v.getLsbD 30, msixEn := v.getLsbD 31 })).msixFlush
  | 0x78 => set (fun p => { p with
      devCtl := v.setWidth 16 &&& 0x70EF, devSta := p.devSta &&& ~~~((v >>> 16).setWidth 16 &&& 0xF) })
  | 0x104 => set (fun p => { p with unc := p.unc &&& ~~~v })
  | 0x108 => set (fun p => { p with uncMask := v })
  | 0x10C => set (fun p => { p with uncSev := v })
  | 0x110 => set (fun p => { p with cor := p.cor &&& ~~~v })
  | 0x114 => set (fun p => { p with corMask := v })
  | _ => x

end Sys2Proof.Machine
end

