-- ==== Sys2Proof/Machine/HostCommands.lean ====
section
/-! DEFINITION. The commands of the host side (R265 to R339, R465 to R485): Beacons, descriptor fetches, completions, register
accesses of both requesters, seal, images, power, reset and sleep. -/

namespace Sys2Proof.Machine

/-- The outcome of a command that may change set-up registers or reset the block; it has no effect while the islands do not
run (R462, R473). (DEDUCED: log entry 8) -/
def State.liveAll (s : State) (f : State → State) : Host.Outcome State Fault Refusal :=
  .next (if s.dev.keeper.phase = .run then f s else s)

/-! ### Atolls -/

/-- BEACON_WRITE. The management port reaches no Beacon (R337). -/
def execBeaconWrite (r : Requester) (n : AtollId) (v : BitVec 16) (s : State) : Host.Outcome State Fault Refusal :=
  s.live (fun K x => if r = .host then x.beaconWrite K n v else x.mgtDone false false true)
/-- ATOLL_CONTEXT_WRITE of word `w` (R272). -/
def execAtollContextWrite (r : Requester) (n : AtollId) (w : Fin 8) (v : Word) (s : State) :
    Host.Outcome State Fault Refusal :=
  s.liveAll (State.regWrite r (0x2000 + 32 * n.val + 4 * w.val) v {})
/-- DESCRIPTOR_FETCH (R279). -/
def execDescriptorFetch (n : AtollId) (mem : HostMem) (s : State) : Host.Outcome State Fault Refusal :=
  s.live (fun K x => x.descriptorFetch K n mem)
/-- V1_DESCRIPTOR_FETCH (R324). -/
def execV1DescriptorFetch (n : AtollId) (mem : HostMem) (s : State) : Host.Outcome State Fault Refusal :=
  s.live (fun K x => x.v1DescriptorFetch K n mem)
/-- FETCH_LATE: the fetch deadline of the descriptor `k` past DEV_IDX passes (R289). -/
def execFetchLate (n : AtollId) (mem : HostMem) (s : State) (k : Nat := 0) : Host.Outcome State Fault Refusal :=
  s.live (fun K x => x.timed K ((x.fetchFrom K mem n k).map (fun c => c.1 + 200 * K.hostFetchDl)) (Dev.fetchLate K n k mem))
/-- ACTION_RELEASE (R17). -/
def execActionRelease (s : State) : Host.Outcome State Fault Refusal := s.live (fun K => Dev.actionRelease K)
/-- COMPLETION_WRITE (R292). -/
def execCompletionWrite (s : State) : Host.Outcome State Fault Refusal := s.live (fun K => Dev.completionWrite K)
/-- WRITE_BACK (R275). -/
def execWriteBack (n : AtollId) (s : State) : Host.Outcome State Fault Refusal := s.live (fun K => Dev.writeBack K n)
/-- MODERATION_TIMEOUT (R293). -/
def execModerationTimeout (n : AtollId) (s : State) : Host.Outcome State Fault Refusal :=
  s.live (fun K x => x.timed K
    (if K.isWritten n && decide ((x.atl n).unann ≠ 0) then some ((x.atl n).unannAt + 200 * K.atlModTime n.val) else none)
    (Dev.moderationTimeout K n))
/-- V1_CHAIN_CANCEL (R333). -/
def execV1ChainCancel (_r : Requester) (n : AtollId) (mem : HostMem) (s : State) : Host.Outcome State Fault Refusal :=
  s.live (fun K => Dev.v1ChainCancel K n mem)
/-- TU_INVAL (R328). -/
def execTuInval (_r : Requester) (s : State) : Host.Outcome State Fault Refusal := s.live (fun K => Dev.hostWrite K [] 0x2808 1)

/-! ### The link -/

/-- HOST_LOST (R269). -/
def execHostLost (c : LostCause) (s : State) : Host.Outcome State Fault Refusal := s.live (fun K => Dev.hostLost K c)
/-- BUS_MASTER_ENABLE (R270). -/
def execBusMasterEnable (on : Bool) (s : State) : Host.Outcome State Fault Refusal :=
  s.live (fun K => Dev.busMasterEnable K on)
/-- PCIE_REFERENCE_CLOCK_CHANGE (R8). -/
def execPcieReferenceClockChange (present : Bool) (s : State) : Host.Outcome State Fault Refusal :=
  s.live (fun _ => Dev.modHost (fun h => { h with hostRef := present }))

/-! ### Register accesses (R267, R335 to R338, R477 to R482) -/

/-- BAR_ACCESS_ERR: an access of another size or alignment is counted; a read of it returns 0 (R267). -/
def execBarAccessErr (isRead : Bool) (r : Requester) (s : State) : Host.Outcome State Fault Refusal :=
  s.live (fun _ x => (if isRead then x.modReq r (fun q => { q with rdata := [0] }) else x).barError)
/-- REGISTER_WRITE. The management port reaches BAR0 alone (R335). -/
def execRegisterWrite (r : Requester) (space : RegSpace) (off : BitVec 16) (v : Word) (s : State) (env : Outside := {}) :
    Host.Outcome State Fault Refusal :=
  s.liveAll (fun s => match space, r with
    | .bar0, _ => s.regWrite r off.toNat v env
    | .bar4, .host => { s with dev := s.dev.bar4Write off.toNat v }
    | .bar4Wide hi, .host => { s with dev := s.dev.bar4Write64 off.toNat v hi }
    | .config, .host => { s with dev := s.dev.cfgWrite s.cfg off.toNat v }
    | _, .mgt => s)
/-- LO_REGISTER_READ (R31, R266, R480). -/
def execLoRegisterRead (r : Requester) (off : BitVec 16) (s : State) (space : RegSpace := .bar0) : Host.Outcome State Fault Refusal :=
  s.live (fun K x => match space, r with
    | .bar0, _ => x.regRead K r off.toNat
    | .bar4, .host => x.modReq .host (fun q => { q with rdata := [x.bar4Word off.toNat] })
    | .bar4Wide _, .host => x.modReq .host (fun q => { q with rdata := x.bar4Word64 off.toNat })
    | .config, .host => x.modReq .host (fun q => { q with rdata := [x.cfgWord off.toNat] })
    | _, .mgt => x)
/-- SNAPSHOT_WINDOW_READ (R481). -/
def execSnapshotWindowRead (r : Requester) (off : BitVec 16) (s : State) : Host.Outcome State Fault Refusal :=
  s.live (fun K => Dev.regRead K r off.toNat)
/-- CAIRN_WIN0_READ (R431). -/
def execCairnWin0Read (r : Requester) (s : State) : Host.Outcome State Fault Refusal :=
  s.live (fun K => Dev.regRead K r 0xB020)
/-- CAIRN_WIN7_READ (R431). -/
def execCairnWin7Read (r : Requester) (s : State) : Host.Outcome State Fault Refusal :=
  s.live (fun K => Dev.regRead K r 0xB03C)
/-- MGT_READ. -/
def execMgtRead (off : BitVec 16) (n : Nat) (s : State) (took : Nat := n) (dummy : Word := 0) : Host.Outcome State Fault Refusal :=
  s.live (fun K => Dev.mgtRead K off.toNat n took dummy)
/-- MGT_WRITE. -/
def execMgtWrite (bytes : List Byte) (s : State) (env : Outside := {}) : Host.Outcome State Fault Refusal :=
  s.liveAll (State.mgtWrite bytes env)
/-- MGT_STATUS. -/
def execMgtStatus (s : State) : Host.Outcome State Fault Refusal := s.live (fun _ => Dev.mgtStatusRead)

/-! ### Writes of command fields -/

/-- TT_SET_GO (R33, R485). -/
def execTtSetGo (_r : Requester) (s : State) : Host.Outcome State Fault Refusal :=
  s.live (fun K => Dev.askSet K K.ttSet none)
/-- LOOP_FAULT_CLR (R87). -/
def execLoopFaultClr (_r : Requester) (sides : BitVec 2) (s : State) : Host.Outcome State Fault Refusal :=
  s.live (fun _ => Dev.loopClrSides sides)
/-- FLT_LATCHED (R230). -/
def execFltLatched (_r : Requester) (a : AxisId) (pinHigh : Bool) (s : State) : Host.Outcome State Fault Refusal :=
  s.live (fun K => Dev.clearFlt K a pinHigh)
/-- OC_LATCHED (R231). -/
def execOcLatched (_r : Requester) (a : AxisId) (s : State) : Host.Outcome State Fault Refusal :=
  s.live (fun K => Dev.clearOc K a)
/-- FB_LATCHED (R445). -/
def execFbLatched (_r : Requester) (a : AxisId) (s : State) : Host.Outcome State Fault Refusal :=
  s.live (fun K => Dev.clearFb K a)
/-- LIMIT_LATCHED (R152). -/
def execLimitLatched (_r : Requester) (a : AxisId) (s : State) : Host.Outcome State Fault Refusal :=
  s.live (fun K => Dev.clearLimit K a)
/-- LATE_LATCHED (R198). -/
def execLateLatched (_r : Requester) (a : AxisId) (s : State) : Host.Outcome State Fault Refusal :=
  s.live (fun K => Dev.clearLate K a)
/-- FE_LATCHED (R219). -/
def execFeLatched (_r : Requester) (a : AxisId) (s : State) : Host.Outcome State Fault Refusal :=
  s.live (fun K => Dev.clearFe K a)
/-- OUT_FLT_LATCHED (R255). -/
def execOutFltLatched (_r : Requester) (mask : Word) (s : State) : Host.Outcome State Fault Refusal :=
  s.live (fun _ => Dev.clearOverload mask)
/-- FOLLOW_RESUME (R167). -/
def execFollowResume (_r : Requester) (a : AxisId) (s : State) : Host.Outcome State Fault Refusal :=
  s.live (fun K => Dev.followResume K a)
/-- CAIRN_REARM, with the outcome of its test write (R435). -/
def execCairnRearm (_r : Requester) (ok : Bool) (s : State) : Host.Outcome State Fault Refusal :=
  s.live (fun _ => Dev.cairnRearm ok)
/-- EPI_CLR (R436). -/
def execEpiClr (_r : Requester) (s : State) : Host.Outcome State Fault Refusal := s.live (fun _ => Dev.epiClr)
/-- DEMOTE_CLR (R397). -/
def execDemoteClr (_r : Requester) (holdLow : Bool) (s : State) : Host.Outcome State Fault Refusal :=
  s.live (fun K x => (x.demoteClr K holdLow).twinWatch)
/-- SAFE_HOLD_CLR (R412). -/
def execSafeHoldClr (_r : Requester) (s : State) : Host.Outcome State Fault Refusal := s.live (fun K => Dev.safeHoldClr K)

/-! ### Seal (R467 to R471) -/

/-- SEAL_REQUEST. -/
def execSealRequest (_r : Requester) (s : State) : Host.Outcome State Fault Refusal := s.live (fun K => Dev.sealRequest K)
/-- SEAL_INSTANT: the next 200 µs multiple of train time, with a seal accepted (R469). -/
def execSealInstant (s : State) : Host.Outcome State Fault Refusal :=
  s.live (fun K x => if x.su.sealing then (x.untilTT K (x.nextMultiple 200000)).sealInstant K else x)
/-- UNSEAL_REQUEST. -/
def execUnsealRequest (_r : Requester) (s : State) : Host.Outcome State Fault Refusal := s.live (fun K => Dev.unsealRequest K)
/-- UNSEAL_EFFECT: the next frame boundary, with an unseal accepted (R470). -/
def execUnsealEffect (s : State) : Host.Outcome State Fault Refusal :=
  s.live (fun K x => if x.su.unsealing then (x.untilTT K (x.nextMultiple 25000)).unsealEffect K else x)
/-- AUTO_SEAL: the first frame boundary at or after the waiting time of R467. -/
def execAutoSeal (s : State) : Host.Outcome State Fault Refusal :=
  s.live (fun K x => x.timed K (x.autoSealAt K) (fun y => (y.untilTT K (y.nextMultiple 25000)).autoSeal K))

/-! ### Images, power, reset and sleep (R458 to R474) -/

/-- IMG_SAVE (R465). -/
def execImgSave (_r : Requester) (s : State) : Host.Outcome State Fault Refusal := s.live (fun K => Dev.imgSave K)
/-- IMG_SAVE_DONE. -/
def execImgSaveDone (ok : Bool) (s : State) : Host.Outcome State Fault Refusal := s.live (fun _ => Dev.imgSaveDone ok)
/-- SW_RESET (R461). -/
def execSwReset (_r : Requester) (v : Word) (s : State) : Host.Outcome State Fault Refusal := .next (s.swReset v)
/-- POWER_ON. -/
def execPowerOn (s : State) : Host.Outcome State Fault Refusal := .next s.powerOn
/-- BROWN_OUT. -/
def execBrownOut (s : State) : Host.Outcome State Fault Refusal := .next s.brownOut
/-- PIN_RESET. -/
def execPinReset (s : State) : Host.Outcome State Fault Refusal := .next s.pinReset
/-- REF_LOST. -/
def execRefLost (s : State) : Host.Outcome State Fault Refusal := .next s.refLost
/-- RESET_RELEASE (R464). -/
def execResetRelease (twinEn unitA pref : Bool) (pcieRef : Bool) (s : State) (media : Media := {}) :
    Host.Outcome State Fault Refusal :=
  .next (s.resetRelease twinEn unitA pref pcieRef media)
/-- KEEPER_UNPOWERED (R458). -/
def execKeeperUnpowered (s : State) : Host.Outcome State Fault Refusal := .next s.unpowered
/-- POWER_FAIL_WARNING (R427, R459). -/
def execPowerFailWarning (s : State) (media : Media := {}) : Host.Outcome State Fault Refusal :=
  s.live (fun K => Dev.powerFail K media)
/-- WARNING_CLEAR. -/
def execWarningClear (s : State) : Host.Outcome State Fault Refusal := s.live (fun _ => Dev.warningClear)
/-- SLEEP_REQ (R473). -/
def execSleepReq (_r : Requester) (s : State) (media : Media := {}) : Host.Outcome State Fault Refusal :=
  s.live (fun K => Dev.sleepReq K media)
/-- WAKE_TIMER_EXPIRY (R474). -/
def execWakeTimerExpiry (s : State) : Host.Outcome State Fault Refusal := .next s.wakeTimerExpiry
/-- PERST_WAKE. -/
def execPerstWake (s : State) : Host.Outcome State Fault Refusal := .next s.perstWake
/-- WAKE_DOMINANT (R364, R474). -/
def execWakeDominant (c : ChanId) (s : State) : Host.Outcome State Fault Refusal := .next (s.wakeDominant c)
/-- WAKE_FRAME (R365, R474). -/
def execWakeFrame (c : ChanId) (f : CanFrame) (wellFormed : Bool) (s : State) : Host.Outcome State Fault Refusal :=
  .next (s.wakeFrame c f wellFormed)

end Sys2Proof.Machine
end

