-- ==== Sys2Proof/Machine/CoreEvents.lean ====
section
/-! DEFINITION. The events of the core and axis islands (R20, R63, R71 to R246): control frames, doorway timers, engine
deadlines, captures and what happens at the axis ports. -/

namespace Sys2Proof.Machine

/-! ### Frames and the engine -/

/-- CONTROL_FRAME (R20). -/
def execControlFrame (pins : List (List (BitVec 4))) (s : State) (took : Nat := 0) : Host.Outcome State Fault Refusal :=
  s.live (fun K => Dev.controlFrame K pins took)
/-- OBSTACLE_CONFIRMED (R100, R107). -/
def execObstacleConfirmed (d : DoorId) (s : State) : Host.Outcome State Fault Refusal :=
  s.live (fun K x => (x.obstacleConfirmed K d).gatesNow K)
/-- PREDICTION_WITHDRAWN (R103). -/
def execPredictionWithdrawn (d : DoorId) (s : State) : Host.Outcome State Fault Refusal :=
  s.live (fun K => Dev.predWithdraw K d)
/-- START_ALLOWANCE_END (R97). -/
def execStartAllowanceEnd (a : AxisId) (s : State) : Host.Outcome State Fault Refusal := s.live (fun K => Dev.allowanceEnd K a)
/-- COMPUTE_LATE (R197). -/
def execComputeLate (a : AxisId) (finished : Bool) (s : State) : Host.Outcome State Fault Refusal :=
  s.live (fun K => Dev.missPeriod K a finished)
/-- OVERRUN_REACTION (R198). -/
def execOverrunReaction (a : AxisId) (s : State) : Host.Outcome State Fault Refusal := s.live (fun K => Dev.overrun K a)
/-- PRED_LATE, at its deadline (R199). -/
def execPredLate (a : AxisId) (s : State) : Host.Outcome State Fault Refusal :=
  s.live (fun K x => if x.predicts a then (x.toDeadline K a).predLate K a else x)

/-! ### Doorway timers (R63) -/

/-- SOL_SETTLE_ELAPSED: T_SOL of a solenoid lock. -/
def execSolSettleElapsed (d : DoorId) (s : State) : Host.Outcome State Fault Refusal :=
  s.live (fun K x => x.doorTimer K d (K.lockSol d.val && decide ((x.dw d).st = .unlocking ∨ (x.dw d).st = .locking))
    (x.dw d).unlockT (msFrames (K.tSol d.val)))
/-- UNLOCK_TIMEOUT. -/
def execUnlockTimeout (d : DoorId) (s : State) : Host.Outcome State Fault Refusal :=
  s.live (fun K x => x.doorTimer K d (decide ((x.dw d).st = .unlocking)) (x.dw d).timer (msFrames (K.tUnlockMax d.val)))
/-- LOCK_TIMEOUT. -/
def execLockTimeout (d : DoorId) (s : State) : Host.Outcome State Fault Refusal :=
  s.live (fun K x => x.doorTimer K d (decide ((x.dw d).st = .locking)) (x.dw d).timer (msFrames (K.tLockMax d.val)))
/-- STEP_TIMEOUT. -/
def execStepTimeout (d : DoorId) (s : State) : Host.Outcome State Fault Refusal :=
  s.live (fun K x => x.doorTimer K d (decide ((x.dw d).st = .stepOut ∨ (x.dw d).st = .stepIn)) (x.dw d).timer
    (msFrames (K.tStepMax d.val)))
/-- OPEN_TIMEOUT. -/
def execOpenTimeout (d : DoorId) (s : State) : Host.Outcome State Fault Refusal :=
  s.live (fun K x => x.doorTimer K d (decide ((x.dw d).st = .opening)) (x.dw d).timer (msFrames (K.tOpenMax d.val)))
/-- CLOSE_TIMEOUT. -/
def execCloseTimeout (d : DoorId) (s : State) : Host.Outcome State Fault Refusal :=
  s.live (fun K x => x.doorTimer K d ((x.dw d).st.isClosing) (x.dw d).closeT (msFrames (K.tCloseMax d.val)))
/-- CLOSED_SW_MISSING. -/
def execClosedSwMissing (d : DoorId) (s : State) : Host.Outcome State Fault Refusal :=
  s.live (fun K x =>
    let y := x.closedWait K d
    x.doorTimer K d (y.dw d).closedSwT.isSome (((y.dw d).closedSwT).getD 0) (msFrames (K.tClosedSw d.val)))
/-- WARN_ELAPSED. -/
def execWarnElapsed (d : DoorId) (s : State) : Host.Outcome State Fault Refusal :=
  s.live (fun K x => x.doorTimer K d (decide ((x.dw d).st = .closeWarning)) (x.dw d).timer (msFrames (K.tWarn d.val)))
/-- AUTO_CLOSE_ELAPSED. -/
def execAutoCloseElapsed (d : DoorId) (s : State) : Host.Outcome State Fault Refusal :=
  s.live (fun K x => x.doorTimer K d (decide ((x.dw d).st = .opened ∧ K.tDwell d.val ≠ 0) && !(x.dw d).hold) (x.dw d).timer
    (msFrames (1000 * K.tDwell d.val)))
/-- OBST_HOLD_ELAPSED. -/
def execObstHoldElapsed (d : DoorId) (s : State) : Host.Outcome State Fault Refusal :=
  s.live (fun K x => x.doorTimer K d (decide ((x.dw d).st = .obstacleHold ∧ K.tObstHold d.val ≠ 0)) (x.dw d).timer
    (msFrames (1000 * K.tObstHold d.val)))
/-- PAIR_DISCREPANCY (R71). -/
def execPairDiscrepancy (p : Fin 4) (s : State) : Host.Outcome State Fault Refusal := s.live (fun K => Dev.pairDiscrepancy K p)

/-! ### Axes -/

/-- STANDSTILL (R144). -/
def execStandstill (a : AxisId) (s : State) : Host.Outcome State Fault Refusal := s.live (fun K => Dev.standstill K a)
/-- MANUAL_STALE (R213). -/
def execManualStale (a : AxisId) (s : State) : Host.Outcome State Fault Refusal :=
  s.live (fun K x => x.timed K
    (if (x.ax a).eng.mode = .auto then none else some ((x.ax a).eng.manAt + 200000 * K.manWdog a.val)) (Dev.manualStale K a))
/-- FOLLOW_ERR (R218). -/
def execFollowErr (a : AxisId) (s : State) : Host.Outcome State Fault Refusal :=
  s.live (fun K x => (x.followErr K a).gateNow K a)
/-- INJECTION_END (R206). -/
def execInjectionEnd (a : AxisId) (s : State) : Host.Outcome State Fault Refusal := s.live (fun K x => x.injDue K a (x.computes K a))
/-- CAPTURE_RECORD_WRITE (R209, R210). -/
def execCaptureRecordWrite (u : Fin 4) (s : State) : Host.Outcome State Fault Refusal :=
  s.live (fun K => Dev.captureRecordWrite K u)
/-- CAPTURE_COMPLETE (R210). -/
def execCaptureComplete (u : Fin 4) (s : State) : Host.Outcome State Fault Refusal := s.live (fun _ => Dev.captureComplete u)
/-- LIMIT_STOP (R150). -/
def execLimitStop (a : AxisId) (negative : Bool) (s : State) : Host.Outcome State Fault Refusal :=
  s.live (fun K => Dev.limitStop K a negative)
/-- REFERENCE_LATCH (R154). -/
def execReferenceLatch (a : AxisId) (rising : Bool) (s : State) : Host.Outcome State Fault Refusal :=
  s.live (fun K => Dev.referenceLatch K a rising)
/-- REF_DONE (R155): where a latch or an index correction waits, the next period boundary of the axis, the shift, and the look-ahead
from the shifted set-point. -/
def execRefDone (a : AxisId) (s : State) : Host.Outcome State Fault Refusal :=
  s.live (fun K x =>
    if (x.ax a).refLatch.isSome ∨ (x.ax a).idxFix ≠ [] then ((x.toPeriod K a).refDue K a).lookAhead K a else x)

/-! ### Axis ports -/

/-- CARRIER_VALLEY (R222, R226, R227): time passes until the next valley of a sealed device's port. (DEDUCED: log entry 137) -/
def execCarrierValley (a : AxisId) (s : State) : Host.Outcome State Fault Refusal :=
  s.live (fun K x => if x.isSealed then (x.untilCyc K (x.nextValley K a)).valley K a (x.nextValley K a) else x)
/-- BRIDGE_FAULT (R230). -/
def execBridgeFault (a : AxisId) (s : State) (low : Nat := 32) : Host.Outcome State Fault Refusal :=
  s.live (fun K => Dev.bridgeFault K a low)
/-- OVERCURRENT (R231): the axis cycles of `pins` pass, whose last brings the output that trips. -/
def execOvercurrent (a : AxisId) (pins : List (BitVec 4)) (s : State) : Host.Outcome State Fault Refusal :=
  s.live (fun K x => (x.advance K pins.length).sdTake K a pins)
/-- SD_LOSS (R235): the axis cycles of `pins` pass up to it. -/
def execSdLoss (a : AxisId) (ch : Fin 3) (s : State) (pins : List (BitVec 4) := []) : Host.Outcome State Fault Refusal :=
  s.live (fun K x => (x.advance K pins.length).sdLost K a ch pins)
/-- QUAD_ILLEGAL (R237). -/
def execQuadIllegal (a : AxisId) (s : State) : Host.Outcome State Fault Refusal := s.live (fun K => Dev.quadIllegal K a)
/-- INDEX (R158). -/
def execIndex (a : AxisId) (aHigh bHigh : Bool) (s : State) : Host.Outcome State Fault Refusal :=
  s.live (fun K => Dev.indexEdge K a aHigh bHigh)
/-- COARSE_STEP (R166, R239). -/
def execCoarseStep (a : AxisId) (bHigh : Bool) (s : State) (fall : Bool := false) : Host.Outcome State Fault Refusal :=
  s.live (fun K => Dev.coarseStep K a bHigh fall)
/-- SSI_FRAME (R240): on a port in SSI mode, time passes until the next frame begins, and it is read. -/
def execSsiFrame (a : AxisId) (x : SsiResult) (s : State) : Host.Outcome State Fault Refusal :=
  s.live (fun K y => if K.fbMode a.val ≠ 4 then y else (y.untilTT K (y.ssiStart K a)).ssiFrame K a x)
/-- WIRE_BREAK (R242). -/
def execWireBreak (a : AxisId) (pair : Fin 3) (present : Bool) (s : State) : Host.Outcome State Fault Refusal :=
  s.live (fun K => Dev.wireBreak K a pair present)
/-- HALL_EDGE (R245). -/
def execHallEdge (a : AxisId) (state : BitVec 3) (s : State) (fall : Bool := false) : Host.Outcome State Fault Refusal :=
  s.live (fun K => Dev.hallEdge K a state fall)
/-- FEEDBACK_LOSS (R243). -/
def execFeedbackLoss (a : AxisId) (s : State) : Host.Outcome State Fault Refusal := s.live (fun K x => (x.feedbackLoss K a).gatesNow K)
/-- DECODER_COUNT (R237, R239). -/
def execDecoderCount (a : AxisId) (e : AbEdge) (s : State) : Host.Outcome State Fault Refusal :=
  s.live (fun K => Dev.abEdge K a e)

end Sys2Proof.Machine
end

