-- ==== Sys2Proof/Machine/FieldEvents.lean ====
section
/-! DEFINITION. The events of the field island and of train time (R32 to R45, R56, R247 to R264): samples, readbacks,
diagnoses, supplies, sync frames and steps. -/

namespace Sys2Proof.Machine

/-! ### Field and safety I/O -/

/-- INPUT_SAMPLE: the next sample instant of the group (R248). -/
def execInputSample (g : Fin 8) (raw : BitVec 8) (s : State) (volts : List (List Nat) := []) : Host.Outcome State Fault Refusal :=
  s.live (fun K x => (x.untilTT K (x.groupInstant K g)).inputSample K g raw volts)
/-- SAFE_INPUT_SAMPLE (R261). -/
def execSafeInputSample (rawA rawB : BitVec 8) (s : State) (volts : List (List Nat) := []) : Host.Outcome State Fault Refusal :=
  s.live (fun K x => (x.untilTT K (x.safeInstant K)).safeInputSample K rawA rawB volts)
/-- SIN_DIAG (R262). -/
def execSinDiag (j : Fin 8) (s : State) : Host.Outcome State Fault Refusal := s.live (fun K => Dev.sinDiag K j)
/-- OUTPUT_READBACK: 100 µs after the one before (R256). -/
def execOutputReadback (l : ReadbackLevels) (s : State) : Host.Outcome State Fault Refusal :=
  s.live (fun K x => (x.untilCyc K (nextAt x.fio.readAt x.time.cyc)).outputReadback K l)
/-- OUTPUT_DISAGREEMENT (R256). -/
def execOutputDisagreement (o : OutId) (s : State) : Host.Outcome State Fault Refusal :=
  s.live (fun K => Dev.outputDisagreement K o)
/-- LOOP_READBACK (R87). -/
def execLoopReadback (j : Fin 4) (s : State) : Host.Outcome State Fault Refusal := s.live (fun K => Dev.loopReadback K j)
/-- TWIN_XCHECK (R260, R417). -/
def execTwinXcheck (o : Fin 36) (s : State) : Host.Outcome State Fault Refusal := s.live (fun K => Dev.twinXcheck K o)
/-- OPEN_LOAD (R256). -/
def execOpenLoad (o : OutId) (s : State) : Host.Outcome State Fault Refusal := s.live (fun K => Dev.openLoad K o)
/-- OVERLOAD (R255). -/
def execOverload (o : Fin 36) (thermal : Bool) (s : State) : Host.Outcome State Fault Refusal :=
  s.live (fun K => Dev.overload K o thermal)
/-- SUPPLY_MEASUREMENT: 100 µs after the one before of the group (R257). -/
def execSupplyMeasurement (g : Fin 8) (dv : Nat) (s : State) : Host.Outcome State Fault Refusal :=
  s.live (fun K x => (x.untilCyc K (nextAt (x.grp g).measAt x.time.cyc)).supplyMeasurement K g dv)
/-- SUP_LOSS: the supply has been below 9.0 V for SUP_FILT (R257). -/
def execSupLoss (g : Fin 8) (s : State) : Host.Outcome State Fault Refusal :=
  s.live (fun K x => x.timed K ((x.grp g).lowAt.map (fun c => c + 200000 * K.supFilt g.val)) (Dev.supLoss K g))
/-- SUP_OK of loss or sag (R257). -/
def execSupOk (g : Fin 8) (loss : Bool) (s : State) : Host.Outcome State Fault Refusal :=
  s.live (fun K x => x.timed K ((if loss then (x.grp g).lossOkAt else (x.grp g).sagOkAt).map (fun c => c + 200000 * K.supFilt g.val))
    (Dev.supOk K g loss))

/-! ### Train time -/

/-- SYNC_FRAME_SEND: the next multiple of the channel's sync interval that has no sync frame yet (R37). -/
def execSyncFrameSend (c : ChanId) (s : State) : Host.Outcome State Fault Refusal :=
  s.live (fun K x =>
    let i := K.syncInterval c.val
    if !x.mayMaster K c then x
    else
      let t := if (x.ch c).syncAt = some (x.nextMultiple i) then x.nextMultiple i + i else x.nextMultiple i
      (x.untilTT K t).syncSend K c)
/-- FOLLOW_UP_SEND (R37, R38). -/
def execFollowUpSend (c : ChanId) (s : State) : Host.Outcome State Fault Refusal := s.live (fun K => Dev.followUp K c)
/-- SYNC_PAIR (R39). -/
def execSyncPair (c : ChanId) (s : State) : Host.Outcome State Fault Refusal := s.live (fun K => Dev.syncPair K c)
/-- TIME_STEP: the next 200 µs multiple, with a step or set decided; what is due under the new train time is released in the
same cycle (R44, R53). -/
def execTimeStep (s : State) : Host.Outcome State Fault Refusal :=
  s.live (fun K x =>
    if x.time.setReq.isNone && x.time.step.isNone then x
    else ((x.untilStep K (x.nextMultiple 200000)).timeStep K).advance K 0)
/-- HOLDOVER: no valid pair from any configured source for three of its sync intervals (R32). -/
def execHoldover (s : State) : Host.Outcome State Fault Refusal :=
  s.live (fun K x =>
    let srcs := (List.finRange 8).filter (fun c => K.timeRole c.val == 2 && K.chEn c.val)
    let at' := srcs.foldl (fun m c => max m ((x.ch c).pairAt + nsCycles (3 * K.syncInterval c.val))) 0
    x.timed K (if x.time.state = .acquiring ∨ x.time.state = .locked then some at' else none) (Dev.holdover K))
/-- SOURCE_CHANGE to the secondary source (R41). -/
def execSourceChange (s : State) : Host.Outcome State Fault Refusal :=
  s.live (fun K x =>
    x.timed K (match K.follower false, K.follower true with
      | some p, some _ => if x.time.secondary then none else some ((x.ch p).pairAt + nsCycles (3 * K.syncInterval p.val))
      | _, _ => none) (Dev.sourceChange K))
/-- SYNC_HOLDOVER (R45). -/
def execSyncHoldover (s : State) : Host.Outcome State Fault Refusal :=
  s.live (fun K x => x.timed K
    (if x.time.state = .holdover ∧ x.time.holdoverExpired = false then
      some (x.time.holdoverAt + 200000000 * max 1 K.holdoverLim) else none) (Dev.syncHoldover K))
/-- PERIODIC_ANCHOR: an anchor interval of operating time without an anchor (R56). -/
def execPeriodicAnchor (s : State) : Host.Outcome State Fault Refusal :=
  s.live (fun K x =>
    let goal := 1000 * (x.time.anchorOp + 60000000 * max 1 K.anchorInt)
    x.timed K (some (x.time.cyc + (goal - x.cairn.opNs + 4) / 5)) (Dev.periodicAnchor K))

end Sys2Proof.Machine
end

