-- ==== Sys2Proof/Machine/BusEvents.lean ====
section
/-! DEFINITION. The events of the bus island (R340 to R388, R433): frames received and sent, error states, rate detection,
wakes, partner deadlines and service requests. -/

namespace Sys2Proof.Machine

/-- FRAME_RECEIVED (R351). -/
def execFrameReceived (c : ChanId) (f : CanFrame) (sof : Nat) (s : State) : Host.Outcome State Fault Refusal :=
  s.live (fun K => Dev.frameReceived K c f sof)
/-- RX_RECORD_DELIVERY (R353). -/
def execRxRecordDelivery (c : ChanId) (s : State) : Host.Outcome State Fault Refusal := s.live (fun _ => Dev.rxDeliver c)
/-- PROTOCOL_EXC (R348). -/
def execProtocolExc (c : ChanId) (xl : Bool) (s : State) (sof : Nat := 0) : Host.Outcome State Fault Refusal :=
  s.live (fun K => Dev.protocolExc K c xl sof)
/-- TX_ATTEMPT (R356 to R360). -/
def execTxAttempt (c : ChanId) (sof : Nat) (s : State) : Host.Outcome State Fault Refusal :=
  s.live (fun K => Dev.txAttempt K c sof)
/-- TX_ATTEMPT_END (R358). -/
def execTxAttemptEnd (c : ChanId) (o : TxOutcome) (s : State) : Host.Outcome State Fault Refusal :=
  s.live (fun K => Dev.txAttemptEnd K c o)
/-- BUS_ERROR (R359). -/
def execBusError (c : ChanId) (e : BusErr) (transmitting : Bool) (s : State) (xl : Bool := false) (sof : Nat := 0) :
    Host.Outcome State Fault Refusal :=
  s.live (fun K => Dev.busError K c e transmitting xl sof)
/-- AUTO_RECOVERY_START: BOFF_DELAY after bus-off (R362). -/
def execAutoRecoveryStart (c : ChanId) (s : State) : Host.Outcome State Fault Refusal :=
  s.live (fun K x => x.timed K
    (if (x.ch c).mode = .busOff ∧ K.boffAuto c.val = true then some ((x.ch c).boffAt + 200000 * K.boffDelay c.val) else none)
    (Dev.autoRecoveryStart K c))
/-- BUS_OK (R362). -/
def execBusOk (c : ChanId) (s : State) : Host.Outcome State Fault Refusal := s.live (fun K => Dev.busOk K c)
/-- BUS_TX_LATE: the bus transmit deadline of a frame passes (R361). -/
def execBusTxLate (c : ChanId) (uid : Nat) (s : State) : Host.Outcome State Fault Refusal :=
  s.live (fun K x =>
    match (x.ch c).txq.find? (fun t => decide (t.hdr.uid = uid)) with
    | some t => (x.untilTT K t.deadline).busTxLate K c uid
    | none => x)
/-- CHANNEL_ASLEEP (R363). -/
def execChannelAsleep (c : ChanId) (s : State) : Host.Outcome State Fault Refusal := s.live (fun _ => Dev.channelAsleep c)
/-- BUS_WAKE: 50 µs after the wake (R364). -/
def execBusWake (c : ChanId) (s : State) : Host.Outcome State Fault Refusal :=
  s.live (fun K x => x.timed K (if (x.ch c).mode = .waking then some ((x.ch c).wakeAt + 10000) else none) (Dev.busWake K c))
/-- BUS_INTEGRATION (R341, R348). -/
def execBusIntegration (c : ChanId) (s : State) : Host.Outcome State Fault Refusal := s.live (fun _ => Dev.busIntegration c)
/-- RATE_CANDIDATE_NEXT: an error, or the end of the candidate's dwell (R350). -/
def execRateCandidateNext (c : ChanId) (onError : Bool) (s : State) : Host.Outcome State Fault Refusal :=
  s.live (fun K x => x.timed K (x.dwellEnd K c onError) (Dev.rateNext K c onError))
/-- RATE_FOUND (R350). -/
def execRateFound (c : ChanId) (s : State) : Host.Outcome State Fault Refusal := s.live (fun K => Dev.rateAdopt K c)
/-- RATE_FAIL: listening on a candidate ends RATE_TIMEOUT or more after the start of detection (R350). -/
def execRateFail (c : ChanId) (s : State) (onError : Bool := false) : Host.Outcome State Fault Refusal :=
  s.live (fun K x => x.timed K (x.dwellEnd K c onError) (Dev.rateFail K c onError))
/-- PARTNER_LATE: the heartbeat deadline of a context (R373). -/
def execPartnerLate (i : Fin 256) (s : State) : Host.Outcome State Fault Refusal :=
  s.live (fun K x =>
    match (x.ctx i).st, x.beatDue K i with
    | .new, some t | .live, some t =>
      let y := x.untilTT K t
      y.partnerLate K i y.tt
    | _, _ => x)
/-- PARTNER_GONE, aged: at the end of the bus island cycle in which the freeing condition holds, so that a frame of the key in that
cycle comes first (R373, R375). -/
def execPartnerGone (i : Fin 256) (s : State) : Host.Outcome State Fault Refusal :=
  s.live (fun K x =>
    if (x.ctx i).st = .free ∨ (x.ctx i).pinned = true then x else (x.untilTT K (x.ageDue K i + 12)).partnerGone K i)
/-- SVC_RECORDS (R433). -/
def execSvcRecords (tag : Byte) (count : Byte) (first : Word) (s : State) : Host.Outcome State Fault Refusal :=
  s.live (fun K => Dev.svcRecords K tag count.toNat first.toNat)
/-- SVC_LEDGER (R433). -/
def execSvcLedger (tag : Byte) (arg : Word) (s : State) : Host.Outcome State Fault Refusal :=
  s.live (fun K => Dev.svcLedger K tag arg.toNat)
/-- SVC_STATUS (R433). -/
def execSvcStatus (tag : Byte) (s : State) : Host.Outcome State Fault Refusal := s.live (fun K => Dev.svcStatus K tag)

end Sys2Proof.Machine
end

