-- ==== Sys2Proof/Machine/TwinEvents.lean ====
section
/-! DEFINITION. The events of the twin and recorder islands and the self-tests (R14, R15, R389 to R437): Summit, Isthmus,
handover, scrubs and clocks, and what the recorder MRAM answers. -/

namespace Sys2Proof.Machine

/-! ### Isthmus and heartbeats -/

/-- TWIN_HEARTBEAT_SEND: the next 1 ms multiple that has no heartbeat yet (R403). -/
def execTwinHeartbeatSend (s : State) : Host.Outcome State Fault Refusal :=
  s.live (fun K x =>
    let t := if x.twin.hbAt = some (x.nextMultiple 1000000) then x.nextMultiple 1000000 + 1000000 else x.nextMultiple 1000000
    if K.hbCh.isNone || !x.twin.en || !x.isSealed then x else (x.untilTT K t).heartbeatSend K)
/-- ISTHMUS_FRAME_RECEIVED (R402). -/
def execIsthmusFrameReceived (f : IsthmusFrame) (s : State) : Host.Outcome State Fault Refusal :=
  s.live (fun K x => (x.isthmusFrame K f).twinWatch)
/-- ISTHMUS_DOWN: 100 µs after the latest valid frame, or at once where the lanes have lost alignment (R402). (DESIGN CHOICE: log entry 93) -/
def execIsthmusDown (s : State) (lanes : Bool := false) : Host.Outcome State Fault Refusal :=
  s.live (fun K x =>
    if lanes then (x.isthmusDown K).twinWatch
    else x.timed K (if x.twin.isUp then some (x.twin.isAt + 20000) else none) (fun y => (y.isthmusDown K).twinWatch))
/-- PEER_LOST: TWIN_HB_MISS after the latest partner heartbeat, with the Isthmus down (R404). -/
def execPeerLost (s : State) : Host.Outcome State Fault Refusal :=
  s.live (fun K x => x.timed K
    (if x.twin.isUp then none else x.twin.peerHb.map (fun c => c + 200000 * K.hbMissMs)) (Dev.peerLost K))
/-- MIRROR_LATE of the oldest batch not yet reported (R409). -/
def execMirrorLate (s : State) : Host.Outcome State Fault Refusal :=
  s.live (fun K x => x.timed K
    ((x.twin.unacked.find? (fun b => !x.twin.lateBatches.contains b.1)).map (fun b => b.2 + 200 * K.mirrorDl))
    (Dev.mirrorLate K))
/-- STALE_CLEARED: the conditions have held together for 100 ms (R411). -/
def execStaleCleared (s : State) : Host.Outcome State Fault Refusal :=
  s.live (fun K x =>
    let y := x.twinWatch
    y.timed K (y.twin.clearAt.map (fun c => c + 20000000)) Dev.staleCleared)

/-! ### Summit -/

/-- SUMMIT_SEE_CHANGE (R394). -/
def execSummitSeeChange (high : Bool) (s : State) : Host.Outcome State Fault Refusal :=
  s.live (fun K x => (x.summitSee K high).twinWatch)
/-- CLAIM, once its times have passed (R395). -/
def execClaim (s : State) : Host.Outcome State Fault Refusal :=
  s.live (fun K x => x.timed K (if x.twin.summit = .standby then some (x.claimAt K) else none) (Dev.claim K))
/-- CLAIM_CONFIRMED: 3 µs after the claim with the line high (R399). -/
def execClaimConfirmed (s : State) : Host.Outcome State Fault Refusal :=
  s.live (fun K x => x.timed K (if x.twin.summit = .claiming ∧ x.twin.see = true then some (x.twin.claimAt + 600) else none)
    (fun y => (y.claimConfirmed K).twinWatch))
/-- BACKOFF_ELAPSED: 10 µs after the claim (R394). -/
def execBackoffElapsed (s : State) : Host.Outcome State Fault Refusal :=
  s.live (fun K x => x.timed K (if x.twin.summit = .backoff then some (x.twin.claimAt + 2000) else none) Dev.backoffElapsed)
/-- SUMMIT_LINE (R397). -/
def execSummitLine (s : State) : Host.Outcome State Fault Refusal := s.live (fun K x => (x.summitLine K).twinWatch)
/-- FRAME_WDOG: 50 µs without a retrigger (R396). -/
def execFrameWdog (s : State) : Host.Outcome State Fault Refusal :=
  s.live (fun K x => x.timed K (if x.twin.wdogFired then none else some x.twin.wdogDue)
    (fun y => (y.frameWdog K).twinWatch))

/-! ### Takeback and handover (R413 to R415) -/

/-- TAKEBACK_REQUEST: the preferred unit has been healthy for TB_DWELL, or a second has passed since its latest REQUEST. -/
def execTakebackRequest (s : State) : Host.Outcome State Fault Refusal :=
  s.live (fun K x =>
    let y := x.twinWatch
    y.timed K (y.twin.healthyAt.map (fun c => max (c + 200000000 * K.tbDwell) (match y.twin.reqAt with
      | some r => r + 200000000
      | none => 0))) (Dev.takebackRequest K))
/-- HANDOVER_REQUEST. -/
def execHandoverRequest (tag : Byte) (s : State) : Host.Outcome State Fault Refusal :=
  s.live (fun K x => x.twinWatch.handoverRequest K tag)
/-- HANDOVER_OFFER. -/
def execHandoverOffer (tag : Byte) (s : State) : Host.Outcome State Fault Refusal :=
  s.live (fun K x => x.twinWatch.handoverOffer K tag)
/-- HANDOVER_GRANT: a GRANT or an ACCEPT. -/
def execHandoverGrant (tag : Byte) (s : State) : Host.Outcome State Fault Refusal :=
  s.live (fun _ x => x.twinWatch.handoverGrant tag)
/-- HANDOVER_DECLINE. -/
def execHandoverDecline (s : State) : Host.Outcome State Fault Refusal := s.live (fun _ x => x.twinWatch.handoverDecline)
/-- HANDOVER_INSTANT: H. -/
def execHandoverInstant (s : State) : Host.Outcome State Fault Refusal :=
  s.live (fun K x => match x.twin.hand with
    | .granting _ h _ => (x.untilFrame K h).handoverInstant K
    | _ => x)
/-- HANDOVER_ABANDON: 50 µs after H. -/
def execHandoverAbandon (s : State) : Host.Outcome State Fault Refusal :=
  s.live (fun K x => match x.twin.hand with
    | .awaiting _ h _ => (x.untilFrame K (h + 2)).handoverAbandon
    | .yielded c _ => (x.untilCyc K (c + 10000)).handoverAbandon
    | _ => x)

/-! ### Self-tests (R14, R15, R416) -/

/-- SELFTEST_SCRUB. -/
def execSelftestScrub (test : Fin 4) (result : Fin 3) (addr : Word) (s : State) : Host.Outcome State Fault Refusal :=
  s.live (fun K x => (x.selftest K test result addr).twinWatch)
/-- CLOCK_MONITOR. -/
def execClockMonitor (island : Fin 7) (dev : Int) (s : State) : Host.Outcome State Fault Refusal :=
  s.live (fun K x => (x.clockMonitor K island dev).twinWatch)
/-- STRAIT_LATE. -/
def execStraitLate (row : Fin 13) (bToA : Bool) (late : Bool) (s : State) : Host.Outcome State Fault Refusal :=
  s.live (fun K x => (x.straitShake K row bToA late).twinWatch)

/-! ### Recorder (R420 to R437) -/

/-- RECORD_COMMIT. -/
def execRecordCommit (rb1 rb2 : Option (List Byte)) (epiOk : Bool) (s : State) : Host.Outcome State Fault Refusal :=
  s.live (fun K => Dev.recordCommit K rb1 rb2 epiOk)
/-- CAIRN_NO_RESPONSE. -/
def execCairnNoResponse (epiOk : Bool) (s : State) : Host.Outcome State Fault Refusal :=
  s.live (fun K => Dev.cairnNoResponse K epiOk)
/-- LOG_LATE of the oldest queued record or of a due ledger commit (R424). -/
def execLogLate (ledger : Bool) (s : State) : Host.Outcome State Fault Refusal :=
  s.live (fun K x => x.timed K
    (if ledger then x.cairn.dirtyAt.map (fun c => c + 4000000) else x.cairn.queue.head?.map (fun r => r.at' + 400000))
    (Dev.logLate K ledger))
/-- LEDGER_COMMIT: at once where a counter change or 65 536 records make one due, else after 10 min of operating time
(R429). -/
def execLedgerCommit (bad : Option (List Byte)) (s : State) : Host.Outcome State Fault Refusal :=
  s.live (fun K x => x.timed K
    (if x.commitDue then some x.time.cyc
     else some (x.time.cyc + (1000 * (x.cairn.commitOp + 600000000) - x.cairn.opNs + 4) / 5)) (Dev.ledgerCommit K bad))

end Sys2Proof.Machine
end

