-- ==== Sys2Proof/Machine/Dispatch.lean ====
section
/-! DEFINITION. The meaning of every command: one arm per constructor, each one direct call of its meaning. -/

namespace Sys2Proof.Machine

def exec (i : Instr) (s : State) : Host.Outcome State Fault Refusal :=
  match i with
  | .opening h d => Sys2Proof.Machine.execOpening h d s
  | .close h d => Sys2Proof.Machine.execClose h d s
  | .holdOpen h d set => Sys2Proof.Machine.execHoldOpen h d set s
  | .buttons h d set => Sys2Proof.Machine.execButtons h d set s
  | .faultReset h d => Sys2Proof.Machine.execFaultReset h d s
  | .move h a pos rel set => Sys2Proof.Machine.execMove h a pos rel set s
  | .moveNow h a pos rel set => Sys2Proof.Machine.execMoveNow h a pos rel set s
  | .stop h a => Sys2Proof.Machine.execStop h a s
  | .profileChange h a set mask vals => Sys2Proof.Machine.execProfileChange h a set mask vals s
  | .compareSet h a c neg measured passed => Sys2Proof.Machine.execCompareSet h a c neg measured passed s
  | .compareOff h a => Sys2Proof.Machine.execCompareOff h a s
  | .refArm h a o => Sys2Proof.Machine.execRefArm h a o s
  | .refOff h a => Sys2Proof.Machine.execRefOff h a s
  | .refSet h a pos => Sys2Proof.Machine.execRefSet h a pos s
  | .outSet h o lvl => Sys2Proof.Machine.execOutSet h o lvl s
  | .outMask h mask lvl => Sys2Proof.Machine.execOutMask h mask lvl s
  | .busTx h c f retry => Sys2Proof.Machine.execBusTx h c f retry s
  | .rxSupply h c buf len cookie => Sys2Proof.Machine.execRxSupply h c buf len cookie s
  | .chanModeSleep h c => Sys2Proof.Machine.execChanModeSleep h c s
  | .chanModeWake h c => Sys2Proof.Machine.execChanModeWake h c s
  | .chanModeRecover h c => Sys2Proof.Machine.execChanModeRecover h c s
  | .chanModeFlush h c => Sys2Proof.Machine.execChanModeFlush h c s
  | .loopOpen h a => Sys2Proof.Machine.execLoopOpen h a s
  | .loopClose h a => Sys2Proof.Machine.execLoopClose h a s
  | .coefLoadBlock h a len data => Sys2Proof.Machine.execCoefLoadBlock h a len data s
  | .coefLoadEnvelope h d closing ecrc data => Sys2Proof.Machine.execCoefLoadEnvelope h d closing ecrc data s
  | .coefReadBlock h a sel len buf => Sys2Proof.Machine.execCoefReadBlock h a sel len buf s
  | .coefReadEnvelope h d closing buf => Sys2Proof.Machine.execCoefReadEnvelope h d closing buf s
  | .modeSwitchManual h a force c0 c1 => Sys2Proof.Machine.execModeSwitchManual h a force c0 c1 s
  | .modeSwitchAuto h a => Sys2Proof.Machine.execModeSwitchAuto h a s
  | .manSet h a force c0 c1 => Sys2Proof.Machine.execManSet h a force c0 c1 s
  | .inject h a o => Sys2Proof.Machine.execInject h a o s
  | .injectStop h a => Sys2Proof.Machine.execInjectStop h a s
  | .captureStart h u o => Sys2Proof.Machine.execCaptureStart h u o s
  | .captureStop h u => Sys2Proof.Machine.execCaptureStop h u s
  | .cairnExport h o => Sys2Proof.Machine.execCairnExport h o s
  | .cairnMark h payload => Sys2Proof.Machine.execCairnMark h payload s
  | .schedMark h => Sys2Proof.Machine.execSchedMark h s
  | .ttSet h v => Sys2Proof.Machine.execTtSet h v s
  | .tmControl h c run => Sys2Proof.Machine.execTmControl h c run s
  | .schedCancel h n seq => Sys2Proof.Machine.execSchedCancel h n seq s
  | .nop h => Sys2Proof.Machine.execNop h s
  | .twinYield h => Sys2Proof.Machine.execTwinYield h s
  | .takebackInhibit h b => Sys2Proof.Machine.execTakebackInhibit h b s
  | .beaconWrite r n v => Sys2Proof.Machine.execBeaconWrite r n v s
  | .atollContextWrite r n w v => Sys2Proof.Machine.execAtollContextWrite r n w v s
  | .descriptorFetch n mem => Sys2Proof.Machine.execDescriptorFetch n mem s
  | .v1DescriptorFetch n mem => Sys2Proof.Machine.execV1DescriptorFetch n mem s
  | .fetchLate n mem k => Sys2Proof.Machine.execFetchLate n mem s k
  | .actionRelease => Sys2Proof.Machine.execActionRelease s
  | .completionWrite => Sys2Proof.Machine.execCompletionWrite s
  | .writeBack n => Sys2Proof.Machine.execWriteBack n s
  | .moderationTimeout n => Sys2Proof.Machine.execModerationTimeout n s
  | .hostLost c => Sys2Proof.Machine.execHostLost c s
  | .busMasterEnable on => Sys2Proof.Machine.execBusMasterEnable on s
  | .barAccessErr isRead r => Sys2Proof.Machine.execBarAccessErr isRead r s
  | .registerWrite r space off v env => Sys2Proof.Machine.execRegisterWrite r space off v s env
  | .loRegisterRead r off space => Sys2Proof.Machine.execLoRegisterRead r off s space
  | .snapshotWindowRead r off => Sys2Proof.Machine.execSnapshotWindowRead r off s
  | .cairnWin0Read r => Sys2Proof.Machine.execCairnWin0Read r s
  | .cairnWin7Read r => Sys2Proof.Machine.execCairnWin7Read r s
  | .sealRequest r => Sys2Proof.Machine.execSealRequest r s
  | .sealInstant => Sys2Proof.Machine.execSealInstant s
  | .unsealRequest r => Sys2Proof.Machine.execUnsealRequest r s
  | .unsealEffect => Sys2Proof.Machine.execUnsealEffect s
  | .autoSeal => Sys2Proof.Machine.execAutoSeal s
  | .swReset r v => Sys2Proof.Machine.execSwReset r v s
  | .imgSave r => Sys2Proof.Machine.execImgSave r s
  | .imgSaveDone ok => Sys2Proof.Machine.execImgSaveDone ok s
  | .ttSetGo r => Sys2Proof.Machine.execTtSetGo r s
  | .loopFaultClr r sides => Sys2Proof.Machine.execLoopFaultClr r sides s
  | .fltLatched r a pinHigh => Sys2Proof.Machine.execFltLatched r a pinHigh s
  | .ocLatched r a => Sys2Proof.Machine.execOcLatched r a s
  | .fbLatched r a => Sys2Proof.Machine.execFbLatched r a s
  | .limitLatched r a => Sys2Proof.Machine.execLimitLatched r a s
  | .lateLatched r a => Sys2Proof.Machine.execLateLatched r a s
  | .feLatched r a => Sys2Proof.Machine.execFeLatched r a s
  | .outFltLatched r mask => Sys2Proof.Machine.execOutFltLatched r mask s
  | .followResume r a => Sys2Proof.Machine.execFollowResume r a s
  | .tuInval r => Sys2Proof.Machine.execTuInval r s
  | .v1ChainCancel r n mem => Sys2Proof.Machine.execV1ChainCancel r n mem s
  | .cairnRearm r ok => Sys2Proof.Machine.execCairnRearm r ok s
  | .epiClr r => Sys2Proof.Machine.execEpiClr r s
  | .demoteClr r holdLow => Sys2Proof.Machine.execDemoteClr r holdLow s
  | .safeHoldClr r => Sys2Proof.Machine.execSafeHoldClr r s
  | .sleepReq r media => Sys2Proof.Machine.execSleepReq r s media
  | .mgtRead off n took dummy => Sys2Proof.Machine.execMgtRead off n s took dummy
  | .mgtWrite bytes env => Sys2Proof.Machine.execMgtWrite bytes s env
  | .mgtStatus => Sys2Proof.Machine.execMgtStatus s
  | .powerOn => Sys2Proof.Machine.execPowerOn s
  | .brownOut => Sys2Proof.Machine.execBrownOut s
  | .pinReset => Sys2Proof.Machine.execPinReset s
  | .refLost => Sys2Proof.Machine.execRefLost s
  | .resetRelease twinEn unitA pref pcieRef media => Sys2Proof.Machine.execResetRelease twinEn unitA pref pcieRef s media
  | .powerFailWarning media => Sys2Proof.Machine.execPowerFailWarning s media
  | .warningClear => Sys2Proof.Machine.execWarningClear s
  | .wakeTimerExpiry => Sys2Proof.Machine.execWakeTimerExpiry s
  | .perstWake => Sys2Proof.Machine.execPerstWake s
  | .controlFrame pins took => Sys2Proof.Machine.execControlFrame pins s took
  | .obstacleConfirmed d => Sys2Proof.Machine.execObstacleConfirmed d s
  | .predictionWithdrawn d => Sys2Proof.Machine.execPredictionWithdrawn d s
  | .startAllowanceEnd a => Sys2Proof.Machine.execStartAllowanceEnd a s
  | .computeLate a finished => Sys2Proof.Machine.execComputeLate a finished s
  | .overrunReaction a => Sys2Proof.Machine.execOverrunReaction a s
  | .predLate a => Sys2Proof.Machine.execPredLate a s
  | .solSettleElapsed d => Sys2Proof.Machine.execSolSettleElapsed d s
  | .unlockTimeout d => Sys2Proof.Machine.execUnlockTimeout d s
  | .lockTimeout d => Sys2Proof.Machine.execLockTimeout d s
  | .stepTimeout d => Sys2Proof.Machine.execStepTimeout d s
  | .openTimeout d => Sys2Proof.Machine.execOpenTimeout d s
  | .closeTimeout d => Sys2Proof.Machine.execCloseTimeout d s
  | .closedSwMissing d => Sys2Proof.Machine.execClosedSwMissing d s
  | .warnElapsed d => Sys2Proof.Machine.execWarnElapsed d s
  | .autoCloseElapsed d => Sys2Proof.Machine.execAutoCloseElapsed d s
  | .obstHoldElapsed d => Sys2Proof.Machine.execObstHoldElapsed d s
  | .pairDiscrepancy p => Sys2Proof.Machine.execPairDiscrepancy p s
  | .standstill a => Sys2Proof.Machine.execStandstill a s
  | .manualStale a => Sys2Proof.Machine.execManualStale a s
  | .followErr a => Sys2Proof.Machine.execFollowErr a s
  | .injectionEnd a => Sys2Proof.Machine.execInjectionEnd a s
  | .captureRecordWrite u => Sys2Proof.Machine.execCaptureRecordWrite u s
  | .captureComplete u => Sys2Proof.Machine.execCaptureComplete u s
  | .carrierValley a => Sys2Proof.Machine.execCarrierValley a s
  | .bridgeFault a low => Sys2Proof.Machine.execBridgeFault a s low
  | .overcurrent a pins => Sys2Proof.Machine.execOvercurrent a pins s
  | .sdLoss a ch pins => Sys2Proof.Machine.execSdLoss a ch s pins
  | .quadIllegal a => Sys2Proof.Machine.execQuadIllegal a s
  | .index a aHigh bHigh => Sys2Proof.Machine.execIndex a aHigh bHigh s
  | .coarseStep a bHigh fall => Sys2Proof.Machine.execCoarseStep a bHigh s fall
  | .ssiFrame a x => Sys2Proof.Machine.execSsiFrame a x s
  | .wireBreak a pair present => Sys2Proof.Machine.execWireBreak a pair present s
  | .hallEdge a state fall => Sys2Proof.Machine.execHallEdge a state s fall
  | .feedbackLoss a => Sys2Proof.Machine.execFeedbackLoss a s
  | .limitStop a negative => Sys2Proof.Machine.execLimitStop a negative s
  | .referenceLatch a rising => Sys2Proof.Machine.execReferenceLatch a rising s
  | .refDone a => Sys2Proof.Machine.execRefDone a s
  | .inputSample g raw volts => Sys2Proof.Machine.execInputSample g raw s volts
  | .safeInputSample rawA rawB volts => Sys2Proof.Machine.execSafeInputSample rawA rawB s volts
  | .sinDiag j => Sys2Proof.Machine.execSinDiag j s
  | .outputReadback l => Sys2Proof.Machine.execOutputReadback l s
  | .outputDisagreement o => Sys2Proof.Machine.execOutputDisagreement o s
  | .loopReadback j => Sys2Proof.Machine.execLoopReadback j s
  | .twinXcheck o => Sys2Proof.Machine.execTwinXcheck o s
  | .openLoad o => Sys2Proof.Machine.execOpenLoad o s
  | .overload o thermal => Sys2Proof.Machine.execOverload o thermal s
  | .supplyMeasurement g dv => Sys2Proof.Machine.execSupplyMeasurement g dv s
  | .supLoss g => Sys2Proof.Machine.execSupLoss g s
  | .supOk g loss => Sys2Proof.Machine.execSupOk g loss s
  | .syncFrameSend c => Sys2Proof.Machine.execSyncFrameSend c s
  | .followUpSend c => Sys2Proof.Machine.execFollowUpSend c s
  | .syncPair c => Sys2Proof.Machine.execSyncPair c s
  | .timeStep => Sys2Proof.Machine.execTimeStep s
  | .holdover => Sys2Proof.Machine.execHoldover s
  | .sourceChange => Sys2Proof.Machine.execSourceChange s
  | .syncHoldover => Sys2Proof.Machine.execSyncHoldover s
  | .periodicAnchor => Sys2Proof.Machine.execPeriodicAnchor s
  | .frameReceived c f sof => Sys2Proof.Machine.execFrameReceived c f sof s
  | .rxRecordDelivery c => Sys2Proof.Machine.execRxRecordDelivery c s
  | .protocolExc c xl sof => Sys2Proof.Machine.execProtocolExc c xl s sof
  | .txAttempt c sof => Sys2Proof.Machine.execTxAttempt c sof s
  | .txAttemptEnd c o => Sys2Proof.Machine.execTxAttemptEnd c o s
  | .busError c e transmitting xl sof => Sys2Proof.Machine.execBusError c e transmitting s xl sof
  | .autoRecoveryStart c => Sys2Proof.Machine.execAutoRecoveryStart c s
  | .busOk c => Sys2Proof.Machine.execBusOk c s
  | .busTxLate c uid => Sys2Proof.Machine.execBusTxLate c uid s
  | .channelAsleep c => Sys2Proof.Machine.execChannelAsleep c s
  | .wakeDominant c => Sys2Proof.Machine.execWakeDominant c s
  | .wakeFrame c f wellFormed => Sys2Proof.Machine.execWakeFrame c f wellFormed s
  | .busWake c => Sys2Proof.Machine.execBusWake c s
  | .rateCandidateNext c onError => Sys2Proof.Machine.execRateCandidateNext c onError s
  | .rateFound c => Sys2Proof.Machine.execRateFound c s
  | .rateFail c onError => Sys2Proof.Machine.execRateFail c s onError
  | .partnerLate n => Sys2Proof.Machine.execPartnerLate n s
  | .partnerGone n => Sys2Proof.Machine.execPartnerGone n s
  | .svcRecords tag count first => Sys2Proof.Machine.execSvcRecords tag count first s
  | .svcLedger tag arg => Sys2Proof.Machine.execSvcLedger tag arg s
  | .svcStatus tag => Sys2Proof.Machine.execSvcStatus tag s
  | .twinHeartbeatSend => Sys2Proof.Machine.execTwinHeartbeatSend s
  | .isthmusFrameReceived f => Sys2Proof.Machine.execIsthmusFrameReceived f s
  | .isthmusDown lanes => Sys2Proof.Machine.execIsthmusDown s lanes
  | .peerLost => Sys2Proof.Machine.execPeerLost s
  | .mirrorLate => Sys2Proof.Machine.execMirrorLate s
  | .staleCleared => Sys2Proof.Machine.execStaleCleared s
  | .summitSeeChange high => Sys2Proof.Machine.execSummitSeeChange high s
  | .claim => Sys2Proof.Machine.execClaim s
  | .claimConfirmed => Sys2Proof.Machine.execClaimConfirmed s
  | .backoffElapsed => Sys2Proof.Machine.execBackoffElapsed s
  | .summitLine => Sys2Proof.Machine.execSummitLine s
  | .frameWdog => Sys2Proof.Machine.execFrameWdog s
  | .takebackRequest => Sys2Proof.Machine.execTakebackRequest s
  | .handoverRequest tag => Sys2Proof.Machine.execHandoverRequest tag s
  | .handoverOffer tag => Sys2Proof.Machine.execHandoverOffer tag s
  | .handoverGrant tag => Sys2Proof.Machine.execHandoverGrant tag s
  | .handoverDecline => Sys2Proof.Machine.execHandoverDecline s
  | .handoverInstant => Sys2Proof.Machine.execHandoverInstant s
  | .handoverAbandon => Sys2Proof.Machine.execHandoverAbandon s
  | .selftestScrub test result addr => Sys2Proof.Machine.execSelftestScrub test result addr s
  | .clockMonitor island dev => Sys2Proof.Machine.execClockMonitor island dev s
  | .straitLate row bToA late => Sys2Proof.Machine.execStraitLate row bToA late s
  | .recordCommit rb1 rb2 epiOk => Sys2Proof.Machine.execRecordCommit rb1 rb2 epiOk s
  | .cairnNoResponse epiOk => Sys2Proof.Machine.execCairnNoResponse epiOk s
  | .logLate ledger => Sys2Proof.Machine.execLogLate ledger s
  | .ledgerCommit bad => Sys2Proof.Machine.execLedgerCommit bad s
  | .busIntegration c => Sys2Proof.Machine.execBusIntegration c s
  | .keeperUnpowered => Sys2Proof.Machine.execKeeperUnpowered s
  | .decoderCount a e => Sys2Proof.Machine.execDecoderCount a e s
  | .pcieReferenceClockChange present => Sys2Proof.Machine.execPcieReferenceClockChange present s

end Sys2Proof.Machine
end

