-- ==== Sys2Proof/Machine/Step.lean ====
section
/-! DEFINITION. One step of the block: the command at the front of the queue is carried out; with no command waiting one
axis cycle of 5 ns passes. -/

namespace Sys2Proof.Machine

/-- An axis cycle in which no command takes effect: time moves on by 5 ns while the islands run (R29). (DESIGN CHOICE: log entry 1) -/
def State.idle (s : State) : State :=
  if s.dev.keeper.phase = .run then { s with dev := s.dev.advance s.cfg 1 } else s

/-- One step: the front command on the queue's rest, or an idle cycle. (DESIGN CHOICE: log entries 1, 160; DEDUCED: log entry 11) -/
def step (s : State) : Host.Outcome State Fault Refusal :=
  match s.pending with
  | [] => .next s.idle
  | c :: rest => exec c { s with pending := rest }

/-- `s` with the command the word spells at the front of its queue; `s` itself where the word spells none. (DESIGN CHOICE: log entry 2) -/
def State.withFetchWord (s : State) (nbits w : Nat) : State :=
  match decodeTableWord nbits w with
  | some c => { s with pending := c :: s.pending }
  | none => s

end Sys2Proof.Machine
end

