-- ==== Sys2Proof/Safety.lean ====
section
/-! DEFINITION. What the statements speak of: a proper state, a running block, the outcome a sender receives, and where a
command leaves the block. -/

namespace Sys2Proof.Machine

/-- The set-up registers are held in canonical form. -/
def State.proper (s : State) : Prop := s.cfg.wf = true

/-- The islands run: no device reset is in force and the device is not asleep (R462, R473). -/
def State.running (s : State) : Prop := s.dev.keeper.phase = .run

/-- No action waits in the launch scheduler, no handover exchange is under way and no retrigger of the frame watchdog is still to
come, so that time passing does nothing but pass. -/
def State.calm (s : State) : Prop := s.dev.sched.pend = [] ∧ s.dev.twin.hand = .none ∧ s.dev.twin.wdogNext = none

/-- Every field of every register that a set-up image holds is within its range. -/
def Image.fieldsOk (m : Image) : Prop := ∀ k, Machine.fieldsOk (fieldsAt k) (m.cfg.loaded.word k) = true

/-- The set-up images a state holds: the two slots and the one being saved. -/
def State.holdsImage (s : State) (m : Image) : Prop :=
  s.dev.img.slot0 = some m ∨ s.dev.img.slot1 = some m ∨ s.dev.img.saving = some m

/-- What a write on the link is followed by: nothing, or the message of the Atoll's vector. -/
def Memory.signalOf (K : Memory) (n : AtollId) (l : List LinkOut) : Prop :=
  l = [] ∨ ∃ v : Fin 64, v.val = K.atlVec n.val ∧ l = [.msix v]

/-- The islands run and the unit does not refuse an action of this header: sealed, and active where the action is an
actuator's (R295, R296). -/
def State.accepts (s : State) (h : Hdr) (a : Act) : Prop := s.running ∧ s.dev.unitRefuse h a = none

/-- The command answers a next state of which `P` holds. -/
def Completes (c : Instr) (s : State) (P : State → Prop) : Prop := ∃ t, exec c s = .next t ∧ P t

/-- The action of header `h` has its outcome: for a host action with the link up, a completion of status `code` for its Atoll
and host sequence number (R318); other sources receive none. -/
def Dev.gave (h : Hdr) (code : Nat) (x : Dev) : Prop :=
  match h.src with
  | .host n => x.host.lost = true ∨
      ∃ e ∈ x.host.outcomes, e.atoll = n ∧ e.seq = h.seq ∧ e.uid = h.uid ∧ e.status = finalStatus code h.late h.cancelLate false
  | _ => True

/-- Source `e` of the event matrix shows object `obj` with condition code `cond` as its latest cause (R449, R451). -/
def Dev.raised (x : Dev) (e obj cond : Nat) : Prop :=
  ∃ h : e < 256, x.evt.cause.get ⟨e, h⟩ = BitVec.ofNat 32 (obj * 65536 + cond)

/-- What events, faults, their reactions and the end of moves may change: events and their records, the actions triggers
release, the link side with the Atolls, the doorways, axes, outputs and the twin state. Nothing else differs. -/
def State.reacted (s t : State) : Prop :=
  t = { s with dev := { s.dev with
    doors := t.dev.doors, axes := t.dev.axes, fio := t.dev.fio, twin := t.dev.twin, evt := t.dev.evt, sched := t.dev.sched,
    host := t.dev.host, cairn := t.dev.cairn, atolls := t.dev.atolls } }

/-- The rest of a pre-empted version-1 chain of Atoll `n` stands in the ring as these slots with what they hold: each translates, can be
read and is owned by the device, and the last one ends the chain or the ring (R322, R333). -/
def Dev.restOfChain (K : Memory) (n : AtollId) (mem : HostMem) : List (Nat × List Byte) → Dev → Prop
  | [], x => x.availCount n = 0
  | (slot, b) :: r, x =>
    let w := x.walk K mem (x.slotAddr K n 0) true
    let y := (w.2.modAtl n (fun a => { a with dev := a.dev + 1 })).chainOn n ((DescV1.ofBytes b).flags.testBit 1)
    x.availCount n ≠ 0 ∧ w.1 = .inl slot ∧ mem.read slot 32 = some b ∧ (DescV1.ofBytes b).own = true ∧
      if (y.atl n).inChain then Dev.restOfChain K n mem r y else r = []

/-- The doorway as a frame finds it before its first row: alerts of ISOLATED, the wait for CLOSED_IN and a step retraction that
is due come first (R62, R63). -/
def Dev.doorStart (K : Memory) (x : Dev) (d : DoorId) : Dev := ((x.isoAlerts K d).closedWait K d).retractNow K d

/-- The doorway is enabled on a sealed device, is in state `st` and has made no transition in this frame. -/
def Dev.doorIn (K : Memory) (x : Dev) (d : DoorId) (st : DwState) : Prop :=
  K.dwEn d.val = true ∧ x.isSealed = true ∧ (x.dw d).st = st ∧ (x.dw d).transF ≠ some x.time.frames

/-- Nothing but a command can move the doorway in this frame: it is out of DISABLED, no row of items 1 to 4 of R62 applies and
no obstacle is detected. -/
def Dev.doorQuiet (K : Memory) (x : Dev) (d : DoorId) : Prop :=
  x.doorIn K d (x.dw d).st ∧ (x.dw d).st ≠ .disabled ∧ (x.doorStart K d).upperRow K d = none ∧
    (x.doorStart K d).detection K d = none

end Sys2Proof.Machine

namespace Sys2Proof

/-- The command is one of those that reset the block, put it to sleep or wake it, or load its set-up registers from an image
(R461 to R474). -/
def Instr.resets (c : Instr) : Bool :=
  match c with
  | .swReset _ _ | .powerOn | .brownOut | .pinReset | .refLost | .resetRelease _ _ _ _ _ | .keeperUnpowered | .wakeTimerExpiry
  | .perstWake | .wakeDominant _ | .wakeFrame _ _ _ => true
  | _ => false

/-- The command writes registers or context words. -/
def Instr.writesRegisters (c : Instr) : Bool :=
  match c with
  | .registerWrite _ _ _ _ _ | .mgtWrite _ _ | .atollContextWrite _ _ _ _ => true
  | _ => false

end Sys2Proof
end

