-- ==== Sys2Proof/Certificates/Slice0/Obligations.lean ====
section
/-! DEFINITION. The statements for the provers: what the rules of the spec say of the block, in terms of the model. -/

open Sys2Proof Sys2Proof.Machine

/-! ### The queue, resets and the set-up registers -/

/-- A step with a command at the front of the queue is that command on the queue's rest. -/
def Obligations.StepRunsTheFrontCommand : Prop :=
  ∀ (s : State) (c : Instr) (rest : List Instr),
    step { s with pending := c :: rest } = exec c { s with pending := rest }

/-- On an empty queue one axis cycle of 5 ns passes (the model's choice, log entry 1): with no action waiting, the cycle count
moves on by one and train time by the increment of R29. Nothing else changes but operating time, three times the twin watches (since
when the unit is healthy, the condition of a takeback holds and the Summit is claimed) and what the twin sends: where the Isthmus is
in use, the headers of frames whose Isthmus frame the core island has not begun go out alone, with a handover message each (the
model's reading, log entry 92). -/
def Obligations.IdleStepPassesACycle : Prop :=
  ∀ (s : State), s.running → s.calm → s.pending = [] →
    ∃ t, step s = .next t ∧ t.dev.time.cyc = s.dev.time.cyc + 1 ∧
      t.dev.time.full = (s.dev.time.full + s.dev.time.inc) % 2 ^ 96 ∧
      (∃ more, t.dev.twin.sent = s.dev.twin.sent ++ more ∧
        ((s.dev.twin.en = false ∨ s.dev.twin.sentFrame = none) → more = [] ∧ t.dev.twin.ownHdr = s.dev.twin.ownHdr ∧
          t.dev.twin.isSeq = s.dev.twin.isSeq ∧ t.dev.twin.msgs = s.dev.twin.msgs ∧
          t.dev.twin.sentFrame = s.dev.twin.sentFrame)) ∧
      t = { s with dev := { s.dev with
        time := t.dev.time, cairn := { s.dev.cairn with opNs := t.dev.cairn.opNs }
        twin := { s.dev.twin with
          healthyAt := t.dev.twin.healthyAt, clearAt := t.dev.twin.clearAt, claimedAt := t.dev.twin.claimedAt
          ownHdr := t.dev.twin.ownHdr, sent := t.dev.twin.sent, isSeq := t.dev.twin.isSeq, msgs := t.dev.twin.msgs
          sentFrame := t.dev.twin.sentFrame } } }

/-- Every command answers a next state, and leaves the commands that wait behind it as they were. -/
def Obligations.EveryCommandAnswers : Prop :=
  ∀ (c : Instr) (s : State), Completes c s (fun t => t.pending = s.pending)

/-- The set-up registers stay in canonical form under every step, so that equal set-ups are equal data. -/
def Obligations.StepKeepsSetupCanonical : Prop :=
  ∀ (s t : State), s.proper → step s = .next t → t.proper

/-- R478: a set-up field never holds a value outside its range. Every command keeps every field of every register, and of every
set-up image held, within its range; RESET_RELEASE too, which loads an image saved earlier. -/
def Obligations.FieldsKeepTheirRanges : Prop :=
  ∀ (c : Instr) (s t : State), s.proper → (∀ k, fieldsOk (fieldsAt k) (s.cfg.word k) = true) →
    (∀ m, s.holdsImage m → m.fieldsOk) → exec c s = .next t →
    (∀ k, fieldsOk (fieldsAt k) (t.cfg.word k) = true) ∧ (∀ m, t.holdsImage m → m.fieldsOk)

/-- Right after reset the set-up registers are in canonical form, every one reads a value of its fields' ranges, no set-up image is
held, the queue is empty, and the device is unsealed with a device reset in force. -/
def Obligations.ResetMeetsTheInvariants : Prop :=
  State.reset.proper ∧ (∀ k, fieldsOk (fieldsAt k) (State.reset.cfg.word k) = true) ∧ State.reset.pending = [] ∧
    (∀ m, ¬ State.reset.holdsImage m) ∧
    State.reset.dev.isSealed = false ∧ State.reset.dev.keeper.phase = .inReset

/-- Only a register or context write, a management write, and the commands that reset, wake or start the device change the
set-up registers. -/
def Obligations.OnlyWritesChangeSetup : Prop :=
  ∀ (c : Instr) (s t : State), c.resets = false → c.writesRegisters = false → exec c s = .next t → t.cfg = s.cfg

/-- The seal: whatever a sealed, running device is commanded, as long as it stays out of reset and awake its set-up fields
stay as they are; only IMG_BOOT and TT_SET, which are no set-up fields, can change. -/
def Obligations.SealFreezesSetup : Prop :=
  ∀ (c : Instr) (s t : State), s.proper → s.running → s.dev.isSealed = true → exec c s = .next t → t.running →
    ∀ k, rwKey k = false → t.cfg.word k = s.cfg.word k

/-- While a device reset is in force, the device is asleep or it is without power, the islands do nothing, as the model reads it (log
entry 8): every command that is not a reset, a wake or the release leaves the block as it is, a power-fail warning too. -/
def Obligations.ResetHoldsTheIslands : Prop :=
  ∀ (c : Instr) (s : State), ¬ s.running → c.resets = false → exec c s = .next s

/-! ### Actions in general (R292, R295, R296, R318) -/

/-- NOP does nothing but complete with OK: a host action has its completion, and nothing but the link side and the Atolls
changes. A direct action command acts at once (log entry 6). -/
def Obligations.NopCompletesAlone : Prop :=
  ∀ (s : State) (h : Hdr), s.accepts h .nop →
    Completes (.nop h) s (fun t => t.dev.gave h stOK ∧
      t = { s with dev := { s.dev with host := t.dev.host, atolls := t.dev.atolls } })

/-- Every actuator-affecting action of R294 of a sealed unit's own host is refused with NOT_ACTIVE while the unit does not hold the
Summit; every doorway, axis motion and output action of the host is refused with STATE_REFUSED while the device is unsealed.
Neither has another effect. A direct action command acts at once (log entry 6). -/
def Obligations.UnitRefusesActions : Prop :=
  (∀ (s : State) (h : Hdr) (n : AtollId) (a : AxisId) (o : OutId) (d : DoorId) (lvl : Bool) (pos : Int) (rel : Bool) (set : Fin 4),
    ∀ (mask : BitVec 11) (vals : List Word) (neg measured passed force run : Bool) (ref : RefArmOps) (omask olvl : Word)
      (len : Nat) (data : List Byte) (ecrc : BitVec 16) (c0 c1 : Int) (inj : InjectOps) (v : BitVec 64) (ch : ChanId),
    s.running → h.src = .host n → s.dev.isSealed = true → s.dev.holding = false →
    ∀ c ∈ [Instr.opening h d, .close h d, .holdOpen h d lvl, .buttons h d lvl, .faultReset h d, .move h a pos rel set,
        .moveNow h a pos rel set, .stop h a, .profileChange h a set mask vals, .compareSet h a pos neg measured passed,
        .compareOff h a, .refArm h a ref, .refOff h a, .refSet h a pos, .outSet h o lvl, .outMask h omask olvl, .loopOpen h a,
        .loopClose h a, .coefLoadBlock h a len data, .coefLoadEnvelope h d lvl ecrc data, .modeSwitchManual h a force c0 c1,
        .modeSwitchAuto h a, .manSet h a force c0 c1, .inject h a inj, .injectStop h a, .ttSet h v, .tmControl h ch run],
      Completes c s (fun t => t.dev.gave h stNotActive ∧
        t = { s with dev := { s.dev with host := t.dev.host, atolls := t.dev.atolls } })) ∧
  (∀ (s : State) (h : Hdr) (n : AtollId) (a : AxisId) (o : OutId) (d : DoorId) (lvl : Bool) (pos : Int) (rel : Bool) (set : Fin 4),
    ∀ (mask : BitVec 11) (vals : List Word) (neg measured passed : Bool) (ref : RefArmOps) (omask olvl : Word),
    s.running → h.src = .host n → s.dev.isSealed = false →
    ∀ c ∈ [Instr.opening h d, .close h d, .holdOpen h d lvl, .buttons h d lvl, .faultReset h d, .move h a pos rel set,
        .moveNow h a pos rel set, .stop h a, .profileChange h a set mask vals, .compareSet h a pos neg measured passed,
        .compareOff h a, .refArm h a ref, .refOff h a, .refSet h a pos, .outSet h o lvl, .outMask h omask olvl],
      Completes c s (fun t => t.dev.gave h stState ∧
        t = { s with dev := { s.dev with host := t.dev.host, atolls := t.dev.atolls } }))

/-! ### Axis motion (R125 to R143, R153 to R157, R303) -/

/-- MOVE joins the axis's queue, MOVE_NOW on an axis at rest becomes its only queued move: the next state is the state before
with that one queue changed. A RELATIVE target counts from the latest queued target, and with none from the set-point rounded to the
nearest count, as the model reads it (log entry 154). MOVE_NOW of a moving axis off a stop ramp flushes the queue and ends the current
move REPLACED with OK; a target behind the set-point, or ahead of it by less than the stop distance, starts a stop ramp of the new set
with the new move at the head of the queue, and another one makes the new move current at the present speed (R129, R137). A direct action command acts at once (log entry 6). -/
def Obligations.MovesJoinTheQueue : Prop :=
  (∀ (s : State) (h : Hdr) (a : AxisId) (pos : Int) (rel : Bool) (set : Fin 4),
    let g := (s.dev.ax a).gen
    let target := if rel then g.lastTarget + pos else pos
    s.accepts h (.axis a (.move pos rel set)) → s.dev.motionRefused s.cfg a true false true = false →
    (s.dev.gateShutFor s.cfg a && s.cfg.openingMove a (g.lastTarget * fx) (target * fx)) = false →
    in48 target = true → g.len < 8 →
    exec (.move h a pos rel set) s = .next { s with dev := s.dev.modAx a (fun v => { v with gen := { g with queue := g.queue ++ [{ target := target, set := set, hdr := some h, dirOld := if 0 < g.v then some g.dir else none }] } }) }) ∧
  (∀ (s : State) (h : Hdr) (a : AxisId) (pos : Int) (rel : Bool) (set : Fin 4),
    let g := (s.dev.ax a).gen
    let target := if rel then wholeCount g.x + pos else pos
    s.accepts h (.axis a (.moveNow pos rel set)) → s.dev.motionRefused s.cfg a true false true = false →
    (s.dev.gateShutFor s.cfg a && s.cfg.openingMove a g.x (target * fx)) = false →
    in48 target = true → g.cur = none → g.queue = [] →
    exec (.moveNow h a pos rel set) s = .next { s with dev := s.dev.modAx a (fun v => { v with gen := { g with queue := [{ target := target, set := set, hdr := some h, dirOld := if 0 < g.v then some g.dir else none }] } }) }) ∧
  (∀ (s : State) (h : Hdr) (a : AxisId) (pos : Int) (rel : Bool) (set : Fin 4) (m0 : Move),
    let g := (s.dev.ax a).gen
    let target := if rel then wholeCount g.x + pos else pos
    s.accepts h (.axis a (.moveNow pos rel set)) → s.dev.motionRefused s.cfg a true false true = false →
    (s.dev.gateShutFor s.cfg a && s.cfg.openingMove a g.x (target * fx)) = false →
    in48 target = true → g.cur = some m0 → g.ramp = none → g.joints = [] → g.heldChanges = [] →
    Completes (.moveNow h a pos rel set) s (fun t =>
      let r := g.rates (s.dev.genEnv s.cfg a) set
      let stops := decide (g.dir * (target * fx - g.x) < (stopDist r g.v r.vs : Int))
      let q := (t.dev.ax a).gen
      (t.dev.ax a) = { s.dev.ax a with gen := { g with
        cur := if stops then none else some { target := target, set := set, hdr := some h }
        ramp := if stops then some ⟨set, false⟩ else none
        queue := if stops then [{ target := target, set := set, hdr := some h, dirOld := if 0 < g.v then some g.dir else none }] else []
        hoDone := if stops then g.hoDone else false, bound := 0, short := 0, next := q.next, endReason := 3, endSeq := q.endSeq } } ∧
      (∀ h0, m0.hdr = some h0 → q.endSeq = h0.seq ∧ t.dev.gave h0 stOK) ∧
      (∀ m ∈ g.queue, ∀ h0, m.hdr = some h0 → t.dev.gave h0 stCancelled) ∧
      (∀ b, b ≠ a → t.dev.ax b = s.dev.ax b) ∧ s.reacted t))

/-- STOP of an axis on a move starts its stop ramp and waits for its end; on an axis at rest it completes at once and changes
nothing else. PROFILE_CHANGE: a change of CMD_LIMIT, and one of a set no motion uses, wait for the next period and complete
with OK; nothing else changes. A direct action command acts at once (log entry 6). -/
def Obligations.StopsAndProfileChanges : Prop :=
  (∀ (s : State) (h : Hdr) (a : AxisId) (m : Move),
    let g := (s.dev.ax a).gen
    s.accepts h (.axis a .stop) → s.dev.motionRefused s.cfg a false false false = false →
    (s.dev.ax a).eng.mode = .auto → s.dev.following s.cfg a = false →
    g.cur = some m → g.ramp = none → g.queue = [] → g.seg ≠ .frozen → g.seg ≠ .track →
    exec (.stop h a) s = .next { s with dev := s.dev.modAx a (fun v => { v with gen := { g with ramp := some ⟨m.set, true⟩, stops := g.stops ++ [h] } }) }) ∧
  (∀ (s : State) (h : Hdr) (a : AxisId),
    let g := (s.dev.ax a).gen
    s.accepts h (.axis a .stop) → s.dev.motionRefused s.cfg a false false false = false →
    (s.dev.ax a).eng.mode = .auto → s.dev.following s.cfg a = false → g.cur = none → g.ramp = none → g.queue = [] →
    exec (.stop h a) s = .next { s with dev := s.dev.complete h stOK }) ∧
  (∀ (s : State) (h : Hdr) (a : AxisId) (set : Fin 4) (mask : BitVec 11) (vals : List Word),
    s.accepts h (.axis a (.profileChange set mask vals)) → s.dev.motionRefused s.cfg a false false false = false →
    mask.toNat = 0x400 →
    exec (.profileChange h a set mask vals) s = .next { s with dev := (s.dev.modAx a (fun v => { v with gen := { v.gen with next := v.gen.next ++ [{ set := set, mask := mask, vals := vals }] } })).complete h stOK }) ∧
  (∀ (s : State) (h : Hdr) (a : AxisId) (set : Fin 4) (mask : BitVec 11) (vals : List Word),
    let g := (s.dev.ax a).gen
    s.accepts h (.axis a (.profileChange set mask vals)) → s.dev.motionRefused s.cfg a false false false = false →
    mask.toNat ≠ 0x400 → g.next = [] → g.heldChanges = [] → g.uses set = false →
    setOk (applyMask (g.sets.get set) mask vals) = true →
    s.cfg.stepperOk a.val (applyMask (g.sets.get set) mask vals).vRidge = true →
    exec (.profileChange h a set mask vals) s = .next { s with dev := (s.dev.modAx a (fun v => { v with gen := { g with next := [{ set := set, mask := mask, vals := vals }] } })).complete h stOK })

/-- The compare unit and reference latch of an axis are armed and disarmed by their actions, which complete with OK and change
nothing else. COMPARE_SET judges at once whether its position is behind the source value (R140). A direct action command acts at once (log entry 6). -/
def Obligations.CompareAndReferenceArm : Prop :=
  (∀ (s : State) (h : Hdr) (a : AxisId) (c : Int) (neg measured passed : Bool),
    s.accepts h (.axis a (.compareSet c neg measured passed)) → s.dev.motionRefused s.cfg a false false false = false →
    (measured = false ∨ s.cfg.axKind a.val ≠ 2) →
    ∃ m : Compare, m.armed = true ∧ m.pos = c ∧ m.neg = neg ∧ m.measured = measured ∧
      (let src := if measured then (s.dev.ax a).posB * fx else (s.dev.ax a).gen.x
       m.behind = (if neg then decide (src ≤ c * fx) else decide (c * fx ≤ src)) ∧ m.fire = (m.behind && passed)) ∧
      exec (.compareSet h a c neg measured passed) s =
        .next { s with dev := (s.dev.modAx a (fun v => { v with cmp := m })).complete h stOK }) ∧
  (∀ (s : State) (h : Hdr) (a : AxisId),
    s.accepts h (.axis a .compareOff) → s.dev.motionRefused s.cfg a false false false = false →
    exec (.compareOff h a) s = .next { s with dev := (s.dev.modAx a (fun v => { v with cmp := { v.cmp with armed := false, behind := false, fire := false, isNew := false } })).complete h stOK }) ∧
  (∀ (s : State) (h : Hdr) (a : AxisId) (o : RefArmOps),
    s.accepts h (.axis a (.refArm o)) → s.dev.motionRefused s.cfg a false true true = false →
    (o.stop && s.dev.reserved s.cfg a) = false → (o.src = .index → s.cfg.axKind a.val ≠ 2 ∧ s.cfg.fbMode a.val = 1) →
    exec (.refArm h a o) s = .next { s with dev := (s.dev.modAx a (fun v => { v with refArm := some o, refLatch := none })).complete h stOK }) ∧
  (∀ (s : State) (h : Hdr) (a : AxisId),
    s.accepts h (.axis a .refOff) → s.dev.motionRefused s.cfg a false true false = false →
    exec (.refOff h a) s = .next { s with dev := (s.dev.modAx a (fun v => { v with refArm := none, refLatch := none })).complete h stOK })

/-- REF_SET at standstill shifts the frame of positions by Δ = POS − the present position: the set-point, the offset of the
measured position, a latched reference position and the previous compare value move by Δ, the look-ahead values are computed anew,
REFERENCED is set and REF_DELTA holds Δ. That a latched reference position still to be used moves with the frame is the model's
reading (log entry 40). A servo axis then reports POS. Every other axis is as before. A direct action command acts at once (log entry 6). -/
def Obligations.RefSetShiftsTheFrame : Prop :=
  ∀ (s : State) (h : Hdr) (a : AxisId) (pos : Int),
    s.accepts h (.axis a (.refSet pos)) → s.dev.motionRefused s.cfg a false true true = false →
    (s.dev.ax a).still = true → s.dev.refRest s.cfg a = true →
    Completes (.refSet h a pos) s (fun t =>
      let dl := pos - s.dev.axPos s.cfg a
      let v := s.dev.ax a
      let g := (t.dev.ax a).gen
      t.dev.ax a = { v with
        posOff := v.posOff + dl, posB := v.posB + dl, posUncertain := false, referenced := true, refDelta := dl,
        refLatch := v.refLatch.map (· + dl),
        gen := { v.gen with
          x := v.gen.x + dl * fx, xPrev := v.gen.xPrev + dl * fx, laPos := g.laPos, laSpeed := g.laSpeed, laSeg := g.laSeg,
          laLimit := g.laLimit, predOn := g.predOn },
        fol := { v.fol with base := v.fol.base + dl * fx },
        cmp := { v.cmp with prev := v.cmp.prev + dl * fx } } ∧
      (s.cfg.axKind a.val = 1 → t.dev.axPos s.cfg a = pos) ∧ (∀ b, b ≠ a → t.dev.ax b = s.dev.ax b) ∧
      t.dev.gave h stOK ∧
      t = { s with dev := { s.dev with
        axes := t.dev.axes, evt := t.dev.evt, sched := t.dev.sched, host := t.dev.host, cairn := t.dev.cairn,
        atolls := t.dev.atolls } })

/-! ### Field outputs and bus channels (R304 to R308) -/

/-- R304: OUT_SET gives a free output its command, and OUT_MASK every output whose mask bit is 1; both complete with OK, an
OVERLOAD latch stays as it is, every other output keeps its command, and nothing but the field I/O, the link side and the Atolls
changes. An action that names an output with a doorway role is refused with STATE_REFUSED and changes no output. A descriptor
whose MASK is 0 fails its operand checks. -/
def Obligations.OutputsTakeTheirCommand : Prop :=
  (∀ (s : State) (h : Hdr) (o : OutId) (lvl : Bool), s.accepts h (.outSet o lvl) → s.cfg.outRole o = false →
    Completes (.outSet h o lvl) s (fun t =>
      (t.dev.outPin o).cmd = lvl ∧ (t.dev.outPin o).overload = (s.dev.outPin o).overload ∧
      (∀ p, p ≠ o → t.dev.outPin p = s.dev.outPin p) ∧ t.dev.fio.freeCmd.getLsbD o.val = lvl ∧ t.dev.gave h stOK ∧
      t = { s with dev := { s.dev with fio := t.dev.fio, host := t.dev.host, atolls := t.dev.atolls } })) ∧
  (∀ (s : State) (h : Hdr) (mask lvl : Word), s.accepts h (.outMask mask lvl) →
    (∀ o : OutId, mask.getLsbD o.val = true → s.cfg.outRole o = false) →
    Completes (.outMask h mask lvl) s (fun t =>
      (∀ o : OutId, mask.getLsbD o.val = true → (t.dev.outPin o).cmd = lvl.getLsbD o.val) ∧
      (∀ o : OutId, mask.getLsbD o.val = false → t.dev.outPin o = s.dev.outPin o) ∧
      (∀ o : OutId, (t.dev.outPin o).overload = (s.dev.outPin o).overload) ∧ t.dev.gave h stOK ∧
      t = { s with dev := { s.dev with fio := t.dev.fio, host := t.dev.host, atolls := t.dev.atolls } })) ∧
  (∀ (s : State) (h : Hdr) (o : OutId) (mask lvl : Word) (b : Bool), s.cfg.outRole o = true → mask.getLsbD o.val = true →
    (s.accepts h (.outSet o b) → Completes (.outSet h o b) s (fun t => t.dev.gave h stState ∧
      t = { s with dev := { s.dev with host := t.dev.host, atolls := t.dev.atolls } })) ∧
    (s.accepts h (.outMask mask lvl) → Completes (.outMask h mask lvl) s (fun t => t.dev.gave h stState ∧
      t = { s with dev := { s.dev with host := t.dev.host, atolls := t.dev.atolls } }))) ∧
  (∀ (K : Memory) (fmtOn : Nat → Fmt → Bool) (d : Desc), d.opcode = 0x21 → d.op 24 4 = 0 → operandsOk K fmtOn d = false) ∧
  (∀ (d : Desc) (o : OutId), d.opcode = 0x20 → d.target = o.val →
    actOf d [] [] = some (.outSet o (d.op 24 1 == 1))) ∧
  (∀ (d : Desc), d.opcode = 0x21 →
    actOf d [] [] = some (.outMask (BitVec.ofNat 32 (d.op 24 4)) (BitVec.ofNat 32 (d.op 28 4))))

/-- BUS_TX on a channel that may transmit puts the frame behind the frames queued there, whatever its source; RX_SUPPLY puts its
buffer behind those supplied. One queue changes and nothing else. R393: in a twin pair the identifier carries the unit's bit, 0
for unit A and 1 for unit B, at the channel's place for its format, and its other bits as given; a single unit sends the frame
as it is. -/
def Obligations.BusActionsQueue : Prop :=
  (∀ (s : State) (h : Hdr) (c : ChanId) (f : CanFrame) (retry : Nat), s.accepts h (.busTx c f retry) →
    s.dev.txRefuse s.cfg c = none →
    ∃ q : TxFrame, q.hdr = h ∧ q.frame = s.cfg.withTwin s.dev c f ∧
      q.limit = (if retry = 255 then s.cfg.txRetryDef c.val else retry) ∧
      exec (.busTx h c f retry) s = .next { s with dev := s.dev.modCh c (fun v => { v with txq := v.txq ++ [q] }) }) ∧
  (∀ (K : Memory) (x : Dev) (c : ChanId) (f : CanFrame),
    let g := K.withTwin x c f
    let n := if f.ide then K.twinBitE c.val else K.twinBitB c.val
    { g with ident := f.ident } = f ∧ (x.twin.en = false → g = f) ∧
      (x.twin.en = true → n < 29 → g.ident.getLsbD n = x.twin.unitB ∧
        ∀ j, j ≠ n → g.ident.getLsbD j = f.ident.getLsbD j)) ∧
  (∀ (s : State) (h : Hdr) (c : ChanId) (buf : Buf) (len : Nat) (cookie : Word), s.accepts h (.rxSupply c buf len cookie) →
    (s.dev.ch c).bufs.length < 512 →
    exec (.rxSupply h c buf len cookie) s = .next { s with dev := s.dev.modCh c (fun v => { v with bufs := v.bufs ++ [⟨h, buf, len, cookie⟩] }) })

/-- CHAN_MODE: SLEEP waits for an idle bus, WAKE starts the wake of a sleeping channel, RECOVER takes a bus-off channel into
recovery; the latter two complete with OK at once. A direct action command acts at once (log entry 6). -/
def Obligations.ChannelModesChange : Prop :=
  (∀ (s : State) (h : Hdr) (c : ChanId), s.accepts h (.chanMode c .sleep) → (s.dev.ch c).mode ≠ .asleep →
    (s.dev.ch c).mode ≠ .off →
    exec (.chanModeSleep h c) s = .next { s with dev := s.dev.modCh c (fun v => { v with sleepReq := v.sleepReq ++ [some h] }) }) ∧
  (∀ (s : State) (h : Hdr) (c : ChanId), s.accepts h (.chanMode c .wake) → (s.dev.ch c).mode = .asleep →
    exec (.chanModeWake h c) s = .next { s with dev := (s.dev.modCh c (fun v => { v with
      mode := .waking, wakeAt := s.dev.time.cyc, wakeCause := 1, wakeIde := false, wakeId := 0 })).complete h stOK }) ∧
  (∀ (s : State) (h : Hdr) (c : ChanId), s.accepts h (.chanMode c .recover) → (s.dev.ch c).mode = .busOff →
    exec (.chanModeRecover h c) s = .next { s with dev := (s.dev.modCh c (fun v => { v with mode := .recovering })).complete h stOK })

/-- CHAN_MODE FLUSH gives back every receive buffer of its channel with CANCELLED and completes with OK; no other channel and
nothing else changes. A direct action command acts at once (log entry 6). -/
def Obligations.FlushReturnsBuffers : Prop :=
  ∀ (s : State) (h : Hdr) (c : ChanId), s.accepts h (.chanMode c .flush) →
    Completes (.chanModeFlush h c) s (fun t =>
      t.dev.ch c = { s.dev.ch c with bufs := [] } ∧ (∀ d, d ≠ c → t.dev.ch d = s.dev.ch d) ∧
      (∀ b ∈ (s.dev.ch c).bufs, t.dev.gave b.hdr stCancelled) ∧ t.dev.gave h stOK ∧
      t = { s with dev := { s.dev with chans := t.dev.chans, host := t.dev.host, atolls := t.dev.atolls } })

/-! ### The control engine (R189 to R215, R309, R310) -/

/-- LOOP_OPEN of a servo axis at standstill opens its loop and its set-point tracks the measured position; LOOP_CLOSE closes
the loop of an axis with a valid program that passes admission. Both complete with OK and no other axis's loop changes. A direct action command acts at once (log entry 6). -/
def Obligations.LoopsOpenAndClose : Prop :=
  (∀ (s : State) (h : Hdr) (a : AxisId), s.accepts h (.axis a .loopOpen) → s.cfg.axKind a.val = 1 →
    (s.dev.ax a).eng.loopClosed = true → s.dev.isSealed = true → (s.dev.ax a).still = true → s.dev.reserved s.cfg a = false →
    Completes (.loopOpen h a) s (fun t =>
      (t.dev.ax a).eng.loopClosed = false ∧ (t.dev.ax a).eng.inj = none ∧
      ((s.dev.ax a).gen.seg ≠ .track → (t.dev.ax a).gen.queue = []) ∧
      (t.dev.ax a).gen.seg = .track ∧ (∀ b, b ≠ a → t.dev.ax b = s.dev.ax b) ∧ t.dev.gave h stOK ∧
      t = { s with dev := { s.dev with
        axes := t.dev.axes, evt := t.dev.evt, sched := t.dev.sched, host := t.dev.host, cairn := t.dev.cairn,
        atolls := t.dev.atolls } })) ∧
  (∀ (s : State) (h : Hdr) (a : AxisId), s.accepts h (.axis a .loopClose) → s.cfg.axKind a.val = 1 →
    (s.dev.ax a).eng.loopClosed = false → (s.dev.ax a).eng.progValid = true → (s.dev.admitAll s.cfg (some a)).eng.admReason = 0 →
    Completes (.loopClose h a) s (fun t =>
      (t.dev.ax a).eng.loopClosed = true ∧ (∀ b, b ≠ a → (t.dev.ax b).eng.loopClosed = (s.dev.ax b).eng.loopClosed) ∧
      t.dev.gave h stOK ∧ ({ s with dev := { s.dev with eng := t.dev.eng } } : State).reacted t))

/-- COEF_LOAD of a block with its loop open stores it where its length, its CRC and its fields are right, and completes with
OK; of an axis whose loop is closed it is refused with LOOP_CLOSED and changes no axis. COEF_READ writes the block as held. A direct action command acts at once (log entry 6). -/
def Obligations.CoefficientBlocks : Prop :=
  (∀ (s : State) (h : Hdr) (a : AxisId) (len : Nat) (data : List Byte), s.accepts h (.axis a (.coefLoad len data)) →
    s.cfg.axKind a.val = 1 → (s.dev.ax a).eng.loopClosed = false → len = ((blockOf data).2.rows * (blockOf data).2.cols + 2) * 4 →
    crc16 (slice data 0 (len - 4)) = leNat (slice data (len - 4) 2) →
    blockAllowed (s.dev.ax a).eng data (blockOf data).1 (blockOf data).2 = true →
    exec (.coefLoadBlock h a len data) s = .next { s with dev := (s.dev.modAx a (fun v => { v with
      eng := v.eng.setBlock (blockOf data).1 (blockOf data).2 })).complete h stOK }) ∧
  (∀ (s : State) (h : Hdr) (a : AxisId) (len : Nat) (data : List Byte), s.accepts h (.axis a (.coefLoad len data)) →
    (s.dev.ax a).eng.loopClosed = true →
    exec (.coefLoadBlock h a len data) s = .next { s with dev := s.dev.complete h stLoopClosed }) ∧
  (∀ (s : State) (h : Hdr) (a : AxisId) (sel len : Nat) (buf : Buf) (b : Block), s.accepts h (.axis a (.coefRead sel len buf)) →
    (s.dev.ax a).eng.block sel = some b → (b.rows * b.cols + 2) * 4 ≤ len → buf.pages = [] →
    s.dev.linkOk = true →
    exec (.coefReadBlock h a sel len buf) s = .next { s with dev := ({ s.dev with host := { s.dev.host with link := s.dev.host.link ++ [.write buf.addr (blockBytes sel b)] } } : Dev).complete h stOK })

/-- COEF_LOAD of an envelope at a doorway at rest stores its 64 points for the direction it names and completes with OK;
COEF_READ of one writes it as held, two bytes a point, least significant first. A direct action command acts at once (log entry 6). -/
def Obligations.EnvelopesLoadAndRead : Prop :=
  (∀ (s : State) (h : Hdr) (d : DoorId) (closing : Bool) (ecrc : BitVec 16) (data : List Byte),
    s.accepts h (.envLoad d closing ecrc data) → (s.dev.dw d).st.rest = true → crc16 (slice data 0 128) = ecrc.toNat →
    (∀ i < 64, leNat (slice data (2 * i) 2) < 0x8000) →
    Completes (.coefLoadEnvelope h d closing ecrc data) s (fun t =>
      let pts := (List.range 64).map (fun i => leNat (slice data (2 * i) 2))
      (if closing then (t.dev.dw d).envClose = pts ∧ (t.dev.dw d).envCloseValid = true
       else (t.dev.dw d).envOpen = pts ∧ (t.dev.dw d).envOpenValid = true) ∧
      (∀ e, e ≠ d → t.dev.dw e = s.dev.dw e) ∧ t.dev.gave h stOK ∧ s.reacted t)) ∧
  (∀ (s : State) (h : Hdr) (d : DoorId) (closing : Bool) (buf : Buf), s.accepts h (.envRead d closing buf) → buf.pages = [] →
    s.dev.linkOk = true →
    exec (.coefReadEnvelope h d closing buf) s = .next { s with dev := ({ s.dev with host := { s.dev.host with link := s.dev.host.link ++ [.write buf.addr
          ((if closing then (s.dev.dw d).envClose else (s.dev.dw d).envOpen).flatMap (leBytes 2))] } } : Dev).complete h stOK })

/-- Manual mode and injection: MODE_SWITCH takes an axis that may be worked on into the mode with its commands, AUTO waits for
the hand-over, INJECT starts its generator and INJECT_STOP marks it to end. R213: MODE_SWITCH into a manual mode and MAN_SET take
the commanded values and refresh the watchdog, and MANUAL_STALE, of rank 3 or above, follows when it has run out. A direct action command acts at once (log entry 6). -/
def Obligations.ManualModeAndInjection : Prop :=
  (∀ (s : State) (h : Hdr) (a : AxisId) (force : Bool) (c0 c1 : Int), s.accepts h (.axis a (.modeManual force c0 c1)) →
    s.dev.maintRefused s.cfg a (s.dev.computes s.cfg a) = none →
    Completes (.modeSwitchManual h a force c0 c1) s (fun t =>
      let e := (t.dev.ax a).eng
      e.mode = (if force then .manualF else .manualV) ∧ e.man0 = c0 ∧ e.man1 = c1 ∧ e.manAt = s.dev.time.cyc ∧
      (t.dev.ax a).still = false ∧ (∀ b, b ≠ a → t.dev.ax b = s.dev.ax b) ∧ t.dev.gave h stOK ∧ s.reacted t)) ∧
  (∀ (s : State) (h : Hdr) (a : AxisId), s.accepts h (.axis a .modeAuto) → s.dev.loopOpen s.cfg a = false →
    (s.dev.ax a).eng.mode ≠ .auto →
    exec (.modeSwitchAuto h a) s = .next { s with dev := s.dev.modAx a (fun v => { v with
      eng := { v.eng with autoReq := v.eng.autoReq ++ [h] } }) }) ∧
  (∀ (s : State) (h : Hdr) (a : AxisId) (force : Bool) (c0 c1 : Int), s.accepts h (.axis a (.manSet force c0 c1)) →
    (s.dev.ax a).eng.mode = (if force then .manualF else .manualV) →
    exec (.manSet h a force c0 c1) s = .next { s with dev := (s.dev.modAx a (fun v => { v with
      eng := { v.eng with man0 := c0, man1 := c1, manAt := s.dev.time.cyc } })).complete h stOK }) ∧
  (∀ (s : State) (a : AxisId),
    let y := s.dev.untilCyc s.cfg ((s.dev.ax a).eng.manAt + 200000 * s.cfg.manWdog a.val)
    s.running → (s.dev.ax a).eng.mode ≠ .auto → (y.ax a).eng.mode ≠ .auto → (y.ax a).eng.forced = false →
    (y.ax a).eng.manAt + 200000 * s.cfg.manWdog a.val ≤ y.time.cyc →
    Completes (.manualStale a) s (fun t => t.dev.isOpen 0x0202 (objAxis a.val) = true ∧ 3 ≤ t.dev.axisRank t.cfg a ∧
      ((t.dev.ax a).eng.mode = .auto ∨ (t.dev.ax a).eng.forced = true) ∧ ({ s with dev := y } : State).reacted t)) ∧
  (∀ (s : State) (h : Hdr) (a : AxisId) (o : InjectOps), s.accepts h (.axis a (.inject o)) →
    s.dev.maintRefused s.cfg a (s.dev.computes s.cfg a) = none → (o.point = .ref → (s.dev.ax a).eng.mode = .auto) →
    (o.point = .out → o.row < (s.dev.ax a).eng.shape.m) → (o.point = .meas → o.row < (s.dev.ax a).eng.shape.q) →
    Completes (.inject h a o) s (fun t =>
      (t.dev.ax a).eng.inj = some (injStart o h) ∧ (t.dev.ax a).eng.injCount = 0 ∧
      (∀ b, b ≠ a → t.dev.ax b = s.dev.ax b) ∧ s.reacted t)) ∧
  (∀ (s : State) (h : Hdr) (a : AxisId), s.accepts h (.axis a .injectStop) →
    exec (.injectStop h a) s = .next { s with dev := (s.dev.modAx a (fun v => { v with
      eng := { v.eng with inj := v.eng.inj.map (fun j => { j with stop := true }) } })).complete h stOK })

/-- CAPTURE_START runs its capture from the launch on, with an empty record stage; CAPTURE_STOP ends the capture that runs, whose
CANCELLED outcome then waits behind its staged records, and completes with OK. No other capture unit changes. A direct action command acts at once (log entry 6). -/
def Obligations.CapturesStartAndStop : Prop :=
  (∀ (s : State) (h : Hdr) (u : Fin 4) (o : CapOps), s.accepts h (.captureStart u o) → s.cfg.atlType o.atoll.val = 3 →
    Completes (.captureStart h u o) s (fun t =>
      (t.dev.capu u).ops = some (o, h) ∧ (t.dev.capu u).start = h.tt ∧ (t.dev.capu u).seq = 0 ∧ (t.dev.capu u).staged = [] ∧
      (∀ v, v ≠ u → t.dev.capu v = s.dev.capu v) ∧
      ({ s with dev := { s.dev with caps := t.dev.caps } } : State).reacted t)) ∧
  (∀ (s : State) (h : Hdr) (u : Fin 4), s.accepts h (.captureStop u) →
    Completes (.captureStop h u) s (fun t =>
      (t.dev.capu u).ops = none ∧
      (∀ o, (s.dev.capu u).ops = some o →
        (∃ staged, (t.dev.capu u).tails.getLast? = some ⟨o.1.atoll, staged, o.2, stCancelled⟩) ∧
        (t.dev.capu u).tails.dropLast.map (fun c => (c.hdr, c.code)) = (s.dev.capu u).tails.map (fun c => (c.hdr, c.code)) ∧
        ((s.dev.capu u).held < 4096 → (t.dev.capu u).tails.dropLast = (s.dev.capu u).tails)) ∧
      ((s.dev.capu u).ops = none → (t.dev.capu u).tails = (s.dev.capu u).tails) ∧ t.dev.gave h stOK ∧ (∀ v, v ≠ u → t.dev.capu v = s.dev.capu v) ∧
      ({ s with dev := { s.dev with caps := t.dev.caps } } : State).reacted t))

/-! ### Recorder, train time, scheduler and twin actions (R311 to R316) -/

/-- CAIRN_MARK on a recorder that takes records queues a HOST_MARK record of the Atoll with the host's eight bytes, and
completes only with that record: nothing else changes; while the Cairn is FAILED it completes with LOG_FAILED. CAIRN_EXPORT writes
each record it selects at its place in the buffer, 32 bytes each from byte 32 on, and the header last, at the buffer's address; it
completes with OK, or with LOG_FAILED where the Cairn is FAILED and a record is left out; only the link side and the Atolls
change. A direct action command acts at once (log entry 6). -/
def Obligations.MarksAndExports : Prop :=
  (∀ (s : State) (h : Hdr) (n : AtollId) (payload : List Byte), s.accepts h (.cairnMark payload) → h.src = .host n →
    s.dev.cairn.st ≠ .failed → s.dev.cairn.pf = false → s.dev.cairn.queue.length < 512 →
    exec (.cairnMark h payload) s = .next { s with dev := { s.dev with cairn := { s.dev.cairn with
      queue := enqueueRec ⟨0x0050, 0xA000 + n.val, padTo 8 payload, s.dev.time.cyc, some h⟩ s.dev.cairn.queue } } }) ∧
  (∀ (s : State) (h : Hdr) (payload : List Byte), s.accepts h (.cairnMark payload) → s.dev.cairn.st = .failed →
    (∀ r ∈ s.dev.cairn.queue, r.hdr ≠ some h) →
    Completes (.cairnMark h payload) s (fun t => t.dev.gave h stLogFailed ∧
      t.dev.cairn = { s.dev.cairn with unwritten := satInc 32 s.dev.cairn.unwritten } ∧
      t = { s with dev := { s.dev with cairn := t.dev.cairn, host := t.dev.host, atolls := t.dev.atolls } })) ∧
  (∀ (s : State) (h : Hdr) (o : ExportOps), s.accepts h (.cairnExport o) →
    let sel := s.dev.cairn.select o.range o.count
    let keep := s.dev.cairn.kept sel
    let code := if keep.length < sel.length then stLogFailed else stOK
    exec (.cairnExport h o) s = .next { s with
      dev := ((s.dev.over (keep.zip (List.range keep.length)) (fun e z =>
        z.postBuf o.buf (32 + 32 * e.2) (s.dev.cairn.exported e.1))).postBuf o.buf 0 (s.dev.exportHeader o keep)).complete h code } ∧
    (s.dev.cairn.st ≠ .failed → code = stOK) ∧
    (o.buf.pages = [] → s.dev.linkOk = true → Completes (.cairnExport h o) s (fun t =>
      t.dev.host.link = s.dev.host.link ++
        (keep.zip (List.range keep.length)).map (fun e => .write (o.buf.addr + (32 + 32 * e.2)) (s.dev.cairn.exported e.1)) ++
        [.write o.buf.addr (s.dev.exportHeader o keep)] ∧
      t.dev.gave h code ∧ t = { s with dev := { s.dev with host := t.dev.host, atolls := t.dev.atolls } })))

/-- A raise of a source routed to a vector sets the source's bit of EVT_PEND and adds 1 to its saturating counter (R452); the vector
is signalled only where the bit was 0: by a message, or by its pending bit while MSI-X is off, the function or the vector is masked or
no request may be issued (R266, R270, R293; the model's reading, log entry 126). The message comes behind all others, but before those
of higher-numbered sources raised in the same cycle (R450). No other source's bit or counter changes. -/
def Obligations.RaisesSignalOnce : Prop :=
  (∀ (K : Memory) (x : Dev) (e : Fin 256) (obj cond detail : Nat) (v : Fin 64), K.evtVec e.val = some v →
    let y := x.event K e.val obj cond detail
    y.evt.pend.getLsbD e.val = true ∧ (∀ j, j ≠ e.val → y.evt.pend.getLsbD j = x.evt.pend.getLsbD j) ∧
    y.evt.cnt.get e = satInc 16 (x.evt.cnt.get e) ∧ (∀ j, j ≠ e → y.evt.cnt.get j = x.evt.cnt.get j) ∧
    (x.evt.pend.getLsbD e.val = true → y.host = x.host) ∧
    (x.evt.pend.getLsbD e.val = false → y.host = (x.signal e.val v).host)) ∧
  (∀ (x : Dev) (e : Nat) (v : Fin 64),
    let masked := (NMap.get bar4Reset x.host.bar4 (16 * v.val + 12)).getLsbD 0 || !x.linkOk || !x.host.pcie.msixEn ||
      x.host.pcie.msixMask
    let n := x.signalAt e
    (masked = true → (x.signal e v).host.msixPend.getLsbD v.val = true ∧ (x.signal e v).host.link = x.host.link) ∧
    (masked = false → (x.signal e v).host = { x.host with link := x.host.link.take n ++ .msix v :: x.host.link.drop n } ∧
      (∀ r ∈ x.evt.signals, r.cyc = x.time.cyc → e < r.src → n ≤ r.place) ∧
      ((∀ r ∈ x.evt.signals, r.cyc = x.time.cyc → r.src ≤ e) → n = x.host.link.length)))

/-- SCHED_MARK raises its source of the event matrix with condition 1 of the device and completes with OK. A direct action command acts at once (log entry 6). -/
def Obligations.SchedMarkRaisesItsEvent : Prop :=
  ∀ (s : State) (h : Hdr), s.accepts h .schedMark →
    Completes (.schedMark h) s (fun t =>
      t.dev.evt.cause.get 0xE4 = BitVec.ofNat 32 (objDevice * 65536 + 1) ∧ t.dev.gave h stOK ∧
      ((s.cfg.evtVec 0xE4).isSome → t.dev.evt.pend.getLsbD 0xE4 = true) ∧
      t = { s with dev := { s.dev with
        evt := t.dev.evt, sched := t.dev.sched, host := t.dev.host, cairn := t.dev.cairn, atolls := t.dev.atolls } })

/-- TT_SET with no follower source waits for its instant, in the place of a set that waits (the model's reading, log entry 17); with a
follower source configured it is refused with STATE_REFUSED, and a register write that asks for a set only sets SET_REFUSED (R33).
TM_CONTROL starts or stops its master channel (R313) and TAKEBACK_INHIBIT sets its bit (R316), both completing with OK. A direct action
command acts at once (log entry 6). -/
def Obligations.TimeAndInhibitActions : Prop :=
  (∀ (s : State) (h : Hdr) (v : BitVec 64), s.accepts h (.ttSet v) → s.cfg.followerConfigured = false →
    exec (.ttSet h v) s = .next { s with dev := s.dev.modTime (fun t => { t with
      setReq := some ⟨v.toNat, (t.setReq.map SetReq.hdrs).getD [] ++ [h]⟩ }) }) ∧
  (∀ (s : State) (h : Hdr) (c : ChanId) (run : Bool), s.accepts h (.tmControl c run) → s.cfg.timeRole c.val = 1 →
    exec (.tmControl h c run) s = .next { s with dev := (s.dev.modCh c (fun v => { v with run := run })).complete h stOK }) ∧
  (∀ (s : State) (h : Hdr) (b : Bool), s.accepts h (.takebackInhibit b) →
    exec (.takebackInhibit h b) s = .next { s with dev := (s.dev.modTwin (fun t => { t with inhibit := b })).complete h stOK }) ∧
  (∀ (s : State) (h : Hdr) (v : BitVec 64), s.accepts h (.ttSet v) → s.cfg.followerConfigured = true →
    exec (.ttSet h v) s = .next { s with dev := s.dev.complete h stState }) ∧
  (∀ (s : State) (r : Requester), s.running → s.cfg.followerConfigured = true →
    exec (.ttSetGo r) s = .next { s with dev := s.dev.modTime (fun t => { t with setRefused := true }) })

/-- SCHED_CANCEL of a pending action takes it out of the scheduler with CANCELLED and completes with OK; every other pending
action stays, in order. In the release cycle of its target, whose launch time has come, it comes too late and completes with
CANCEL_LATE. A direct action command acts at once (log entry 6). -/
def Obligations.CancelRemovesPending : Prop :=
  (∀ (s : State) (h : Hdr) (n m : AtollId) (seq : Word) (l : Live) (p : Pend), s.accepts h (.schedCancel n seq) →
    h.src = .host m → s.cfg.atlType n.val = 1 → s.dev.liveOf n seq = some l → l.released = false →
    s.dev.sched.pend.find? (fun q => decide (q.hdr.uid = l.uid)) = some p → s.dev.dueTarget h n seq = none →
    Completes (.schedCancel h n seq) s (fun t =>
      t.dev.sched = { s.dev.sched with pend := s.dev.sched.pend.filter (fun q => decide (q.hdr.uid ≠ l.uid)) } ∧
      t.dev.gave p.hdr stCancelled ∧ t.dev.gave h stOK ∧
      t = { s with dev := { s.dev with sched := t.dev.sched, host := t.dev.host, atolls := t.dev.atolls } })) ∧
  (∀ (s : State) (h : Hdr) (n m : AtollId) (seq : Word) (l : Live) (p : Pend), s.accepts h (.schedCancel n seq) →
    h.src = .host m → s.cfg.atlType n.val = 1 → s.dev.liveOf n seq = some l → p ∈ s.dev.sched.pend → p.hdr.uid = l.uid → s.dev.isDue p = true →
    Completes (.schedCancel h n seq) s (fun t => t.dev.gave h stCancelLate ∧ t.cfg = s.cfg ∧ t.pending = s.pending))

/-- TWIN_YIELD of the active unit of a pair with the Isthmus up, and no exchange under way, offers the Summit with the next
tag and waits for the exchange. A direct action command acts at once (log entry 6). -/
def Obligations.YieldOffersTheSummit : Prop :=
  ∀ (s : State) (h : Hdr), s.accepts h .twinYield → s.dev.twin.en = true → s.dev.holding = true → s.dev.twin.isUp = true →
    s.dev.twin.hand = .none →
    Completes (.twinYield h) s (fun t =>
      t.dev.twin.hand = .offered (s.dev.twin.handTag + 1) [h] ∧ t.dev.twin.handTag = s.dev.twin.handTag + 1 ∧
      t = { s with dev := { s.dev with twin := t.dev.twin } })

/-! ### Atolls (R271 to R298, R321 to R333) -/

/-- A Beacon write within the Atoll's range is its new Beacon; one beyond its size sets BEACON_RANGE and leaves the Beacon as it
was. No other Atoll changes. A context word written within its ranges, while the device is unsealed and the Atoll holds nothing,
is what the context then reads; every other register of set-up is as before. -/
def Obligations.BeaconAndContextWrites : Prop :=
  (∀ (s : State) (n : AtollId) (v : BitVec 16), s.running → s.cfg.atlType n.val ≠ 0 →
    let cnt := if s.cfg.isCommand n then (v - (s.dev.atl n).dev).toNat else ((s.dev.atl n).dev - v).toNat
    Completes (.beaconWrite .host n v) s (fun t =>
      (cnt ≤ s.cfg.atlSize n.val → (t.dev.atl n).beacon = v ∧ (t.dev.atl n).dev = (s.dev.atl n).dev ∧
        t = { s with dev := { s.dev with atolls := t.dev.atolls } }) ∧
      (s.cfg.atlSize n.val < cnt → (t.dev.atl n).beaconRange = true ∧ (t.dev.atl n).beacon = (s.dev.atl n).beacon ∧
        t = { s with dev := { s.dev with atolls := t.dev.atolls, host := t.dev.host } }) ∧
      ∀ m, m ≠ n → t.dev.atl m = s.dev.atl m)) ∧
  (∀ (s : State) (r : Requester) (n : AtollId) (w : Fin 8) (v : Word), s.running → s.proper → s.dev.isSealed = false →
    s.dev.su.sealing = false → s.dev.ctxBusy s.cfg n = false →
    fieldsOk (fieldsAt (0x2000 + 32 * n.val + 4 * w.val)) v = true →
    fieldsAt (0x2000 + 32 * n.val + 4 * w.val) ≠ [] →
    Completes (.atollContextWrite r n w v) s (fun t =>
      t.cfg.word (0x2000 + 32 * n.val + 4 * w.val) = storedWord (0x2000 + 32 * n.val + 4 * w.val) v ∧
      (∀ k, k ≠ 0x2000 + 32 * n.val + 4 * w.val → t.cfg.word k = s.cfg.word k) ∧
      t = { s with cfg := t.cfg, dev := { s.dev with atolls := t.dev.atolls, host := t.dev.host } }))

/-- A native descriptor that stands alone at the Atoll the engine serves and passes every check enters the launch scheduler with
its action, its sequence number and its launch time, and DEV_IDX moves past it. The same for a version-1 descriptor whose slot
and buffers translate. -/
def Obligations.DescriptorsAreAccepted : Prop :=
  (∀ (s : State) (n : AtollId) (mem : HostMem) (b : List Byte) (a : Act) (rd : List Byte), s.running →
    s.cfg.atlType n.val = 1 → s.dev.chosen s.cfg mem = some n →
    s.dev.members s.cfg mem n (min 16 (s.dev.availCount n)) 0 = [some b] →
    s.dev.checkNative s.cfg mem (some b) = .accept a rd → s.dev.cqRoom s.cfg n 1 = true → s.dev.hostRoom 1 = true →
    Completes (.descriptorFetch n mem) s (fun t =>
      let d := Desc.ofBytes b
      (∃ p ∈ t.dev.sched.pend, p.act = a ∧ p.hdr.src = .host n ∧ p.hdr.seq = BitVec.ofNat 32 d.seq ∧ p.held = d.isHeld ∧
        p.launch = (if d.flag 0 then d.launch else s.dev.tt)) ∧
      t.dev.sched.pend.length = s.dev.sched.pend.length + 1 ∧
      (t.dev.atl n).dev = (s.dev.atl n).dev + 1 ∧
      s.reacted t)) ∧
  (∀ (s : State) (n : AtollId) (mem : HostMem) (slot : Nat) (y z : Dev) (a : Act) (rd : List Byte), s.running →
    s.cfg.atlType n.val = 4 → (∀ m, (s.dev.atl m).chainCancel = false) → s.dev.chosen s.cfg mem = some n →
    s.dev.walk s.cfg mem (s.dev.slotAddr s.cfg n 0) true = (.inl slot, y) →
    y.checkV1 s.cfg mem n (mem.read slot 32) = (.accept a rd, z) → z.hostRoom 1 = true →
    Completes (.v1DescriptorFetch n mem) s (fun t =>
      let d := (DescV1.ofBytes ((mem.read slot 32).getD [])).native
      (∃ p ∈ t.dev.sched.pend, p.act = a ∧ p.hdr.src = .host n ∧ p.hdr.seq = BitVec.ofNat 32 d.seq) ∧
      t.dev.sched.pend.length = s.dev.sched.pend.length + 1 ∧
      (t.dev.atl n).dev = (s.dev.atl n).dev + 1 ∧
      s.reacted t))

/-- The one action that is due leaves the scheduler with its actual launch time. A doorway or axis action waits for its boundary, an
output takes its command and the action completes with OK, and a frame joins its channel's transmit queue. An action launched at or
after its deadline is late: LAUNCH_LATE is raised on its object, here at the default rank, and the action is launched all the same
(R49). -/
def Obligations.DueActionsAreReleased : Prop :=
  ∀ (s : State) (p : Pend), s.running → s.dev.twin.hand = .none → s.dev.twin.wdogNext = none → s.dev.sched.pend = [p] →
    p.held = false → p.launch ≤ s.dev.tt → s.dev.unitRefuse p.hdr p.act = none →
    let late := decide (p.deadline ≤ s.dev.tt)
    let h : Hdr := { p.hdr with tt := s.dev.tt, late := late }
    (late = true → s.cfg.fltRank 0x0002 = 2) →
    (((∃ d c, p.act = .door d c) ∨ (∃ a y, p.act = .axis a y)) →
      Completes .actionRelease s (fun t =>
        t.dev.sched.pend = [] ∧ t.dev.sched.launched = s.dev.sched.launched ++ [⟨h, p.act⟩] ∧
        (late = true → t.dev.raised 0xF0 (lateObject h p.act) 0x0002) ∧
        ({ s with dev := { s.dev with time := t.dev.time } } : State).reacted t)) ∧
    (∀ (o : OutId) (lvl : Bool), p.act = .outSet o lvl → s.cfg.outRole o = false →
      Completes .actionRelease s (fun t =>
        t.dev.sched.pend = [] ∧ (t.dev.outPin o).cmd = lvl ∧ (∀ q, q ≠ o → t.dev.outPin q = s.dev.outPin q) ∧ t.dev.gave h stOK ∧
        (late = true → t.dev.raised 0xF0 (lateObject h p.act) 0x0002) ∧
        ({ s with dev := { s.dev with time := t.dev.time } } : State).reacted t)) ∧
    (∀ (c : ChanId) (f : CanFrame) (retry : Nat), p.act = .busTx c f retry → Src.isHost p.hdr.src = true →
      s.dev.txRefuse s.cfg c = none →
      Completes .actionRelease s (fun t =>
        t.dev.sched.pend = [] ∧
        (∃ q : TxFrame, q.hdr = h ∧ q.frame = s.cfg.withTwin s.dev c f ∧ q.deadline = p.deadline ∧
          q.limit = (if retry = 255 then s.cfg.txRetryDef c.val else retry) ∧
          (t.dev.ch c).txq = (s.dev.ch c).txq ++ [q]) ∧
        (∀ d, d ≠ c → t.dev.ch d = s.dev.ch d) ∧ (late = true → t.dev.raised 0xF0 (lateObject h p.act) 0x0002) ∧
        ({ s with dev := { s.dev with time := t.dev.time, chans := t.dev.chans } } : State).reacted t))

/-- COMPLETION_WRITE writes the oldest outcome whose completion Atoll has room as one 16-byte entry at its index, where no write
of a higher priority is ready (R281); the outcome leaves and the index moves on by one. Behind the entry comes at most the message of
the Atoll's vector, and that where the entry asks for it or completes the moderation count. WRITE_BACK writes the index word that is
due. At the end of the fetch deadline a descriptor that is not fetched is marked late once, and at the end of the moderation time the
unannounced entries are announced by the message of the Atoll's vector, or with its index word where one is due. Such a row acts when commanded, at the earliest instant its rule allows (log entries 3, 4). -/
def Obligations.CompletionsAndDeadlines : Prop :=
  (∀ (s : State) (e : Compl) (c : AtollId) (rest : List Compl), s.running → s.dev.host.outcomes = e :: rest →
    s.cfg.cqOf e.atoll = some c → s.dev.entryRoom s.cfg c = true → s.dev.writeTurn s.cfg c = true →
    Completes .completionWrite s (fun t =>
      t.dev.host.outcomes = rest ∧ (t.dev.atl c).dev = (s.dev.atl c).dev + 1 ∧
      (∃ more, t.dev.host.link = s.dev.host.link ++
        .write (s.cfg.atlAddr c.val + 16 * ((s.dev.atl c).dev.toNat % s.cfg.atlSize c.val))
          (complBytes e.seq e.atoll.val e.status e.late e.cancelLate e.notFinal e.tt) :: more ∧ s.cfg.signalOf c more ∧
        (∀ v : Fin 64, v.val = s.cfg.atlVec c.val → s.dev.msixOpen v = true → (s.dev.atl c).wbDue = false → s.cfg.atlWb c.val = 0 →
          (e.irq = true ∨ s.cfg.atlModCnt c.val ≤ (s.dev.atl c).unann + 1) → more = [.msix v])) ∧
      (∀ m, m ≠ c → t.dev.atl m = s.dev.atl m) ∧
      t = { s with dev := { s.dev with atolls := t.dev.atolls, host := t.dev.host } })) ∧
  (∀ (s : State) (n : AtollId), s.running → (s.dev.atl n).wbDue = true → (s.dev.atl n).irqDue = false → s.dev.linkOk = true →
    s.dev.writeTurn s.cfg n = true →
    let a := s.dev.atl n
    exec (.writeBack n) s = .next { s with dev := ((s.dev.modAtl n (fun a => { a with wbDue := false, irqDue := false })).post (s.cfg.atlWb n.val)
        (leBytes 4 (a.dev.toNat + a.st.code * 65536 + a.reason.code * 16777216))) }) ∧
  (∀ (s : State) (n : AtollId) (k : Nat) (mem : HostMem) (c seq : Nat), s.running → s.calm →
    s.dev.fetchFrom s.cfg mem n k = some (c, seq) → s.cfg.isCommand n = true →
    (s.dev.atl n).fetchLate.contains ((s.dev.atl n).dev + BitVec.ofNat 16 k) = false →
    Completes (.fetchLate n mem k) s (fun t =>
      (t.dev.atl n).fetchLate = (s.dev.atl n).fetchLate ++ [(s.dev.atl n).dev + BitVec.ofNat 16 k] ∧ c + 200 * s.cfg.hostFetchDl ≤ t.dev.time.cyc ∧
      (∀ m, m ≠ n → t.dev.atl m = s.dev.atl m) ∧ ({ s with dev := { s.dev with time := t.dev.time } } : State).reacted t)) ∧
  (∀ (s : State) (n : AtollId), s.running → s.calm → s.cfg.isWritten n = true → (s.dev.atl n).unann ≠ 0 →
    Completes (.moderationTimeout n) s (fun t =>
      (t.dev.atl n).unann = 0 ∧ (s.dev.atl n).unannAt + 200 * s.cfg.atlModTime n.val ≤ t.dev.time.cyc ∧
      (∀ v : Fin 64, v.val = s.cfg.atlVec n.val → (s.dev.atl n).wbDue = false → s.dev.msixOpen v = true →
        t.dev.host.link = s.dev.host.link ++ [.msix v]) ∧
      ((s.dev.atl n).wbDue = true → (t.dev.atl n).irqDue = true) ∧
      (∀ m, m ≠ n → t.dev.atl m = s.dev.atl m) ∧ ({ s with dev := { s.dev with time := t.dev.time } } : State).reacted t))

/-- V1_CHAIN_CANCEL of an Atoll with no pre-empted chain has no effect (R333); one that comes while no memory request may be issued
waits (the model's reading, log entry 159), and one whose ring holds no further member ends the chain (log entry 66). Where the rest of
the chain stands in the ring, each slot translating, readable and owned by the device, every member completes with PREEMPTED in ring
order and in this cycle, each has its owner word given back, DEV_IDX passes the end of the chain and the chain is over (R333). TU_INVAL
empties both caches of the translation unit, and nothing else changes. -/
def Obligations.ChainCancelAndInvalidate : Prop :=
  (∀ (s : State) (r : Requester) (n : AtollId) (mem : HostMem), s.running →
    (s.cfg.atlType n.val ≠ 4 ∨ (s.dev.atl n).inChain = false ∨ (s.dev.atl n).preempted = false) →
    exec (.v1ChainCancel r n mem) s = .next s) ∧
  (∀ (s : State) (r : Requester), s.running →
    exec (.tuInval r) s = .next { s with dev := s.dev.modHost (fun h => { h with tuL1 := [], tuL2 := [] }) }) ∧
  (∀ (s : State) (r : Requester) (n : AtollId) (mem : HostMem), s.running → s.cfg.atlType n.val = 4 →
    (s.dev.atl n).inChain = true → (s.dev.atl n).preempted = true → s.dev.linkOk = false →
    exec (.v1ChainCancel r n mem) s = .next { s with dev := s.dev.modAtl n (fun a => { a with chainCancel := true }) }) ∧
  (∀ (s : State) (r : Requester) (n : AtollId) (mem : HostMem), s.running → s.cfg.atlType n.val = 4 →
    (s.dev.atl n).inChain = true → (s.dev.atl n).preempted = true → s.dev.linkOk = true → s.dev.availCount n = 0 →
    Completes (.v1ChainCancel r n mem) s (fun t =>
      (t.dev.atl n).inChain = false ∧ (t.dev.atl n).preempted = false ∧ (t.dev.atl n).chainCancel = false ∧
      (∀ m, m ≠ n → t.dev.atl m = s.dev.atl m) ∧ s.reacted t)) ∧
  (∀ (s : State) (r : Requester) (n : AtollId) (mem : HostMem) (l : List (Nat × List Byte)), s.running →
    s.cfg.atlType n.val = 4 → (s.dev.atl n).inChain = true → (s.dev.atl n).preempted = true → s.dev.linkOk = true →
    s.dev.restOfChain s.cfg n mem l →
    Completes (.v1ChainCancel r n mem) s (fun t =>
      (l.map (fun e => (n, BitVec.ofNat 32 (DescV1.ofBytes e.2).seq, stPreempted, s.dev.time.cyc))).Sublist
        (t.dev.host.outcomes.map (fun c => (c.atoll, c.seq, c.status, c.cyc))) ∧
      s.dev.host.outcomes.Sublist t.dev.host.outcomes ∧
      t.dev.host.outcomes.length = s.dev.host.outcomes.length + l.length ∧
      t.dev.host.link = s.dev.host.link ++
        l.map (fun e => .write (e.1 + 28) (slice e.2 28 3 ++ [e.2.getD 31 0 &&& 0x7F])) ∧
      (t.dev.atl n).dev = (s.dev.atl n).dev + BitVec.ofNat 16 l.length ∧
      (t.dev.atl n).inChain = false ∧ (t.dev.atl n).preempted = false ∧ (t.dev.atl n).chainCancel = false ∧
      (∀ m, m ≠ n → t.dev.atl m = s.dev.atl m) ∧ s.reacted t))

/-! ### The link (R8, R267 to R270) -/

/-- Loss of the host always completes: Bus Master Enable is off and every Atoll in use halts with LINK_DOWN and both indices 0 (R269);
at every loss, as the model reads it, the configuration space is at its reset values and the writes that waited wait on (log entry 65),
and the MSI-X table is at its reset values (log entry 126). Setting Bus Master Enable always completes too: the link is up, and on it
come, behind what it carried, the writes that waited, all and in their order (R270), then interrupt messages alone; an Atoll whose
resumption waited is no longer waiting, every other Atoll is as it was, and nothing else of the unit changes. Clearing it changes that
bit alone. -/
def Obligations.HostLossHaltsAtolls : Prop :=
  (∀ (s : State) (c : LostCause), s.running →
    Completes (.hostLost c) s (fun t =>
      t.dev.host.lost = true ∧ t.dev.host.bme = false ∧ t.dev.host.pcie = {} ∧ t.dev.host.bar4 = [] ∧
      t.dev.host.held = s.dev.host.held ∧
      (∀ n, s.cfg.atlType n.val ≠ 0 → (t.dev.atl n).st = .halted ∧ (t.dev.atl n).reason = .linkDown ∧
        (t.dev.atl n).beacon = 0 ∧ (t.dev.atl n).dev = 0) ∧
      ({ s with dev := { s.dev with caps := t.dev.caps } } : State).reacted t)) ∧
  (∀ (s : State), s.running →
    Completes (.busMasterEnable true) s (fun t =>
      (∃ more, t.dev.host.link = s.dev.host.link ++ s.dev.host.held ++ more ∧ ∀ m ∈ more, ∃ v, m = .msix v) ∧
      (∀ n, (t.dev.atl n).resume = false ∧ ((s.dev.atl n).resume = false → t.dev.atl n = s.dev.atl n)) ∧
      t = { s with dev := { s.dev with
        atolls := t.dev.atolls
        host := { s.dev.host with
          bme := true, lost := false, held := [], link := t.dev.host.link, msixPend := t.dev.host.msixPend } } })) ∧
  (∀ (s : State), s.running →
    exec (.busMasterEnable false) s = .next { s with dev := s.dev.modHost (fun h => { h with bme := false }) })

/-- R267: a BAR0 access of another size or alignment is counted, a write is discarded and a read returns 0; offsets from 0xC000
read 0 and ignore writes. A change of the reference clock is recorded. -/
def Obligations.BadAccessesAreCounted : Prop :=
  (∀ (s : State) (r : Requester), s.running →
    exec (.barAccessErr false r) s = .next { s with dev := s.dev.barError }) ∧
  (∀ (s : State) (r : Requester), s.running →
    exec (.barAccessErr true r) s = .next { s with dev := (s.dev.modReq r (fun q => { q with rdata := [0] })).barError }) ∧
  (∀ (s : State) (r : Requester) (off : BitVec 16) (v : Word), s.running → off.toNat % 4 ≠ 0 →
    exec (.registerWrite r .bar0 off v) s = .next { s with dev := s.dev.barError } ∧
    exec (.loRegisterRead r off) s = .next { s with dev := (s.dev.modReq r (fun q => { q with rdata := [0] })).barError }) ∧
  (∀ (s : State) (r : Requester) (off : BitVec 16) (v : Word), s.running → off.toNat % 4 = 0 → 0xC000 ≤ off.toNat →
    exec (.registerWrite r .bar0 off v) s =
      .next { s with dev := match r with
        | .host => s.dev
        | .mgt => s.dev.mgtDone false false true } ∧
    exec (.loRegisterRead r off) s = .next { s with dev := s.dev.modReq r (fun q => { q with rdata := [0] }) }) ∧
  (∀ (s : State), s.dev.barError.host.barErr = satInc 16 s.dev.host.barErr ∧
    s.dev.barError = { s.dev with host := s.dev.barError.host }) ∧
  (∀ (s : State) (present : Bool), s.running →
    exec (.pcieReferenceClockChange present) s = .next { s with dev := s.dev.modHost (fun h => { h with hostRef := present }) })

/-! ### Doorways (R61 to R90, R106 to R109, R301) -/

/-- A doorway command in a frame that brings no transition of its own does what its row says: OPEN unlocks a LOCKED_CLOSED
doorway whose gate is open and restarts the dwell of an OPENED one, CLOSE of an OPENED doorway starts the warning and a train
CLOSE clears HOLD_OPEN and BTN_ENABLED, HOLD_OPEN and BUTTONS are stored, and FAULT_RESET leaves SEQ_FAULT once its cause is
cleared. No other doorway changes its state. A direct action command acts at once (log entry 6). -/
def Obligations.DoorwayCommandsAct : Prop :=
  (∀ (s : State) (h : Hdr) (d : DoorId), s.accepts h (.door d .opening) → s.dev.doorQuiet s.cfg d →
    (s.dev.dw d).st = .lockedClosed → (s.dev.dw d).gate = true →
    Completes (.opening h d) s (fun t => (t.dev.dw d).st = .unlocking ∧ t.dev.gave h stOK ∧
      (∀ e, e ≠ d → (t.dev.dw e).st = (s.dev.dw e).st) ∧
      ({ s with dev := { s.dev with gate := t.dev.gate, parts := t.dev.parts } } : State).reacted t)) ∧
  (∀ (s : State) (h : Hdr) (d : DoorId), s.accepts h (.door d .opening) → s.dev.doorQuiet s.cfg d → (s.dev.dw d).st = .opened →
    Completes (.opening h d) s (fun t => (t.dev.dw d).st = .opened ∧ (t.dev.dw d).timer = s.dev.time.frames ∧ t.dev.gave h stOK ∧
      (∀ e, e ≠ d → (t.dev.dw e).st = (s.dev.dw e).st) ∧
      ({ s with dev := { s.dev with gate := t.dev.gate, parts := t.dev.parts } } : State).reacted t)) ∧
  (∀ (s : State) (h : Hdr) (d : DoorId), s.accepts h (.door d .close) → s.dev.doorQuiet s.cfg d → (s.dev.dw d).st = .opened →
    Completes (.close h d) s (fun t => (t.dev.dw d).st = .closeWarning ∧ t.dev.gave h stOK ∧
      (Src.fromTrain h.src = true → (t.dev.dw d).hold = false ∧ (t.dev.dw d).btn = false) ∧
      (∀ e, e ≠ d → (t.dev.dw e).st = (s.dev.dw e).st) ∧
      ({ s with dev := { s.dev with gate := t.dev.gate, parts := t.dev.parts } } : State).reacted t)) ∧
  (∀ (s : State) (h : Hdr) (d : DoorId) (b : Bool), s.accepts h (.door d (.holdOpen b)) → s.dev.doorQuiet s.cfg d →
    (s.dev.dw d).st ≠ .isolated →
    Completes (.holdOpen h d b) s (fun t => (t.dev.dw d).hold = b ∧ t.dev.gave h stOK ∧
      (∀ e, e ≠ d → (t.dev.dw e).st = (s.dev.dw e).st) ∧
      ({ s with dev := { s.dev with gate := t.dev.gate, parts := t.dev.parts } } : State).reacted t)) ∧
  (∀ (s : State) (h : Hdr) (d : DoorId) (b : Bool), s.accepts h (.door d (.buttons b)) → s.dev.doorQuiet s.cfg d →
    (s.dev.dw d).st ≠ .isolated →
    Completes (.buttons h d b) s (fun t => (t.dev.dw d).btn = b ∧ t.dev.gave h stOK ∧
      (∀ e, e ≠ d → (t.dev.dw e).st = (s.dev.dw e).st) ∧
      ({ s with dev := { s.dev with gate := t.dev.gate, parts := t.dev.parts } } : State).reacted t)) ∧
  (∀ (s : State) (h : Hdr) (d : DoorId), s.accepts h (.door d .faultReset) → s.dev.doorQuiet s.cfg d →
    (s.dev.dw d).st = .seqFault → s.dev.cleared s.cfg d = true →
    Completes (.faultReset h d) s (fun t =>
      (t.dev.dw d).st = (if s.dev.closedLocked s.cfg d then .lockedClosed else .opened) ∧ t.dev.gave h stOK ∧
      (∀ e, e ≠ d → (t.dev.dw e).st = (s.dev.dw e).st) ∧
      ({ s with dev := { s.dev with gate := t.dev.gate, parts := t.dev.parts } } : State).reacted t))

/-- A time limit of a doorway that runs out in its state, with no egress and no reaction, puts the doorway into SEQ_FAULT with
the cause of that limit. No other doorway changes its state. Such a row acts when commanded, at the earliest instant its rule allows (log entries 3, 4). -/
def Obligations.DoorTimeoutsFault : Prop :=
  ∀ (s : State) (d : DoorId) (c : Instr) (st : DwState) (start n cause : Nat),
    let K := s.cfg
    let w := s.dev.dw d
    (c, st, start, n, cause) ∈
      [(Instr.unlockTimeout d, DwState.unlocking, w.timer, msFrames (K.tUnlockMax d.val), 0x02),
       (.lockTimeout d, .locking, w.timer, msFrames (K.tLockMax d.val), 0x03),
       (.stepTimeout d, .stepOut, w.timer, msFrames (K.tStepMax d.val), 0x05),
       (.stepTimeout d, .stepIn, w.timer, msFrames (K.tStepMax d.val), 0x05),
       (.openTimeout d, .opening, w.timer, msFrames (K.tOpenMax d.val), 0x06),
       (.closeTimeout d, .closing, w.closeT, msFrames (K.tCloseMax d.val), 0x07),
       (.closeTimeout d, .finalClose, w.closeT, msFrames (K.tCloseMax d.val), 0x07)] →
    let y := s.dev.untilFrame K (start + n)
    s.running → s.dev.doorIn K d st → y.doorIn K d st → start + n ≤ y.time.frames →
    (y.dw d).timer = w.timer → (y.dw d).closeT = w.closeT →
    (y.doorStart K d).role K d 5 = false → (y.doorStart K d).reactionCause K d = none →
    Completes c s (fun t => (t.dev.dw d).st = .seqFault ∧ (t.dev.dw d).cause = cause ∧
      (∀ e, e ≠ d → (t.dev.dw e).st = (y.dw e).st) ∧
      ({ s with dev := { y with gate := t.dev.gate, parts := t.dev.parts } } : State).reacted t)

/-- The same for the wait for the closed switch: in FINAL_CLOSE with the leaf moves done and CLOSED_IN away since frame `f`, the
doorway enters SEQ_FAULT with cause CLOSED_SW once T_CLOSED_SW has passed and T_CLOSE_MAX has not. The other timed rows of a
doorway lead on: the settled solenoid, the end of the warning, of the dwell and of the obstacle hold. Such a row acts when commanded, at the earliest instant its rule allows (log entries 3, 4). -/
def Obligations.DoorTimesMoveOn : Prop :=
  (∀ (s : State) (d : DoorId) (f : Nat),
    let K := s.cfg
    let n := msFrames (K.tClosedSw d.val)
    let y := s.dev.untilFrame K (f + n)
    let z := y.doorStart K d
    s.running → s.dev.doorIn K d .finalClose → (s.dev.dw d).closedSwT = some f → s.dev.leavesDone K d = true →
    s.dev.role K d 7 = false →
    y.doorIn K d .finalClose → (y.dw d).closedSwT = some f → y.leavesDone K d = true → y.role K d 7 = false →
    f + n ≤ y.time.frames → y.ranOut (y.dw d).closeT (msFrames (K.tCloseMax d.val)) = false →
    z.role K d 5 = false → z.reactionCause K d = none →
    Completes (.closedSwMissing d) s (fun t => (t.dev.dw d).st = .seqFault ∧ (t.dev.dw d).cause = 0x08 ∧
      (∀ e, e ≠ d → (t.dev.dw e).st = (y.dw e).st) ∧ ({ s with dev := { y with gate := t.dev.gate, parts := t.dev.parts } } : State).reacted t)) ∧
  (∀ (s : State) (d : DoorId) (c : Instr) (st nxt : DwState) (start n : Nat) (also : Memory → Dev → Bool),
    let K := s.cfg
    let w := s.dev.dw d
    (c, st, nxt, start, n) ∈
      [(Instr.solSettleElapsed d, DwState.unlocking, (if K.stepAct d.val = 1 then DwState.stepOut else .opening), w.unlockT,
        msFrames (K.tSol d.val)),
       (.solSettleElapsed d, .locking, .lockedClosed, w.unlockT, msFrames (K.tSol d.val)),
       (.warnElapsed d, .closeWarning, .closing, w.timer, msFrames (K.tWarn d.val)),
       (.autoCloseElapsed d, .opened, .closeWarning, w.timer, msFrames (1000 * K.tDwell d.val)),
       (.obstHoldElapsed d, .obstacleHold, .closeWarning, w.timer, msFrames (1000 * K.tObstHold d.val))] →
    also = (fun K x => match c, st with
      | .solSettleElapsed _, .unlocking => K.lockSol d.val && !x.role K d 8
      | .solSettleElapsed _, _ => K.lockSol d.val && x.closedLocked K d
      | .warnElapsed _, _ => !x.blocked K d && (K.leaves d.val).all (fun l => (x.ax l.2).still)
      | .autoCloseElapsed _, _ => decide (K.tDwell d.val ≠ 0) && !(x.dw d).hold
      | _, _ => decide (K.tObstHold d.val ≠ 0) && !x.blocked K d) →
    let y := s.dev.untilFrame K (start + n)
    let z := y.doorStart K d
    s.running → s.dev.doorIn K d st → also K s.dev = true → y.doorIn K d st → also K z = true → start + n ≤ y.time.frames →
    (y.dw d).timer = w.timer → (y.dw d).unlockT = w.unlockT → z.upperRow K d = none → z.detection K d = none →
    Completes c s (fun t => (t.dev.dw d).st = nxt ∧ (∀ e, e ≠ d → (t.dev.dw e).st = (y.dw e).st) ∧
      ({ s with dev := { y with gate := t.dev.gate, parts := t.dev.parts } } : State).reacted t))

/-! ### Registers (R31, R267, R335 to R337, R431, R477 to R482, R503) -/

/-- A REGISTER_WRITE of a set-up word within its ranges is stored in its fields while the device is unsealed, its reserved bits
dropped (the model's choice, log entry 123), and opens the loop of an axis it gives a kind other than SERVO; one with a field
out of range, or with a gateway entry's position out of its range (log entry 143), is ignored and noted in RANGE_ERR with its offset;
one to a sealed device, or while a seal is judged, is ignored and noted in SU_WR_SEALED whatever its value (the model's reading, log
entry 125). A selector takes its value, for its requester
alone; an unaligned write is counted; SWRESET takes its key; every other register takes the write by its own rules. An MGT_WRITE
whose opcode, length and CRC are right writes its words in ascending order, one that is not changes the status alone.
The host writes and reads the words of BAR4, 32 or 64 bits at once, and of the configuration space (the model's reading, log entries
126 and 140). Every REGISTER_WRITE and every MGT_WRITE completes, whatever its operands. -/
def Obligations.RegistersTakeWrites : Prop :=
  (∀ (s : State) (r : Requester) (off : BitVec 16) (v : Word) (env : Outside),
    let k := (s.dev.req r).key off.toNat
    s.running → off.toNat % 4 = 0 → off.toNat < 0xC000 → (r = .host ∨ off.toNat < 0x1000 ∨ 0x2000 ≤ off.toNat) →
    selFields off.toNat = [] → off.toNat ≠ 0x28 → fieldsAt k ≠ [] → rwKey k = false →
    ¬ (0x4C04 ≤ off.toNat ∧ off.toNat ≤ 0x4C28 ∧ (s.dev.req r).working = true) → ¬ (0x2000 ≤ k ∧ k < 0x2600) →
    Completes (.registerWrite r .bar0 off v env) s (fun t =>
      ((s.dev.isSealed || s.dev.su.sealing) = true → t = { s with dev := { s.dev with host := { s.dev.host with suWrSealed := true } } }) ∧
      let ok := fieldsOk (fieldsAt k) v &&
        (decide (k < 0xA000 ∨ 0xA100 ≤ k) || (s.cfg.put k (storedWord k v)).posOk ((k - 0xA000) / 32))
      (s.dev.isSealed = false → s.dev.su.sealing = false → ok = true →
        let K' := s.cfg.put k (storedWord k v)
        t = { s with cfg := K', dev := t.dev } ∧
        ((∀ a : AxisId, k = 0x5100 + 0x80 * a.val → K'.axKind a.val = 1) → t.dev = s.dev) ∧
        (∀ a : AxisId, k = 0x5100 + 0x80 * a.val → K'.axKind a.val ≠ 1 →
          t.dev = s.dev.modAx a (fun v => { v with eng := { v.eng with loopClosed := false } }))) ∧
      (s.dev.isSealed = false → s.dev.su.sealing = false → ok = false →
        t = { s with dev := { s.dev with host := { s.dev.host with
          rangeErr := true, glbErr := off.toNat, glbErrReq := decide (r = .mgt) } } }))) ∧
  (∀ (s : State) (r : Requester) (off : BitVec 16) (v : Word) (env : Outside),
    s.running → off.toNat % 4 = 0 → off.toNat < 0xC000 → (r = .host ∨ off.toNat < 0x1000 ∨ 0x2000 ≤ off.toNat) →
    selFields off.toNat ≠ [] → fieldsOk (selFields off.toNat) v = true → NMap.wf zeroWord (s.dev.req r).sel = true →
    Completes (.registerWrite r .bar0 off v env) s (fun t =>
      NMap.get zeroWord (t.dev.req r).sel off.toNat = v &&& fieldsMask (selFields off.toNat) ∧
      (∀ j, j ≠ off.toNat → NMap.get zeroWord (t.dev.req r).sel j = NMap.get zeroWord (s.dev.req r).sel j) ∧
      t = { s with dev := s.dev.modReq r (fun q => { q with sel := (t.dev.req r).sel }) })) ∧
  (∀ (s : State) (r : Requester) (off : BitVec 16) (v : Word) (env : Outside), s.running → off.toNat % 4 ≠ 0 →
    exec (.registerWrite r .bar0 off v env) s = .next { s with dev := s.dev.barError }) ∧
  (∀ (s : State) (r : Requester) (off : BitVec 16) (v : Word) (env : Outside),
    s.running → off.toNat % 4 = 0 → off.toNat < 0xC000 → (r = .host ∨ off.toNat < 0x1000 ∨ 0x2000 ≤ off.toNat) →
    selFields off.toNat = [] →
    (off.toNat = 0x28 → exec (.registerWrite r .bar0 off v env) s = .next (s.swReset v)) ∧
    (off.toNat ≠ 0x28 → fieldsAt ((s.dev.req r).key off.toNat) = [] →
      exec (.registerWrite r .bar0 off v env) s = .next { s with dev := s.dev.liveWrite s.cfg env r off.toNat v })) ∧
  (∀ (s : State) (off : BitVec 16) (ws : List Word) (env : Outside), s.running → 1 ≤ ws.length → ws.length ≤ 64 →
    let body := [0x02#8] ++ beBytes 2 off.toNat ++ beBytes 1 ws.length ++ ws.flatMap (fun w => beBytes 4 w.toNat)
    let u := s.mgtWords off.toNat ws env
    let acc := (List.range ws.length).any (fun i =>
      decide (0xC000 ≤ off.toNat + 4 * i ∨ (0x1000 ≤ off.toNat + 4 * i ∧ off.toNat + 4 * i < 0x2000)))
    (u.running → exec (.mgtWrite (body ++ beBytes 2 (crc16 body)) env) s = .next { u with dev := u.dev.mgtDone false false acc }) ∧
    (¬ u.running → exec (.mgtWrite (body ++ beBytes 2 (crc16 body)) env) s = .next u)) ∧
  (∀ (s : State) (b : List Byte) (env : Outside), s.running →
    let n := (b.getD 3 0).toNat
    (b.getD 0 0 ≠ 0x02 ∨ b.length ≠ 6 + 4 * n ∨ n = 0 ∨ 64 < n →
      exec (.mgtWrite b env) s = .next { s with dev := s.dev.mgtDone false true false }) ∧
    (b.getD 0 0 = 0x02 → b.length = 6 + 4 * n → 1 ≤ n → n ≤ 64 →
      crc16 (b.take (4 + 4 * n)) ≠ (b.getD (4 + 4 * n) 0).toNat * 256 + (b.getD (5 + 4 * n) 0).toNat →
      exec (.mgtWrite b env) s = .next { s with dev := s.dev.mgtDone true false false })) ∧
  (∀ (s : State) (off : BitVec 16) (v : Word) (env : Outside), s.running →
    exec (.registerWrite .host .bar4 off v env) s = .next { s with dev := s.dev.bar4Write off.toNat v } ∧
    (∀ hi, off.toNat % 8 = 0 → exec (.registerWrite .host (.bar4Wide hi) off v env) s =
        .next { s with dev := (s.dev.bar4Write off.toNat v).bar4Write (off.toNat + 4) hi } ∧
      exec (.loRegisterRead .host off (.bar4Wide hi)) s = .next { s with
        dev := s.dev.modReq .host (fun q => { q with rdata := [s.dev.bar4Word off.toNat, s.dev.bar4Word (off.toNat + 4)] }) }) ∧
    exec (.registerWrite .host .config off v env) s = .next { s with dev := s.dev.cfgWrite s.cfg off.toNat v } ∧
    exec (.loRegisterRead .host off .bar4) s =
      .next { s with dev := s.dev.modReq .host (fun q => { q with rdata := [s.dev.bar4Word off.toNat] }) } ∧
    exec (.loRegisterRead .host off .config) s =
      .next { s with dev := s.dev.modReq .host (fun q => { q with rdata := [s.dev.cfgWord off.toNat] }) }) ∧
  (∀ (s : State) (off : BitVec 16) (v : Word) (env : Outside), s.running → s.dev.linkOk = false → off.toNat < 0x400 → off.toNat % 4 = 0 →
    NMap.wf bar4Reset s.dev.host.bar4 = true →
    Completes (.registerWrite .host .bar4 off v env) s (fun t =>
      t.dev.bar4Word off.toNat =
        (if off.toNat % 16 = 12 then v &&& 1#32 else if off.toNat % 16 = 0 then v &&& ~~~3#32 else v) ∧
      t = { s with dev := { s.dev with host := { s.dev.host with bar4 := t.dev.host.bar4 } } })) ∧
  (∀ (s : State) (r : Requester) (space : RegSpace) (off : BitVec 16) (v : Word) (env : Outside) (b : List Byte),
    (∃ t, exec (.registerWrite r space off v env) s = .next t) ∧ (∃ t, exec (.mgtWrite b env) s = .next t))

/-- Reads return the register's word and latch what belongs to it: the upper half of a pair with its lower half, every word of
a snapshot window with its first, a record with the first word of the Cairn window, whose last word moves the cursor on. A
management READ returns its words in order, each as it reads after those before it, and the CRC of its frame after the last; one
that ends before sets LENGTH_ERR (the model's reading, log entry 128). A STATUS frame returns the status of the frame before (log
entry 127). Nothing changes but the requester's own side. -/
def Obligations.RegistersRead : Prop :=
  (∀ (s : State) (r : Requester) (off : BitVec 16) (v : Nat),
    let q := { s.dev.req r with rdata := [] }
    s.running → off.toNat % 4 = 0 → s.dev.wide s.cfg q off.toNat = some v → NMap.wf zeroWord q.latch = true →
    Completes (.loRegisterRead r off) s (fun t =>
      (t.dev.req r).rdata = [BitVec.ofNat 32 v] ∧
      (t.dev.req r).latched (off.toNat + 4) = BitVec.ofNat 32 (v / 2 ^ 32) ∧
      (t.dev.req r).latched (0x10000 + off.toNat + 4) = 1 ∧
      t = { s with dev := s.dev.modReq r (fun _ => t.dev.req r) })) ∧
  (∀ (s : State) (r : Requester) (off : BitVec 16) (v : Nat),
    let q := { s.dev.req r with rdata := [] }
    s.running → off.toNat % 4 = 0 → s.dev.wide s.cfg q off.toNat = none → s.dev.wide s.cfg q (off.toNat - 4) = some v →
    q.latched (0x10000 + off.toNat) = 1 →
    exec (.loRegisterRead r off) s =
      .next { s with dev := s.dev.modReq r (fun q => { q with rdata := [q.latched off.toNat] }) }) ∧
  (∀ (s : State) (r : Requester) (off : BitVec 16) (ws : List Word),
    let q := { s.dev.req r with rdata := [] }
    s.running → off.toNat ∈ [0xA544, 0xA830, 0xA850, 0xB060] → s.dev.snapshot q off.toNat = some ws → NMap.wf zeroWord q.latch = true →
    Completes (.snapshotWindowRead r off) s (fun t =>
      (t.dev.req r).rdata = [ws.getD 0 0] ∧
      (∀ i, i < ws.length → (t.dev.req r).latched (off.toNat + 4 * i) = ws.getD i 0) ∧
      t = { s with dev := s.dev.modReq r (fun _ => t.dev.req r) })) ∧
  (∀ (s : State) (r : Requester), s.running →
    let q := s.dev.req r
    let w := s.dev.cairn.window q.cur.toNat
    exec (.cairnWin0Read r) s =
      .next { s with dev := s.dev.modReq r (fun q => { q with wstat := w.1, win := w.2, rdata := [bytesWord w.2 0] }) } ∧
    exec (.cairnWin7Read r) s =
      .next { s with dev := s.dev.modReq r (fun q => { q with cur := q.cur + 1, rdata := [bytesWord q.win 28] }) }) ∧
  (∀ (s : State) (off : BitVec 16) (n took : Nat) (dummy : Word), s.running → off.toNat % 4 = 0 → 1 ≤ n → n ≤ 64 →
    Completes (.mgtRead off n took dummy) s (fun t =>
      (t.dev.req .mgt).rdata.length = min n took ∧
      (1 ≤ took → (t.dev.req .mgt).rdata.head? = some (s.dev.readOne s.cfg { s.dev.req .mgt with rdata := [] } off.toNat).1) ∧
      (∀ j, j < min n took →
        let y := (List.range j).foldl (fun y i => y.readInto s.cfg .mgt (off.toNat + 4 * i))
          (s.dev.modReq .mgt (fun q => { q with rdata := [] }))
        (t.dev.req .mgt).rdata[j]? = some (y.readOne s.cfg (y.req .mgt) (off.toNat + 4 * j)).1) ∧
      (n ≤ took → t.dev.host.mgtCrc = BitVec.ofNat 16 (crc16 ([0x0B] ++ beBytes 2 off.toNat ++ beBytes 1 n ++
        beBytes 4 dummy.toNat ++ (t.dev.req .mgt).rdata.flatMap (fun w => beBytes 4 w.toNat)))) ∧
      t.dev.host.mgtStatus.getLsbD 0 = decide (n ≤ took ∧ off.toNat + 4 * (n - 1) < 0xC000) ∧
      t.dev.host.mgtStatus.getLsbD 2 = decide (took < n) ∧
      t.dev.host.mgtStatus.getLsbD 4 = s.dev.isSealed ∧
      t = { s with dev := { s.dev with
        host := { s.dev.host with mgtStatus := t.dev.host.mgtStatus, mgtCrc := t.dev.host.mgtCrc }, reqM := t.dev.reqM
        free := t.dev.free } })) ∧
  (∀ (s : State), s.running →
    Completes .mgtStatus s (fun t =>
      (t.dev.req .mgt).rdata = [s.dev.host.mgtStatus.setWidth 32] ∧
      t.dev.host.mgtStatus = (if s.dev.isSealed then 0x11 else 0x01) ∧
      let x := s.dev.modHost (fun h => { h with mgtStatus := t.dev.host.mgtStatus })
      t = { s with dev := x.modReq .mgt (fun _ => t.dev.req .mgt) }))

/-- R338: the host and the management port read the Cairn through cursors of their own. A read by one of them, of the Cairn
window or of any other register, leaves the other's cursor, window, selectors and latches as they are. -/
def Obligations.ReadersKeepApart : Prop :=
  ∀ (s : State) (r r' : Requester) (off : BitVec 16) (n took : Nat) (dummy : Word), r' ≠ r →
    (∀ c ∈ [Instr.loRegisterRead r off, .snapshotWindowRead r off, .cairnWin0Read r, .cairnWin7Read r],
      Completes c s (fun t => t.dev.req r' = s.dev.req r')) ∧
    (r = .mgt → ∀ c ∈ [Instr.mgtRead off n took dummy, .mgtStatus], Completes c s (fun t => t.dev.req r' = s.dev.req r'))


/-! ### Seal (R467 to R471) -/

/-- A seal request on an unsealed device is accepted when every check passes and refused with the reason and index of the first
that fails (judged in no time, log entry 108); at the next 200 µs multiple an accepted one seals the device with the sum over its
safety set-up, every servo loop closed, CMD_LIMIT at its largest value and every enabled doorway in its initial state (R83, R469); a
doorway that is not enabled keeps what it holds (log entries 24 and 30). An unseal request is refused at once while an axis moves
(log entry 115); otherwise the device is unsealed at the next frame boundary, its channels OFF. The automatic seal tries at the
instant of log entry 117. No set-up register changes. Such a row acts when commanded, at the earliest instant its rule allows (log entries 3, 4). -/
def Obligations.SealsAndUnseals : Prop :=
  (∀ (s : State) (r : Requester), s.running → s.dev.isSealed = false → s.dev.judging = false →
    Completes (.sealRequest r) s (fun t => t.cfg = s.cfg ∧ t.dev.isSealed = false ∧
      (s.dev.judgeSeal s.cfg = none → t.dev.su.sealing = true ∧ t.dev.su.result = 1 ∧
        t = { s with dev := { s.dev with su := t.dev.su, eng := t.dev.eng, axes := t.dev.axes } }) ∧
      (∀ a, t.dev.ax a = { s.dev.ax a with eng := { (s.dev.ax a).eng with cost := (t.dev.ax a).eng.cost } }) ∧
      ∀ c i, s.dev.judgeSeal s.cfg = some (c, i) →
        t.dev.su = { s.dev.su with result := 2, reason := c, index := i } ∧
        t = { s with dev := { s.dev with su := t.dev.su, eng := t.dev.eng, axes := t.dev.axes, free := t.dev.free } })) ∧
  (∀ (s : State), s.running → s.dev.su.sealing = true →
    let y := s.dev.untilTT s.cfg (s.dev.nextMultiple 200000)
    y.su = s.dev.su → y.atMultiple 200000 = true →
    Completes .sealInstant s (fun t => t.cfg = s.cfg ∧ t.dev.isSealed = true ∧ t.dev.su.sealing = false ∧
      t.dev.su.safeCrc = s.cfg.safeCrc ∧ (∀ a, s.cfg.axKind a.val = 1 → (t.dev.ax a).eng.loopClosed = true) ∧
      (∀ a, (t.dev.ax a).gen.cmdLimit = 4294967295 ∧ ∀ k : Fin 4, (t.dev.ax a).gen.sets.get k = s.cfg.profSet a.val k.val) ∧
      (∀ d, s.cfg.dwEn d.val = false → t.dev.dw d = y.dw d) ∧
      (∀ d, s.cfg.dwEn d.val = true → (t.dev.dw d).st = (y.initialRow s.cfg d).st) ∧
      ({ s with dev := { y with su := t.dev.su, chans := t.dev.chans, parts := t.dev.parts } } : State).reacted t)) ∧
  (∀ (s : State) (r : Requester), s.running → s.dev.isSealed = true → s.dev.judging = false →
    Completes (.unsealRequest r) s (fun t => t = { s with dev := { s.dev with su := t.dev.su } } ∧
      (s.dev.unsealBusy s.cfg = none → t.dev.su = { s.dev.su with unsealing := true }) ∧
      ∀ i, s.dev.unsealBusy s.cfg = some i → t.dev.su = { s.dev.su with result := 2, reason := 0x20, index := i })) ∧
  (∀ (s : State), s.running → s.dev.su.unsealing = true →
    let y := s.dev.untilTT s.cfg (s.dev.nextMultiple 25000)
    y.su = s.dev.su → y.atMultiple 25000 = true → y.unsealBusy s.cfg = none →
    Completes .unsealEffect s (fun t => t.cfg = s.cfg ∧ t.dev.isSealed = false ∧ t.dev.su.unsealing = false ∧
      t.dev.su.result = 1 ∧ t.dev.holding = false ∧ (∀ d, (t.dev.dw d).st = .disabled) ∧ (∀ c, (t.dev.ch c).mode = .off) ∧
      (∀ a, (t.dev.ax a).eng.loopClosed = false) ∧
      ({ s with dev := { y with su := t.dev.su, chans := t.dev.chans, gate := t.dev.gate, parts := t.dev.parts } } : State).reacted t)) ∧
  (∀ (s : State) (c : Nat), s.running → s.dev.autoSealAt s.cfg = some c →
    let y := s.dev.untilCyc s.cfg c
    let z := y.untilTT s.cfg (y.nextMultiple 25000)
    z.autoSealAt s.cfg = some c → c ≤ z.time.cyc → z.isSealed = false → z.judging = false → z.judgeSeal s.cfg = none →
    Completes .autoSeal s (fun t => t.cfg = s.cfg ∧ t.dev.su.sealing = true ∧ t.dev.su.result = 1 ∧
      t = { s with dev := { z with su := t.dev.su, eng := t.dev.eng, axes := t.dev.axes, img := { z.img with loadedAt := none } } }))

/-! ### Images, power, sleep and resets (R458 to R466, R473, R474) -/

/-- IMG_SAVE takes an image of the set-up, which goes to the slot that does not hold the newer valid image when the save ends.
A power-fail warning is shown, stops a running recorder, whose queue it commits (log entry 105), and ends again (log entry 118). A
device that may not sleep refuses SLEEP_REQ; otherwise it is unsealed and asleep: the sleep sequence is one command (the model's
choice, log entry 120). -/
def Obligations.ImagesPowerAndSleep : Prop :=
  (∀ (s : State) (r : Requester), s.running → s.dev.isSealed = false → s.dev.img.saving = none →
    ∃ m : Image, m.cfg = s.cfg.suPart ∧ m.boot = s.cfg.imgBoot ∧ m.valid = true ∧
      (∀ a, m.progs.get a = (s.dev.ax a).eng.prog) ∧
      exec (.imgSave r) s = .next { s with dev := { s.dev with img := { s.dev.img with saving := some m, status := 1 } } }) ∧
  (∀ (s : State) (m : Image) (ok : Bool), s.running → s.dev.img.saving = some m →
    Completes (.imgSaveDone ok) s (fun t =>
      let g := s.dev.img
      t = { s with dev := { s.dev with img := t.dev.img } } ∧ t.dev.img.saving = none ∧
      t.dev.img.status = (if ok then 2 else 3) ∧
      (if g.newer1 || (okImage g.slot0).isNone then t.dev.img.slot0 = some { m with valid := ok } ∧ t.dev.img.slot1 = g.slot1
       else t.dev.img.slot1 = some { m with valid := ok } ∧ t.dev.img.slot0 = g.slot0))) ∧
  (∀ (s : State) (media : Media), s.running → s.dev.keeper.pfWarn = false → s.dev.cairn.st = .running →
    Completes (.powerFailWarning media) s (fun t => t.cfg = s.cfg ∧ t.dev.keeper.pfWarn = true ∧ t.dev.cairn.pf = true ∧
      (media.badRec = none → media.ledger = none →
        t.dev.keeper = { s.dev.keeper with pfWarn := true } ∧ t.dev.cairn.st = .stopped ∧ t.dev.cairn.queue = [] ∧
        t = { s with dev := { s.dev with keeper := t.dev.keeper, cairn := t.dev.cairn, host := t.dev.host, atolls := t.dev.atolls, evt := t.dev.evt, sched := t.dev.sched } }))) ∧
  (∀ (s : State), s.running → s.dev.keeper.pfWarn = true → s.dev.cairn.pf = true → s.dev.cairn.st = .stopped →
    s.dev.cairn.queue = [] →
    Completes .warningClear s (fun t => t.dev.keeper = { s.dev.keeper with pfWarn := false } ∧ t.dev.cairn.st = .running ∧
      t.dev.cairn.pf = false ∧ (t.dev.cairn.queue.map (fun q => q.type)) = [0x0003] ∧
      t = { s with dev := { s.dev with keeper := t.dev.keeper, cairn := t.dev.cairn } })) ∧
  (∀ (s : State) (r : Requester) (media : Media), s.running →
    Completes (.sleepReq r media) s (fun t => t.cfg = s.cfg ∧
      (s.dev.maySleep s.cfg = false →
        t = { s with dev := { s.dev with keeper := { s.dev.keeper with sleepRefused := true } } }) ∧
      (s.dev.maySleep s.cfg = true → t.dev.keeper.phase = .asleep ∧ t.dev.isSealed = false ∧
        (media.badRec = none → media.ledger = none → t.dev.keeper = { s.dev.keeper with phase := .asleep }) ∧
        (∀ c, s.cfg.chEn c.val = true → s.cfg.wakeMode c.val ≠ 0 → (t.dev.ch c).mode = .asleep) ∧
        ({ s with dev := { s.dev with keeper := t.dev.keeper, su := t.dev.su, chans := t.dev.chans, gate := t.dev.gate, parts := t.dev.parts } } : State).reacted t)))

/-- A reset leaves every part of the block at its reset value but the keeper, the recorder MRAM, the images and the set-up
fields that R463 keeps, and records its cause; SLEEP_REFUSED and PF_WARN go with it (the model's reading, log entry 121), and the
enables of the keeper's rows are log entry 119. A wake is such a reset with the source of the wake. The release of the reset
starts the islands, unsealed, with train time at 0 and the recorder started. -/
def Obligations.ResetsAndWakes : Prop :=
  (∀ (s : State), s.running →
    (∀ p ∈ [(Instr.powerOn, 1), (.brownOut, 2), (.pinReset, 3), (.refLost, 6)],
      exec p.1 s = .next { s with cfg := s.cfg.afterReset p.2, dev := s.dev.inReset p.2 }) ∧
    (∀ r, s.dev.isSealed = false →
      exec (.swReset r 0x0000A5C3#32) s = .next { s with cfg := s.cfg.afterReset 4, dev := s.dev.inReset 4 }) ∧
    Completes .keeperUnpowered s (fun t => t.dev.keeper.phase = .unpowered ∧ t.cfg = [] ∧ t.dev.img.slot0 = s.dev.img.slot0)) ∧
  (∀ (K : Memory) (x : Dev) (c : Nat), c ≠ 1 →
    (x.inReset c).keeper = { x.keeper with phase := .inReset, cause := c, pfWarn := false, sleepRefused := false } ∧
    (x.inReset c).isSealed = false ∧ (x.inReset c).cairn.mram = x.cairn.mram ∧ (x.inReset c).cairn.ledger0 = x.cairn.ledger0 ∧
    (K.afterReset c).word 0xB814 = K.word 0xB814 ∧ (K.afterReset c).word 0xB818 = K.word 0xB818 ∧
    ∀ k, k ≠ 0xB814 → k ≠ 0xB818 → (K.afterReset c).word k = Memory.word [] k) ∧
  (∀ (s : State) (c : ChanId) (f : CanFrame), s.dev.keeper.phase = .asleep →
    (s.cfg.wakeTimer ≠ 0 → exec .wakeTimerExpiry s = .next (s.wake 2 0 none)) ∧
    (s.cfg.wakePerst = true → exec .perstWake s = .next (s.wake 3 0 none)) ∧
    ((s.dev.ch c).mode = .asleep → s.cfg.wakeMode c.val = 1 →
      exec (.wakeDominant c) s = .next (s.wake 1 c.val (some (c, 2, false, 0)))) ∧
    ((s.dev.ch c).mode = .asleep → s.cfg.wakeMode c.val = 2 → s.cfg.isWake c.val f = true →
      exec (.wakeFrame c f true) s = .next (s.wake 1 c.val (some (c, 3, f.ide, f.ident.toNat)))) ∧
    exec .pinReset s = .next (s.wake 4 0 none) ∧
    ∀ src ch w, (s.wake src ch w).dev.keeper.cause = (if src = 4 then 3 else 5) ∧
      (s.wake src ch w).dev.keeper.wakeSrc = src ∧ (s.wake src ch w).dev.keeper.wakeCh = ch ∧
      (s.wake src ch w).dev.keeper.phase = .inReset) ∧
  (∀ (s : State) (c : ChanId) (f : CanFrame), s.running → (s.dev.ch c).mode = .asleep →
    (s.cfg.wakeMode c.val = 1 → exec (.wakeDominant c) s = .next { s with dev := s.dev.wakeStart c 2 false 0 }) ∧
    (s.cfg.wakeMode c.val = 2 → s.cfg.isWake c.val f = true →
      exec (.wakeFrame c f true) s = .next { s with dev := s.dev.wakeStart c 3 f.ide f.ident.toNat })) ∧
  (∀ (s : State) (twin unitA pref pcie : Bool) (media : Media), s.dev.keeper.phase = .inReset → s.dev.isSealed = false →
    Completes (.resetRelease twin unitA pref pcie media) s (fun t => t.running ∧ t.dev.isSealed = false ∧ t.dev.tt = 0 ∧
      t.dev.twin.en = twin ∧ t.dev.twin.unitB = !unitA ∧ t.dev.twin.pref = pref ∧
      (t.dev.cairn.st = .running ∨ t.dev.cairn.st = .failed) ∧
      (s.dev.img.best = none → t.cfg = s.cfg ∧ t.dev.img.status = 4) ∧
      (∀ m, s.dev.img.best = some m → m.boot = 0 → t.cfg = s.cfg) ∧
      (∀ m, s.dev.img.best = some m → m.boot ≠ 0 → t.cfg = m.cfg.loaded ∧ t.dev.img.status = 5)))

/-! ### Writes that clear (R33, R87, R152, R167, R198, R219, R230, R231, R255, R397, R412, R435, R436, R445) -/

/-- Each clearing write undoes its latch where its condition allows it, ends the fault it stands for, and touches nothing else. The
model's readings here: a new set of train time takes the place of one that waits (log entry 17), LOOP_FAULT_CLR judges the latest
readbacks (log entry 57), the level of the FLT pin comes with the write (log entry 58), and an axis that resumes following counts
from its set-point (log entry 156). -/
def Obligations.ClearingWrites : Prop :=
  (∀ (s : State) (r : Requester), s.running →
    (s.cfg.followerConfigured = true →
      exec (.ttSetGo r) s = .next { s with dev := s.dev.modTime (fun t => { t with setRefused := true }) }) ∧
    (s.cfg.followerConfigured = false →
      exec (.ttSetGo r) s = .next { s with dev := s.dev.modTime (fun t => { t with
        setReq := some ⟨s.cfg.ttSet, (t.setReq.map SetReq.hdrs).getD []⟩ }) })) ∧
  (∀ (s : State) (r : Requester), s.running → s.dev.gate.loopFault.get 0 = true →
    (∀ j : Fin 4, j.val < 2 → (s.dev.sout j).cmd = false ∧ (s.dev.sout j).readback = false) →
    Completes (.loopFaultClr r 1) s (fun t => t.dev.gate.loopFault.get 0 = false ∧
      t.dev.gate.loopFault.get 1 = s.dev.gate.loopFault.get 1 ∧ (∀ j : Fin 4, j.val < 2 → (t.dev.sout j).overload = false ∧ (t.dev.sout j).reported = false) ∧
      t = { s with dev := { s.dev with gate := t.dev.gate, fio := { s.dev.fio with souts := t.dev.fio.souts } } })) ∧
  (∀ (s : State) (r : Requester) (a : AxisId), s.running →
    let K := s.cfg
    let x := s.dev
    let p := (x.ax a).port
    (p.fltLatched = true → exec (.fltLatched r a true) s =
      .next { s with dev := (x.modPort a (fun p => { p with fltPin := true, fltLatched := false })).endFault K 0x0207 (objAxis a.val) }) ∧
    exec (.fltLatched r a false) s = .next { s with dev := x.modPort a (fun p => { p with fltPin := false }) } ∧
    (p.ocLatched = true → x.overNow K a = false → exec (.ocLatched r a) s =
      .next { s with dev := (x.modPort a (fun p => { p with ocLatched := false })).endFault K 0x0208 (objAxis a.val) }) ∧
    (p.fbLatched = true → (K.followEn a.val = true → K.fbErrLimit (K.followPort a.val).val ≤ (x.ax (K.followPort a.val)).port.fbQuiet) →
      (K.followEn a.val = false ∨ K.axKind a.val = 1 → K.fbErrLimit a.val ≤ p.fbQuiet) → exec (.fbLatched r a) s =
      .next { s with dev := (x.modPort a (fun p => { p with fbLatched := false })).endFault K 0x0209 (objAxis a.val) }) ∧
    exec (.limitLatched r a) s = .next { s with
      dev := (x.modAx a (fun v => { v with limLatched := false, limPos := false, limNeg := false })).endFault K 0x0200 (objAxis a.val) } ∧
    exec (.lateLatched r a) s = .next { s with
      dev := (x.modAx a (fun v => { v with eng := { v.eng with lateLatched := false }, port := { v.port with lateWait := 0 } })).endFault K 0x0203 (objAxis a.val) } ∧
    ((x.ax a).eng.feLatched = true → exec (.feLatched r a) s = .next { s with
      dev := (x.modAx a (fun v => { v with eng := { v.eng with feLatched := false } })).endFault K 0x0201 (objAxis a.val) }) ∧
    ((x.ax a).fol.out = true → x.axisRank K a ≤ 2 → K.followEn a.val = true → exec (.followResume r a) s = .next { s with
      dev := x.modAx a (fun v => { v with fol := { v.fol with out := false, base := v.gen.x, remaining := 0, tsPrev := none }, gen := { v.gen with seg := .idle, v := 0, ramp := none } }) })) ∧
  (∀ (K : Memory) (x : Dev) (code obj : Nat), x.twin.summit ≠ .demoted →
    x.endFault K code obj = { x with evt := { x.evt with
      opens := x.evt.opens.filter (fun f => !decide (f.code = code ∧ f.obj = obj) || decide (f.rank = 7)) } }) ∧
  (∀ (s : State) (r : Requester) (mask : Word), s.running →
    Completes (.outFltLatched r mask) s (fun t =>
      (∀ o : OutId, t.dev.outPin o = (if mask.getLsbD o.val && (s.dev.outPin o).overload then
        { s.dev.outPin o with overload := false, changed := s.dev.time.cyc } else s.dev.outPin o)) ∧
      t = { s with dev := { s.dev with fio := { s.dev.fio with outs := t.dev.fio.outs } } })) ∧
  (∀ (s : State) (r : Requester), s.running →
    (s.dev.isSealed = false → s.dev.cairn.st = .failed → s.dev.cairn.pf = false → s.dev.cairn.queue = [] →
      Completes (.cairnRearm r true) s (fun t => t.dev.cairn.st = .running ∧
        t.dev.cairn.queue.map (fun q => q.type) = [0x0052] ∧ t = { s with dev := { s.dev with cairn := t.dev.cairn } })) ∧
    exec (.cairnRearm r false) s = .next s ∧
    (s.dev.isSealed = false →
      exec (.epiClr r) s = .next { s with dev := s.dev.modCairn (fun c => { c with epis := Vector.replicate 16 none }) }) ∧
    (s.dev.isSealed = true → exec (.epiClr r) s = .next s)) ∧
  (∀ (s : State) (r : Requester) (low : Bool), s.running →
    Completes (.demoteClr r low) s (fun t =>
      (∀ f ∈ s.dev.evt.opens, f.rank = 7 → s.dev.condHolds low f = true → f ∈ t.dev.evt.opens) ∧
      (∀ f ∈ t.dev.evt.opens, f.rank = 7 → f ∈ s.dev.evt.opens ∧ s.dev.condHolds low f = true) ∧
      (s.dev.twin.summit = .demoted → s.dev.twin.en = true → t.dev.unitRank < 7 → t.dev.twin.summit = .standby) ∧ s.reacted t) ∧
    Completes (.safeHoldClr r) s (fun t =>
      (∀ f, f ∈ t.dev.evt.opens ↔ f ∈ s.dev.evt.opens ∧ (f.code ≠ 0x0407 ∨ f.rank = 7)) ∧ s.reacted t))

/-! ### Axes (R144, R150 to R155, R206, R209 to R214, R218) -/

/-- What happens to an axis between its commands: standstill, FOLLOW_ERR and LIMIT_STOP with their latched
faults, the end of an injection, the records and the end of a capture, the reference latch and the shift it brings. Such a row acts when commanded, at the earliest instant its rule allows (log entries 3, 4). -/
def Obligations.AxisEvents : Prop :=
  (∀ (s : State) (a : AxisId), s.running → (s.dev.ax a).still = false → (s.dev.ax a).noMove = true →
    max 1 (s.cfg.stillTime a.val) ≤ (s.dev.ax a).stillCnt →
    Completes (.standstill a) s (fun t => (t.dev.ax a).still = true ∧ t.dev.raised (0x90 + a.val) (objAxis a.val) 1 ∧
      (∀ b, b ≠ a → (t.dev.ax b).still = (s.dev.ax b).still) ∧ s.reacted t)) ∧
  (∀ (s : State) (a : AxisId), s.running → max 1 (s.cfg.feTime a.val) * 100 ≤ (s.dev.ax a).eng.feAcc →
    Completes (.followErr a) s (fun t => (t.dev.ax a).eng.feLatched = true ∧ (t.dev.ax a).eng.feAcc = 0 ∧
      t.dev.isOpen 0x0201 (objAxis a.val) = true ∧ 3 ≤ t.dev.axisRank t.cfg a ∧ s.reacted t)) ∧
  (∀ (s : State) (a : AxisId) (neg : Bool), s.running → s.dev.limit s.cfg a neg = true → 0 < (s.dev.ax a).gen.v →
    (s.dev.ax a).gen.dir = (if neg then -1 else 1) → (if neg then (s.dev.ax a).limNeg else (s.dev.ax a).limPos) = false →
    Completes (.limitStop a neg) s (fun t => (t.dev.ax a).limLatched = true ∧
      (if neg then (t.dev.ax a).limNeg else (t.dev.ax a).limPos) = true ∧ t.dev.isOpen 0x0200 (objAxis a.val) = true ∧
      3 ≤ t.dev.axisRank t.cfg a ∧ s.reacted t)) ∧
  (∀ (s : State) (a : AxisId) (j : Inj), s.running → (s.dev.ax a).eng.inj = some j →
    (∀ n, injTotal (s.cfg.periodCode a.val) j.ops.form = some n → n ≤ j.n → exec (.injectionEnd a) s = .next { s with
      dev := (s.dev.modAx a (fun v => { v with eng := { v.eng with inj := none, injEnd := 1 } })).complete j.hdr stOK }) ∧
    ((∀ n, injTotal (s.cfg.periodCode a.val) j.ops.form = some n → j.n < n) → j.stop = true →
      exec (.injectionEnd a) s = .next { s with
        dev := (s.dev.modAx a (fun v => { v with eng := { v.eng with inj := none, injEnd := 3 } })).complete j.hdr stCancelled })) ∧
  (∀ (s : State) (u : Fin 4) (o : CapOps) (h : Hdr) (r : List Byte) (more : List (List Byte)), s.running →
    (s.dev.capu u).tails = [] → (s.dev.capu u).ops = some (o, h) → (s.dev.capu u).staged = r :: more →
    s.dev.entryRoom s.cfg o.atoll = true → s.dev.writeTurn s.cfg o.atoll = true →
    Completes (.captureRecordWrite u) s (fun t => t.dev.capu u = { s.dev.capu u with staged := more } ∧
      (t.dev.atl o.atoll).dev = (s.dev.atl o.atoll).dev + 1 ∧
      (∃ rest, t.dev.host.link = s.dev.host.link ++
        .write (s.cfg.atlAddr o.atoll.val + 48 * ((s.dev.atl o.atoll).dev.toNat % s.cfg.atlSize o.atoll.val)) r :: rest ∧
        s.cfg.signalOf o.atoll rest) ∧
      t = { s with dev := { s.dev with caps := t.dev.caps, atolls := t.dev.atolls, host := t.dev.host } })) ∧
  (∀ (s : State) (u : Fin 4) (c : CapTail) (rest : List CapTail), s.running → (s.dev.capu u).tails = c :: rest → c.staged = [] →
    exec (.captureComplete u) s = .next { s with
      dev := (s.dev.modCap u (fun v => { v with tails := rest })).complete c.hdr c.code }) ∧
  (∀ (s : State) (a : AxisId) (o : RefArmOps) (rising : Bool), s.running → (s.dev.ax a).refArm = some o →
    (s.dev.ax a).refLatch = none →
    let v := s.dev.ax a
    let latched := fun (pl : Int) => exec (.referenceLatch a rising) s = .next { s with
      dev := s.dev.modAx a (fun v => { v with refLatch := some pl }) }
    (o.deassert = rising → exec (.referenceLatch a rising) s = .next s) ∧
    (o.deassert = !rising → o.src = .index → v.port.wireBreak.getLsbD 2 = false →
      (s.cfg.idxGate a.val = false ∨ (v.port.aLvl && v.port.bLvl) = true) → latched (v.port.raw + v.posOff)) ∧
    (o.deassert = !rising → o.src = .zswitch → v.port.wireBreak.getLsbD 2 = false → latched (s.dev.axPos s.cfg a)) ∧
    (∀ i p, o.deassert = !rising → o.src = .field i → (s.dev.inPin i).lvl = rising →
      (s.dev.inPin i).latchPos[a.val]? = some p → latched (p + v.posOff))) ∧
  (∀ (s : State) (a : AxisId) (o : RefArmOps) (pl : Int),
    let y := s.dev.toPeriod s.cfg a
    s.running → (s.dev.ax a).refLatch.isSome = true → (y.ax a).refArm = some o →
    (y.ax a).refLatch = some pl → o.stop = false → (y.ax a).idxFix = [] →
    Completes (.refDone a) s (fun t =>
      let v := y.ax a
      let dl := o.refPos - pl
      t.dev.ax a = { v with
        refArm := none, refLatch := none, referenced := true, refDelta := dl, posUncertain := false
        posOff := v.posOff + dl, posB := v.posB + dl
        gen := { v.gen with
          x := v.gen.x + dl * fx, xPrev := v.gen.xPrev + dl * fx
          laPos := (t.dev.ax a).gen.laPos, laSpeed := (t.dev.ax a).gen.laSpeed, laSeg := (t.dev.ax a).gen.laSeg
          laLimit := (t.dev.ax a).gen.laLimit, predOn := (t.dev.ax a).gen.predOn }
        fol := { v.fol with base := v.fol.base + dl * fx }
        cmp := { v.cmp with prev := v.cmp.prev + dl * fx } } ∧
      t.dev.raised (0xA8 + a.val) (objAxis a.val) 3 ∧ (∀ b, b ≠ a → t.dev.ax b = y.ax b) ∧ ({ s with dev := y } : State).reacted t))

/-! ### Frames, obstacles and the deadlines of the engine (R20, R71, R97 to R109, R197 to R199) -/

/-- A control frame takes place at its boundary, and retriggers the watchdog at the end of pass 1 where that is by B + 24.5 µs (R396; a
COMPUTE_LATE takes the retrigger back, the model's reading, log entry 96); a missed period is known at its deadline and keeps
the output of the one before, ENG_RANGE follows where its late time update leaves the range, and at LATE_LIMIT the overrun reaction
follows; a prediction late at its deadline and one that has gone quiet are dropped; a detection takes effect as R107 says, where a row that ranks above it is taken with a stop alone; a start allowance
ends; a pair that disagrees too long is at fault. Such a row acts when commanded, at the earliest instant its rule allows (log entries 3, 4). -/
def Obligations.FramesAndDeadlines : Prop :=
  (∀ (s : State) (pins : List (List (BitVec 4))) (took : Nat),
    let y := s.dev.toFrame s.cfg
    s.running →
    Completes (.controlFrame pins took) s (fun t => t.cfg = s.cfg ∧ t.pending = s.pending ∧ t.dev.time = y.time ∧
      t.dev.time.lastF = some t.dev.time.frames ∧ t.dev.twin.digestB = y.frameB ∧
      (took = 0 → t.dev.twin.wdogAt = y.time.cyc ∧ t.dev.twin.wdogFrame = some y.time.frames ∧
        t.dev.twin.wdogFired = false ∧ t.dev.twin.wdogNext = none) ∧
      (1 ≤ took → took ≤ 4900 → t.dev.twin.wdogNext = some (y.time.cyc + took) ∧ t.dev.twin.wdogAt = y.twin.wdogAt) ∧
      (4900 < took → t.dev.twin.wdogRun = 0 ∧ t.dev.twin.wdogNext = none ∧ t.dev.twin.wdogAt = y.twin.wdogAt))) ∧
  (∀ (s : State) (a : AxisId) (fin : Bool) (v : EngSave),
    let y := (s.dev.unRetrigger s.cfg).toDeadline s.cfg a
    let e := engMiss fin (refVec (y.engEnv s.cfg a)) (y.ax a).eng
    s.running → (s.dev.ax a).eng.save.isSome = true → (y.ax a).eng.save = some v →
    Completes (.computeLate a fin) s (fun t =>
      let u := (t.dev.ax a).eng
      u.missed = true ∧ u.missCnt = v.missCnt + 1 ∧ u.u0 = v.u0 ∧ u.u1 = v.u1 ∧ u.xp = e.1.xp ∧ u.save = none ∧ u.f8 = none ∧
      (e.2 = true → t.dev.isOpen 0x0205 (objAxis a.val) = true) ∧
      (fin = false ∨ e.2 = true → u.xp = v.xp ∧ u.z = v.z ∧ u.notch = v.notch ∧ u.force = v.force) ∧
      (t.dev.ax a).port.computed = none ∧ (max 1 (s.cfg.lateLimit a.val) ≤ v.missCnt + 1 → u.overDue = true) ∧
      (e.2 = false → v.missCnt + 1 < max 1 (s.cfg.lateLimit a.val) → t.dev.raised 0xF2 (objAxis a.val) 0x0203) ∧
      (s.dev.twin.wdogPrev ≠ none ∨ s.dev.twin.wdogNext ≠ none → t.dev.twin.wdogRun = 0) ∧
      ({ s with dev := y } : State).reacted t)) ∧
  (∀ (s : State) (a : AxisId), s.running → (s.dev.ax a).eng.overDue = true →
    Completes (.overrunReaction a) s (fun t => (t.dev.ax a).eng.lateLatched = true ∧ (t.dev.ax a).eng.overDue = false ∧
      (t.dev.ax a).port.lateWait = 2 ∧ t.dev.isOpen 0x0203 (objAxis a.val) = true ∧
      (if s.cfg.lateShorted a.val then 4 else 5) ≤ t.dev.axisRank t.cfg a ∧ s.reacted t)) ∧
  (∀ (s : State) (a : AxisId) (p : PredSave),
    let y := s.dev.toDeadline s.cfg a
    s.running → s.dev.predicts a = true → (y.ax a).eng.f8 ≠ none → (y.ax a).eng.predSave = some p →
    Completes (.predLate a) s (fun t => (t.dev.ax a).eng.f8 = none ∧ (t.dev.ax a).gen.laPos = p.laPos ∧
      (t.dev.ax a).gen.laSpeed = p.laSpeed ∧ (t.dev.ax a).gen.laForce = p.laForce ∧ (t.dev.ax a).gen.laEnv = p.laEnv ∧
      ({ s with dev := y } : State).reacted t)) ∧
  (∀ (s : State) (d : DoorId), s.running → (s.dev.dw d).predLive = true →
    (∀ l ∈ s.cfg.leaves d.val, s.cfg.axKind l.2.val = 1 → s.cfg.predHold d.val ≤ (s.dev.ax l.2).eng.predQuiet) →
    exec (.predictionWithdrawn d) s = .next { s with dev := s.dev.modDw d (fun w => { w with predLive := false }) }) ∧
  (∀ (s : State) (a : AxisId), s.running →
    (∀ d i, s.cfg.owner a = some (d, i) → s.dev.allowance s.cfg d a = false) →
    exec (.startAllowanceEnd a) s = .next { s with
      dev := s.dev.modAx a (fun v => { v with eng := { v.eng with startAt := none } }) }) ∧
  (∀ (s : State) (d : DoorId) (p : Detection),
    let z := s.dev.doorStart s.cfg d
    s.running → s.dev.doorIn s.cfg d (s.dev.dw d).st → (s.dev.dw d).st ≠ .disabled → (s.dev.detection s.cfg d).isSome = true →
    z.detection s.cfg d = some p →
    (z.upperRow s.cfg d = none →
      Completes (.obstacleConfirmed d) s (fun t =>
        (∀ r, z.obstRow s.cfg d p = some r → (t.dev.dw d).st = r.st) ∧
        (t.dev.dw d).obstCause = p.cause.code ∧ (t.dev.dw d).obstK = p.k ∧ t.dev.raised (0x50 + d.val) (objDoor d.val) 1 ∧
        (∀ e, e ≠ d → (t.dev.dw e).st = (s.dev.dw e).st) ∧
        ({ s with dev := { s.dev with gate := t.dev.gate, parts := t.dev.parts } } : State).reacted t)) ∧
    (∀ r, z.upperRow s.cfg d = some r → z.detection s.cfg d = (z.stopOpening s.cfg d).detection s.cfg d →
      Completes (.obstacleConfirmed d) s (fun t =>
        (t.dev.dw d).st = r.st ∧ (t.dev.dw d).obstReact % 16 = 3 ∧ (t.dev.dw d).obstCause = p.cause.code ∧
        (∀ e, e ≠ d → (t.dev.dw e).st = (s.dev.dw e).st) ∧
        ({ s with dev := { s.dev with gate := t.dev.gate, parts := t.dev.parts } } : State).reacted t))) ∧
  (∀ (s : State) (p : Fin 4),
    let q := s.dev.gate.pairs.get p
    let y := s.dev.untilFrame s.cfg (s.dev.time.frames + (1000 * s.cfg.discTime p.val - q.timer + 24) / 25)
    s.running → q.fault = false → (p = 3 → s.cfg.zs2En = true) → (s.dev.pairIn s.cfg p).1 ≠ (s.dev.pairIn s.cfg p).2 →
    (y.pairIn s.cfg p).1 ≠ (y.pairIn s.cfg p).2 → (y.gate.pairs.get p).fault = false →
    Completes (.pairDiscrepancy p) s (fun t => (t.dev.gate.pairs.get p).fault = true ∧
      (t.dev.gate.pairs.get p).active = false ∧ (∀ r, r ≠ p → t.dev.gate.pairs.get r = y.gate.pairs.get r) ∧
      ({ s with dev := { y with gate := { y.gate with pairs := t.dev.gate.pairs } } } : State).reacted t))

/-! ### Axis ports (R222, R226, R230, R231, R235 to R245) -/

/-- What the lines of a port bring, each from the pin levels its row brings (log entries 132, 135 and 137) and at the earliest instant
its rule allows (log entry 4); a SSI frame runs from SSI_LEAD before its period boundary (R240): the carrier valley loads the staged duties and their compare values, faults and losses latch and turn the outputs off,
edges and frames move the position counter, index and Hall edges are stamped, coarse steps reach the axes that follow. -/
def Obligations.PortEvents : Prop :=
  (∀ (s : State) (a : AxisId),
    let y := s.dev.untilCyc s.cfg (s.dev.nextValley s.cfg a)
    s.running → s.dev.isSealed = true →
    Completes (.carrierValley a) s (fun t =>
      let p := (y.ax a).port
      let q := (t.dev.ax a).port
      let d := p.staged.getD p.duty
      q.duty = d ∧ q.staged = none ∧ q.half = s.cfg.halfOf a p.prbs ∧ q.valleyAt = s.dev.nextValley s.cfg a ∧
      q.cU = compareOf q.half d.u ∧ q.cV = compareOf q.half d.v ∧ q.cW = compareOf q.half d.w ∧
      q.out = y.gateWant s.cfg a ∧ t = { s with dev := y.modAx a (fun v => { v with port := q }) })) ∧
  (∀ (s : State) (a : AxisId) (low : Nat), s.running → s.cfg.fltEn a.val = true → s.cfg.fltFilt a.val + 1 ≤ low →
    Completes (.bridgeFault a low) s (fun t =>
      let p := (t.dev.ax a).port
      p.fltLatched = true ∧ p.fltPin = false ∧ (p.out = .low ∨ p.out = .hiZ) ∧
      t.dev.isOpen 0x0207 (objAxis a.val) = true ∧ 5 ≤ t.dev.axisRank t.cfg a ∧ s.reacted t)) ∧
  (∀ (s : State) (a : AxisId) (ch : Fin 3) (pins : BitVec 4),
    let y := s.dev.advance s.cfg 1
    let c := y.sdCfg s.cfg a
    let top := y.sdTop s.cfg a 0
    let r := ((y.ax a).port.sd.get ch).tick c ((y.ax a).port.sdClock c top (y.sdTick s.cfg a 0) pins).2 top (pins.getLsbD ch.val)
    s.running → s.cfg.sdEn a.val ch.val = true → r.out.isSome = true → r.ch.ocRun = c.trip →
    Completes (.overcurrent a [pins]) s (fun t =>
      let p := (t.dev.ax a).port
      p.ocLatched = true ∧ (p.out = .low ∨ p.out = .hiZ) ∧ t.dev.isOpen 0x0208 (objAxis a.val) = true ∧
      5 ≤ t.dev.axisRank t.cfg a ∧ ({ s with dev := y } : State).reacted t)) ∧
  (∀ (s : State) (a : AxisId) (ch : Fin 3) (pins : List (BitVec 4)),
    let y := (s.dev.advance s.cfg pins.length).sdTake s.cfg a pins
    s.running → s.cfg.sdEn a.val ch.val = true →
    (((y.ax a).port.sd.get ch).lost = true → exec (.sdLoss a ch pins) s = .next { s with dev := y }) ∧
    (((y.ax a).port.sd.get ch).lost = false →
      Completes (.sdLoss a ch pins) s (fun t => (t.dev.ax a).port.sdLoss.getLsbD ch.val = true ∧
        ((t.dev.ax a).port.sd.get ch).lost = true ∧ t.dev.raised (0xC0 + a.val) (objAxis a.val) 4 ∧
        (∀ b, b ≠ a → t.dev.ax b = y.ax b) ∧ ({ s with dev := y } : State).reacted t))) ∧
  (∀ (s : State) (a : AxisId),
    let p := (s.dev.ax a).port
    s.running → s.cfg.fbMode a.val = 1 → p.wireBreak.getLsbD 0 = false → p.wireBreak.getLsbD 1 = false →
    Completes (.quadIllegal a) s (fun t => t.dev.ax a = { s.dev.ax a with
        posUncertain := true, port := { p with aLvl := !p.aLvl, bLvl := !p.bLvl, illegal := satInc 16 p.illegal } } ∧
      t.dev.raised (0xC0 + a.val) (objAxis a.val) 1 ∧ (∀ b, b ≠ a → t.dev.ax b = s.dev.ax b) ∧ s.reacted t)) ∧
  (∀ (s : State) (a : AxisId) (hiA hiB : Bool), s.running → s.cfg.fbMode a.val = 1 →
    (s.dev.ax a).port.wireBreak.getLsbD 2 = false → (s.cfg.idxGate a.val = false ∨ (hiA && hiB) = true) →
    Completes (.index a hiA hiB) s (fun t => (t.dev.ax a).idxPrev = some (s.dev.ax a).port.raw ∧
      (t.dev.ax a).posUncertain = false ∧ (t.dev.ax a).port = (s.dev.ax a).port ∧ (∀ b, b ≠ a → t.dev.ax b = s.dev.ax b) ∧ s.reacted t)) ∧
  (∀ (s : State) (a : AxisId) (hiB fall : Bool), s.running → s.cfg.fbMode a.val = 2 → s.dev.isSealed = true →
    (s.dev.ax a).port.wireBreak.getLsbD 0 = false → (s.dev.ax a).port.wireBreak.getLsbD 1 = false →
    Completes (.coarseStep a hiB fall) s (fun t =>
      t = { s with dev := { s.dev with axes := t.dev.axes } } ∧
      (∀ b : AxisId, s.cfg.followEn b.val = true → s.cfg.followPort b.val = a → (s.dev.ax b).fol.out = false →
        (t.dev.ax b).fol.start = s.dev.stamp fall) ∧
      ∀ b : AxisId, (t.dev.ax b).fol.count =
        if s.cfg.followEn b.val = true ∧ s.cfg.followPort b.val = a then
          sext 32 (unsx 32 ((s.dev.ax b).fol.count + s.cfg.fbSign a.val (if hiB then 1 else -1)))
        else (s.dev.ax b).fol.count)) ∧
  (∀ (s : State) (a : AxisId) (r : SsiResult),
    let y := s.dev.untilTT s.cfg (s.dev.ssiStart s.cfg a)
    let p := (y.ax a).port
    s.running → s.cfg.fbMode a.val = 4 → p.wireBreak.getLsbD 0 = false → p.wireBreak.getLsbD 1 = false →
    (r.idleHigh = true → (s.cfg.ssiTrail a.val = true → r.trailLow = true) → y.ssiInTime s.cfg a r = true → p.ssiPrev = none →
      s.cfg.ssiGray a.val = false →
      let w := r.word.toNat % 2 ^ s.cfg.ssiBits a.val
      exec (.ssiFrame a r) s = .next { s with
        dev := y.modPort a (fun p => { p with ssiAt := some y.time.cyc, raw := w, h := w, d := 1, ssiPrev := some w }) }) ∧
    (r.idleHigh = false → Completes (.ssiFrame a r) s (fun t =>
      (t.dev.ax a).port = { p with ssiAt := some y.time.cyc, ssiErr := 1, ssiBad := true } ∧
      t.dev.raised (0xC0 + a.val) (objAxis a.val) 3 ∧
      (∀ b, b ≠ a → t.dev.ax b = y.ax b) ∧ ({ s with dev := y } : State).reacted t))) ∧
  (∀ (s : State) (a : AxisId) (i : Fin 3), s.running →
    Completes (.wireBreak a i false) s (fun t => (t.dev.ax a).port.wireBreak.getLsbD i.val = false ∧
      t = { s with dev := s.dev.modPort a (fun p => { p with wireBreak := (t.dev.ax a).port.wireBreak }) }) ∧
    ((if i = 2 then s.cfg.fbMode a.val = 1 ∧ s.cfg.cpi a.val ≠ 0 else s.cfg.fbMode a.val ≠ 0) →
      Completes (.wireBreak a i true) s (fun t => (t.dev.ax a).port.wireBreak.getLsbD i.val = true ∧
        (t.dev.ax a).posUncertain = true ∧ t.dev.raised (0xC0 + a.val) (objAxis a.val) 2 ∧
        (∀ b, b ≠ a → t.dev.ax b = s.dev.ax b) ∧ s.reacted t))) ∧
  (∀ (s : State) (a : AxisId) (h : BitVec 3) (fall : Bool), s.running →
    Completes (.hallEdge a h fall) s (fun t => (t.dev.ax a).port.hall = h ∧
      (hallLegal h = false → (t.dev.ax a).port.hallRun = 0 ∧ t.dev.raised (0xC0 + a.val) (objAxis a.val) 5) ∧
      (hallLegal h = true → (t.dev.ax a).port.hallTe = s.dev.stamp fall) ∧ (∀ b, b ≠ a → t.dev.ax b = s.dev.ax b) ∧ s.reacted t)) ∧
  (∀ (s : State) (a : AxisId), s.running → s.cfg.axKind a.val = 1 → max 1 (s.cfg.fbErrLimit a.val) ≤ (s.dev.ax a).port.fbRun →
    s.dev.isOpen 0x0209 (objAxis a.val) = false →
    Completes (.feedbackLoss a) s (fun t => (t.dev.ax a).port.fbLatched = true ∧
      t.dev.isOpen 0x0209 (objAxis a.val) = true ∧ 5 ≤ t.dev.axisRank t.cfg a ∧ s.reacted t)) ∧
  (∀ (s : State) (a : AxisId) (l : Bool),
    let p := (s.dev.ax a).port
    s.running → s.cfg.fbMode a.val = 1 → p.wireBreak.getLsbD 0 = false → p.aLvl ≠ l →
    Completes (.decoderCount a (.aEdge l)) s (fun t =>
      (t.dev.ax a).port.raw = sext 48 (unsx 48 (p.raw + s.cfg.fbSign a.val (if l = p.bLvl then -1 else 1))) ∧
      (t.dev.ax a).port.aLvl = l ∧ (t.dev.ax a).port.bLvl = p.bLvl ∧
      t = { s with dev := s.dev.modPort a (fun _ => (t.dev.ax a).port) }))

/-! ### Field and safety I/O (R247 to R264, R417) -/

/-- Samples, readbacks and measurements are taken at their instants: every input of a group counts its raw level once, the
safety inputs count where both paths agree, every output shows its readback, a supply its voltage; a supply that is lost leaves
the group's inputs UNKNOWN, and loss and sag end after SUP_FILT. A raw or readback level is what the comparator of the pin shows for the
voltages the command brings, its thresholds free values within R249 (log entry 10), or where it brings none the level it gives (the
model's choice, log entry 187).
An input's level is 1 once its counter has reached its
ceiling, 0 once it is 0, and stays in between. Such a row acts when commanded, at the earliest instant its rule allows (log entries 3, 4). -/
def Obligations.FieldSamples : Prop :=
  (∀ (s : State) (g : Fin 8) (raw : BitVec 8) (volts : List (List Nat)),
    let y := s.dev.untilTT s.cfg (s.dev.groupInstant s.cfg g)
    s.running → (y.grp g).loss = false →
    Completes (.inputSample g raw volts) s (fun t => (t.dev.grp g).sampled = some y.time.cyc ∧
      (∀ k : Fin 8, t.dev.inPin (inOf g k) =
        InPin.sample (max 1 (s.cfg.inCeil (inOf g k).val)) y.tt (y.axPositions s.cfg) (some (levelOf (inOf g k).val k.val volts (raw.getLsbD k.val) (y.inPin (inOf g k)).raw)) (y.inPin (inOf g k))) ∧
      (∀ i : InId, i.val / 8 ≠ g.val → t.dev.inPin i = y.inPin i) ∧ ({ s with dev := y } : State).reacted t)) ∧
  (∀ (i : Nat) (old : Bool), 5000 < fallAt i ∧ fallAt i < riseAt i ∧ riseAt i < 11000 ∧
    ∀ path : List Nat, (∀ (v : Nat), 11000 ≤ v → comparator i (path ++ [v]) old = true) ∧
      (∀ (v : Nat), v ≤ 5000 → comparator i (path ++ [v]) old = false) ∧
      ∀ v, comparator i (path ++ [v]) old =
        (if riseAt i ≤ v then true else if v ≤ fallAt i then false else comparator i path old)) ∧
  (∀ (p : InPin) (ceil tt : Nat) (pos : List Int), 0 < ceil → p.unknown = false →
    (ceil ≤ p.cnt + 1 → (InPin.sample ceil tt pos (some true) p).lvl = true) ∧
    (p.cnt ≤ 1 → (InPin.sample ceil tt pos (some false) p).lvl = false) ∧
    (p.cnt + 1 < ceil → (InPin.sample ceil tt pos (some true) p).lvl = p.lvl) ∧
    (2 ≤ p.cnt → p.cnt ≤ ceil → (InPin.sample ceil tt pos (some false) p).lvl = p.lvl)) ∧
  (∀ (s : State) (rawA rawB : BitVec 8) (volts : List (List Nat)),
    let y := s.dev.untilTT s.cfg (s.dev.safeInstant s.cfg)
    s.running →
    Completes (.safeInputSample rawA rawB volts) s (fun t => t.dev.fio.safeSampled = some y.time.cyc ∧
      ({ s with dev := y } : State).reacted t ∧ ∀ j : Fin 8,
        let a := levelOf (64 + 2 * j.val) j.val volts (rawA.getLsbD j.val) (y.sin j).lvlA
        let b := levelOf (65 + 2 * j.val) j.val volts (rawB.getLsbD j.val) (y.sin j).lvlB
        (t.dev.sin j).lvlA = a ∧ (t.dev.sin j).lvlB = b ∧
        (a = b → (t.dev.sin j).differ = 0 ∧
          (t.dev.sin j).pin = InPin.sample (max 1 (s.cfg.sinCeil j.val)) y.tt [] (some a) (y.sin j).pin) ∧
        (a ≠ b → (t.dev.sin j).agree = 0 ∧
          (t.dev.sin j).differ = min 3 ((y.sin j).differ + 1) ∧ (t.dev.sin j).diag = (y.sin j).diag))) ∧
  (∀ (s : State) (j : Fin 8), s.running → 3 ≤ (s.dev.sin j).differ → (s.dev.sin j).diag = false →
    Completes (.sinDiag j) s (fun t => t.dev.sin j = { s.dev.sin j with diag := true } ∧ (t.dev.sin j).level = false ∧
      (∀ k, k ≠ j → t.dev.sin k = s.dev.sin k) ∧ s.reacted t)) ∧
  (∀ (s : State) (l : ReadbackLevels),
    let y := s.dev.untilCyc s.cfg (nextAt s.dev.fio.readAt s.dev.time.cyc)
    s.running →
    Completes (.outputReadback l) s (fun t => t.dev.fio.readAt = some y.time.cyc ∧
      (∀ o : OutId, (t.dev.outPin o).readback = fieldLevel l o (y.outPin o).readback ∧ (t.dev.outPin o).cmd = (y.outPin o).cmd) ∧
      (∀ j : Fin 4, (t.dev.sout j).readback = safetyLevel l j (y.sout j).readback ∧ (t.dev.sout j).cmd = (y.sout j).cmd) ∧
      t = { s with dev := { y with fio := t.dev.fio } })) ∧
  (∀ (s : State) (g : Fin 8) (dv : Nat),
    let y := s.dev.untilCyc s.cfg (nextAt (s.dev.grp g).measAt s.dev.time.cyc)
    s.running →
    Completes (.supplyMeasurement g dv) s (fun t => (t.dev.grp g).vfs = dv ∧ (t.dev.grp g).measAt = some y.time.cyc ∧
      (t.dev.grp g).sag = ((y.grp g).sag || decide (dv < s.cfg.sagThr g.val)) ∧ (t.dev.grp g).loss = (y.grp g).loss ∧
      (∀ k, k ≠ g → t.dev.grp k = y.grp k) ∧ ({ s with dev := y } : State).reacted t)) ∧
  (∀ (s : State) (g : Fin 8) (c : Nat),
    let y := s.dev.untilCyc s.cfg (c + 200000 * s.cfg.supFilt g.val)
    s.running → (s.dev.grp g).lowAt = some c → (y.grp g).lowAt = some c → (y.grp g).loss = false →
    c + 200000 * s.cfg.supFilt g.val ≤ y.time.cyc →
    Completes (.supLoss g) s (fun t => (t.dev.grp g).loss = true ∧
      (∀ k : Fin 8, (t.dev.inPin (inOf g k)).unknown = true ∧ (t.dev.inPin (inOf g k)).lvl = false) ∧ ({ s with dev := y } : State).reacted t)) ∧
  (∀ (s : State) (g : Fin 8) (c : Nat) (loss : Bool),
    let y := s.dev.untilCyc s.cfg (c + 200000 * s.cfg.supFilt g.val)
    s.running → (if loss then (s.dev.grp g).lossOkAt else (s.dev.grp g).sagOkAt) = some c →
    (if loss then (y.grp g).lossOkAt else (y.grp g).sagOkAt) = some c →
    (if loss then (y.grp g).loss else (y.grp g).sag) = true → c + 200000 * s.cfg.supFilt g.val ≤ y.time.cyc →
    Completes (.supOk g loss) s (fun t => (if loss then (t.dev.grp g).loss else (t.dev.grp g).sag) = false ∧
      t.dev.raised 0xEE (objGroup g.val) 1 ∧ t.dev.fio.ins = y.fio.ins ∧ ({ s with dev := y } : State).reacted t))

/-- An output whose readback has disagreed for 2 ms is diagnosed once: NO_OUTPUT or BACKFED of a field output, LOOP_READBACK of a
safety output, which opens the loop of its side, and TWIN_XCHECK on a unit that does not hold the Summit; an output that is on
with too low a load is OPEN_LOAD, one whose channel has been in current limit for its time or trips for its heat is OVERLOAD. -/
def Obligations.OutputDiagnoses : Prop :=
  (∀ (s : State) (o : OutId),
    let p := s.dev.outPin o
    s.running → s.dev.holding = true → 2000 ≤ p.timer → p.reported = false → p.readback ≠ p.cmd → p.overload = false →
    (p.cmd = true → p.limitAt = none → exec (.outputDisagreement o) s = .next { s with
      dev := (s.dev.modOut o (fun p => { p with reported := true, noOutput := true })).faultSet s.cfg 0x0106 (objOut o.val) [] }) ∧
    (p.cmd = false → exec (.outputDisagreement o) s = .next { s with
      dev := (s.dev.modOut o (fun p => { p with reported := true, backFed := true })).faultSet s.cfg 0x0107 (objOut o.val) [] })) ∧
  (∀ (s : State) (j : Fin 4) (k : Fin 2), s.running → s.dev.holding = true → 2000 ≤ (s.dev.sout j).timer →
    (s.dev.sout j).reported = false → (s.dev.sout j).readback ≠ (s.dev.sout j).cmd → k.val = j.val / 2 →
    Completes (.loopReadback j) s (fun t => t.dev.gate.loopFault.get k = true ∧ t.dev.gate.loopCond.get k = false ∧
      (t.dev.sout j).reported = true ∧ (∀ i : Fin 4, i.val / 2 = k.val → (t.dev.sout i).cmd = false) ∧
      ({ s with dev := { s.dev with gate := t.dev.gate } } : State).reacted t)) ∧
  (∀ (s : State) (o : Fin 36), s.running → s.dev.holding = false → 2000 ≤ (s.dev.anyOut o).timer →
    (s.dev.anyOut o).reported = false →
    Completes (.twinXcheck o) s (fun t => (t.dev.anyOut o).reported = true ∧ t.dev.twin.xCnt = satInc 32 s.dev.twin.xCnt ∧
      (if o.val < 32 then t.dev.twin.xMask.getLsbD o.val = true else t.dev.twin.xSafe.getLsbD (o.val - 32) = true) ∧
      t.dev.raised 0xEB (objAnyOut o) 2 ∧ s.reacted t)) ∧
  (∀ (s : State) (o : OutId), s.running → s.dev.holding = true → s.cfg.olEn o.val = true → (s.dev.outPin o).cmd = true →
    50000 ≤ (s.dev.outPin o).lowLoad → (s.dev.outPin o).openLoad = false →
    exec (.openLoad o) s = .next { s with
      dev := (s.dev.modOut o (fun p => { p with openLoad := true })).faultSet s.cfg 0x0108 (objOut o.val) [] }) ∧
  (∀ (s : State) (o : Fin 36) (thermal : Bool), s.running → s.dev.holding = true → (s.dev.anyOut o).cmd = true →
    (s.dev.anyOut o).overload = false → (thermal = true ∨ s.dev.limitOver s.cfg o = true) →
    Completes (.overload o thermal) s (fun t => (t.dev.anyOut o).overload = true ∧ t.dev.outOn o = false ∧
      (∀ p, p ≠ o → t.dev.anyOut p = s.dev.anyOut p) ∧ s.reacted t))

/-! ### Train time (R32, R36 to R45, R56) -/

/-- A master sends its sync frame and its follow-up; the first pair after UNSET steps without confirmation, an offset of
1 ms or more is a candidate, and a smaller one steers the rate; a step is applied at its instant; sources that fall silent bring HOLDOVER or the secondary source, a long holdover its
fault, and an anchor interval its anchor. The model's readings: which states the first pair steps in (log entry 14), the retries of own
frames (log entry 16), a step below 0 leaves 0 (log entry 148, a design choice), a reset does not end the anchor interval (log entry
134). Such a row acts when commanded, at the earliest instant its rule allows (log entries 3, 4). -/
def Obligations.TrainTimeEvents : Prop :=
  (∀ (s : State) (c : ChanId),
    let i := s.cfg.syncInterval c.val
    let y := s.dev.untilTT s.cfg (if (s.dev.ch c).syncAt = some (s.dev.nextMultiple i) then s.dev.nextMultiple i + i else s.dev.nextMultiple i)
    s.running → s.dev.mayMaster s.cfg c = true → y.mayMaster s.cfg c = true → y.atMultiple i = true →
    (y.ch c).syncAt ≠ some (y.multiple i) → y.ownRoom = true →
    Completes (.syncFrameSend c) s (fun t => (t.dev.ch c).syncAt = some (y.multiple i) ∧
      (t.dev.ch c).syncSeq = wrapInc 8 (y.ch c).syncSeq ∧ t.dev.sched.pend.length = y.sched.pend.length + 1 ∧
      (∃ p ∈ t.dev.sched.pend, ∃ f, p.hdr.src = .sync c ∧ p.launch = y.multiple i ∧ p.act = .busTx c f 0 ∧
        f.ident = BitVec.ofNat 29 (s.cfg.syncId c.val) ∧
        f.data.take 3 = [0x51, BitVec.ofNat 8 (y.ch c).syncSeq, BitVec.ofNat 8 (16 * s.cfg.domain c.val)]) ∧
      t = { s with dev := { y with chans := t.dev.chans, sched := t.dev.sched } })) ∧
  (∀ (s : State) (c : ChanId) (h : SyncHalf), s.running → (s.dev.ch c).sent = some h → (s.dev.ch c).sentStep = false →
    s.dev.isMaster s.cfg c = true → s.dev.ownRoom = true →
    Completes (.followUpSend c) s (fun t => (t.dev.ch c).sent = none ∧
      (∃ p ∈ t.dev.sched.pend, ∃ f, p.hdr.src = .sync c ∧ p.act = .busTx c f 255 ∧
        f.data.take 2 = [0x52, BitVec.ofNat 8 h.seq] ∧ f.data.drop 4 = beBytes 4 (h.stamp % 2 ^ 32)) ∧
      t = { s with dev := { s.dev with chans := t.dev.chans, sched := t.dev.sched } })) ∧
  (∀ (s : State) (c : ChanId) (p : PairReady), s.running → (s.dev.ch c).ready = some p → s.cfg.timeRole c.val = 2 →
    s.cfg.chEn c.val = true → s.cfg.sourceRank c.val = false → s.dev.time.secondary = false →
    Completes (.syncPair c) s (fun t => (t.dev.ch c).ready = none ∧ t.dev.time.sourceCh = c ∧
      t.dev.time.offset = clampI (-2147483648) 2147483647 p.e ∧
      (s.dev.time.state = .unset → t.dev.time.step = some p.e ∧ t.dev.time.firstSync = true) ∧
      (s.dev.time.state ≠ .unset → s.dev.time.cand = none → 1000000 ≤ p.e.natAbs →
        t.dev.time.cand = some p.e ∧ t.dev.time.stepPending = true ∧ t.dev.time.step = s.dev.time.step ∧
        t.dev.time.state = s.dev.time.state) ∧
      (s.dev.time.state = .locked → s.dev.time.cand = none → p.e.natAbs < 2000 →
        let tc : Rat := max 1 (s.cfg.servoTc : Nat)
        t.dev.time.state = .locked ∧ t.dev.time.freq = clampQ 100000 (s.dev.time.freq + (p.e : Rat) / tc / 4) ∧
        t.dev.time.rate = clampQ ((1000 * s.cfg.slewLimit : Nat) : Rat) (t.dev.time.freq + (p.e : Rat) / tc)) ∧
      ({ s with dev := { s.dev with time := t.dev.time, chans := t.dev.chans } } : State).reacted t)) ∧
  (∀ (s : State) (e : Int),
    let y := s.dev.untilStep s.cfg (s.dev.nextMultiple 200000)
    s.running → s.dev.time.setReq = none → s.dev.time.step = some e → y.time.setReq = none → y.time.step = some e →
    y.sched.pend = [] → y.twin.hand = .none → y.time.frac < 2 ^ 32 →
    Completes .timeStep s (fun t => t.dev.tt = ((y.tt : Int) + stepAmount e).toNat % 2 ^ 64 ∧ t.dev.time.step = none ∧
      t.dev.time.state = (if s.cfg.followerConfigured = false ∨ (y.time.firstSync = false ∧ y.time.state = .set)
        then y.time.state else .acquiring) ∧
      t.dev.time.cyc = y.time.cyc ∧ t.dev.time.frames = y.time.frames)) ∧
  (∀ (s : State), s.running → s.calm → s.cfg.followerConfigured = true →
    (s.dev.time.state = .acquiring ∨ s.dev.time.state = .locked) →
    (∀ c : ChanId, s.cfg.timeRole c.val = 2 → s.cfg.chEn c.val = true → s.dev.silent s.cfg c = true) →
    Completes .holdover s (fun t => t.dev.time.state = .holdover ∧ t.dev.time.rate = s.dev.time.freq ∧
      t.dev.time.holdoverAt = s.dev.time.cyc ∧ ({ s with dev := { s.dev with time := t.dev.time } } : State).reacted t)) ∧
  (∀ (s : State) (p q : ChanId), s.running → s.calm → s.cfg.follower false = some p → s.cfg.follower true = some q →
    s.dev.time.secondary = false → s.dev.silent s.cfg p = true → s.dev.silent s.cfg q = false →
    Completes .sourceChange s (fun t => t.dev.time.secondary = true ∧ t.dev.time.sourceCh = q ∧
      t.dev.time.sourceChanged = true ∧ ({ s with dev := { s.dev with time := t.dev.time } } : State).reacted t)) ∧
  (∀ (s : State), s.running → s.calm → s.dev.time.state = .holdover → s.dev.time.holdoverExpired = false →
    s.dev.time.holdoverAt + 200000000 * max 1 s.cfg.holdoverLim ≤ s.dev.time.cyc →
    Completes .syncHoldover s (fun t => t.dev.time.holdoverExpired = true ∧ t.dev.time.state = .holdover ∧
      ({ s with dev := { s.dev with time := t.dev.time } } : State).reacted t)) ∧
  (∀ (s : State), s.running → s.calm → s.dev.time.anchorOp + 60000000 * max 1 s.cfg.anchorInt ≤ s.dev.optime →
    s.dev.cairn.st = .running → s.dev.cairn.pf = false → s.dev.cairn.queue.length < 512 →
    Completes .periodicAnchor s (fun t => t.dev.time.anchorOp = s.dev.optime ∧
      (∃ r : RawRec, r.type = 0x0005 ∧ r.source = 0x800 + ((s.dev.sourceOf s.cfg).map Fin.val).getD 255 ∧
        r.at' = s.dev.time.cyc ∧ t.dev.cairn.queue = enqueueRec r s.dev.cairn.queue) ∧
      ({ s with dev := { s.dev with time := t.dev.time } } : State).reacted t))

/-! ### Bus channels (R341 to R366) -/

/-- Frames on a channel: one received without error lowers the receive counter and is staged for the host by its filter entry, a
staged one goes to the oldest buffer large enough; an attempt takes the frame that wins arbitration with the channel's
error state in its ESI, and leaves with it, keeps it for another attempt, or gives it up after its last; an error moves its
counter by what ISO 11898-1 has the model presume (log entry 74), above 255 to bus-off, but none in a CAN XL frame without error
signalling; a passed deadline is reported once, when BUS_TX_LATE is commanded (log entry 4). -/
def Obligations.BusFrames : Prop :=
  (∀ (s : State) (c : ChanId) (f : CanFrame) (sof i : Nat), s.running → (s.dev.ch c).mode = .running →
    s.dev.fmtOn s.cfg c f.fmt = true → s.cfg.selected c.val f = some i → (s.dev.ch c).staging = none →
    (s.dev.ch c).recv ≤ 127 →
    Completes (.frameReceived c f sof) s (fun t =>
      (t.dev.ch c).staging = some ⟨f, sof, i, false, (s.dev.ch c).rxSeq, (s.dev.ch c).lostRun⟩ ∧
      (t.dev.ch c).rxSeq = wrapInc 16 (s.dev.ch c).rxSeq ∧ (t.dev.ch c).recv = (s.dev.ch c).recv - 1 ∧
      t.dev.su = s.dev.su ∧ t.dev.img = s.dev.img ∧ t.dev.keeper = s.dev.keeper ∧
      (s.dev.isPeerBeat s.cfg c f = false →
        t.dev.axes = s.dev.axes ∧ t.dev.doors = s.dev.doors ∧ t.dev.fio = s.dev.fio ∧ t.dev.gate = s.dev.gate ∧
        t.dev.caps = s.dev.caps))) ∧
  (∀ (s : State) (c : ChanId) (f : CanFrame) (sof : Nat), s.running → (s.dev.ch c).mode = .detect →
    (s.dev.ch c).candAt.isSome = true → s.cfg.candFmt c.val (s.dev.ch c).cand f.fmt = true →
    exec (.frameReceived c f sof) s = .next { s with dev := (s.dev.sampleCancels s.cfg c sof).modCh c (fun v => { v with
      detectFrames := satInc 32 v.detectFrames, good := min (max 1 (s.cfg.rateConfirm c.val)) (v.good + 1) }) }) ∧
  (∀ (s : State) (c : ChanId) (r : RxRec) (b : RxBuf), s.running → (s.dev.ch c).staging = some r →
    (s.dev.ch c).bufs.find? (fun b => decide (32 + r.frame.data.length ≤ b.len)) = some b → s.dev.linkOk = true →
    b.buf.pages = [] →
    Completes (.rxRecordDelivery c) s (fun t =>
      t.dev.ch c = { s.dev.ch c with
        staging := (s.dev.ch c).shadow, shadow := none, bufs := (s.dev.ch c).bufs.filter (fun q => decide (q.hdr.uid ≠ b.hdr.uid)) } ∧
      t.dev.host.link = s.dev.host.link ++ [.write b.buf.addr (rxBytes c b.cookie r)] ∧ t.dev.gave b.hdr stOK ∧
      t = { s with dev := { s.dev with chans := t.dev.chans, host := t.dev.host, atolls := t.dev.atolls } })) ∧
  (∀ (s : State) (c : ChanId) (sof : Nat) (q : TxFrame), s.running → (s.dev.ch c).mode = .running → (s.dev.ch c).att = none →
    s.cfg.listenOnly c.val = false → bestFrame (s.dev.ch c).txq = some q →
    Completes (.txAttempt c sof) s (fun t => (t.dev.ch c).att = some q.hdr.uid ∧
      (∃ r ∈ (t.dev.ch c).txq, r.hdr.uid = q.hdr.uid ∧ r.made = q.made + 1 ∧ r.sof = some sof ∧
        r.frame = { q.frame with esi := decide (q.frame.fmt ≠ .cc ∧ (s.dev.ch c).errState = 1) }) ∧
      (∀ d, d ≠ c → t.dev.ch d = s.dev.ch d) ∧
      t = { s with dev := { s.dev with chans := t.dev.chans, parts := t.dev.parts, host := t.dev.host, atolls := t.dev.atolls } })) ∧
  (∀ (s : State) (c : ChanId) (q : TxFrame), s.running → (s.dev.ch c).att = some q.hdr.uid →
    (s.dev.ch c).txq.find? (fun t => decide ((s.dev.ch c).att = some t.hdr.uid)) = some q →
    Completes (.txAttemptEnd c .sent) s (fun t => (t.dev.ch c).att = none ∧ (t.dev.ch c).tec = (s.dev.ch c).tec - 1 ∧
      (t.dev.ch c).txq = (s.dev.ch c).txq.filter (fun r => decide (r.hdr.uid ≠ q.hdr.uid)) ∧
      ({ s with dev := { s.dev with chans := t.dev.chans, parts := t.dev.parts } } : State).reacted t) ∧
    ∀ o, o ≠ .sent →
      (q.made ≤ q.limit → q.cancel = none → Completes (.txAttemptEnd c o) s (fun t => (t.dev.ch c).att = none ∧
        (t.dev.ch c).txq.map (fun r => r.hdr.uid) = (s.dev.ch c).txq.map (fun r => r.hdr.uid) ∧
        t = { s with dev := { s.dev with chans := t.dev.chans } })) ∧
      ((q.limit < q.made ∨ q.cancel.isSome = true) → Completes (.txAttemptEnd c o) s (fun t => (t.dev.ch c).att = none ∧
        (t.dev.ch c).txq = (s.dev.ch c).txq.filter (fun r => decide (r.hdr.uid ≠ q.hdr.uid)) ∧
        (t.dev.ch c).tec = (s.dev.ch c).tec ∧
        t = { s with dev := { s.dev with
          chans := t.dev.chans, parts := t.dev.parts, host := t.dev.host, atolls := t.dev.atolls } }))) ∧
  (∀ (s : State) (c : ChanId) (e : BusErr) (xl : Bool) (sof : Nat), s.running → (s.dev.ch c).mode = .running →
    s.cfg.listenOnly c.val = false → (∀ q ∈ (s.dev.ch c).txq, q.cancel = none) → (s.dev.ch c).tec ≤ 255 →
    let quiet : Bool := xl && s.cfg.xlTms c.val
    let n := if quiet = true ∨ e = .stuff true ∨ e = .afterFlag ∨ (e = .ack false ∧ (s.dev.ch c).errState = 1) then 0 else 8
    let m := if quiet then 0 else if e = .afterFlag ∨ e = .flagBit ∨ e = .dominantRun then 8 else 1
    Completes (.busError c e true xl sof) s (fun t => (t.dev.ch c).lastErr = busErrCode (s.dev.ch c).lastErr e ∧
      (t.dev.ch c).tec = (s.dev.ch c).tec + n ∧
      (255 < (s.dev.ch c).tec + n → (t.dev.ch c).mode = .busOff ∧ (t.dev.ch c).txq = []) ∧
      ((s.dev.ch c).tec + n ≤ 255 → (t.dev.ch c).mode = .running ∧ (t.dev.ch c).txq = (s.dev.ch c).txq) ∧
      (∀ d, d ≠ c → t.dev.ch d = s.dev.ch d) ∧ ({ s with dev := { s.dev with chans := t.dev.chans, parts := t.dev.parts } } : State).reacted t) ∧
    Completes (.busError c e false xl sof) s (fun t => (t.dev.ch c).lastErr = busErrCode (s.dev.ch c).lastErr e ∧
      (t.dev.ch c).recv = min 255 ((s.dev.ch c).recv + m) ∧ (t.dev.ch c).tec = (s.dev.ch c).tec ∧ (t.dev.ch c).mode = .running ∧
      (∀ d, d ≠ c → t.dev.ch d = s.dev.ch d) ∧ ({ s with dev := { s.dev with chans := t.dev.chans } } : State).reacted t)) ∧
  (∀ (s : State) (c : ChanId) (uid : Nat) (q : TxFrame),
    let y := s.dev.untilTT s.cfg q.deadline
    s.running → (s.dev.ch c).txq.find? (fun t => decide (t.hdr.uid = uid)) = some q →
    (y.ch c).txq.find? (fun t => decide (t.hdr.uid = uid)) = some q → q.lateRaised = false → q.deadline ≤ y.tt →
    let z := y.modCh c (fun v => { v with
      txq := v.txq.map (fun r => if r.hdr.uid = q.hdr.uid then { r with lateRaised := true } else r) })
    exec (.busTxLate c uid) s =
      .next { s with dev := z.faultSet s.cfg 0x0301 (objChan c.val) (leBytes 4 q.hdr.seq.toNat) })

/-- The states of a channel: integration ends in RUNNING, or starts a candidate's dwell in DETECT, a frame
of a format that is off brings it back or counts as a form error, and in DETECT is noted alone, recovery clears the
counters, SLEEP takes effect at bus idle and gives every queued frame back, a wake ends in integration or rate detection, and
detection goes on to the next candidate, adopts one or gives up. Such a row acts when commanded, at the earliest instant its rule allows (log entries 3, 4). -/
def Obligations.ChannelEvents : Prop :=
  (∀ (s : State) (c : ChanId), s.running → (s.dev.ch c).mode = .integrating →
    exec (.busIntegration c) s = .next { s with dev := s.dev.modCh c (fun v => { v with mode := .running }) }) ∧
  (∀ (s : State) (c : ChanId), s.running → (s.dev.ch c).mode = .detect → (s.dev.ch c).candAt = none →
    exec (.busIntegration c) s = .next { s with dev := s.dev.modCh c (fun v => { v with candAt := some s.dev.time.cyc }) }) ∧
  (∀ (s : State) (c : ChanId) (xl : Bool) (sof : Nat), s.running → (s.dev.ch c).mode = .running →
    s.dev.fmtOn s.cfg c (if xl then .xl else .fd) = false →
    (s.cfg.pexEn c.val = true → Completes (.protocolExc c xl sof) s (fun t =>
      t.dev.ch c = { (s.dev.sampleCancels s.cfg c sof).ch c with mode := .integrating } ∧
      t.dev.raised (0xD8 + c.val) (objChan c.val) 5 ∧ (∀ d, d ≠ c → t.dev.ch d = s.dev.ch d) ∧
      ({ s with dev := { s.dev with chans := t.dev.chans, parts := t.dev.parts } } : State).reacted t)) ∧
    (s.cfg.pexEn c.val = false → exec (.protocolExc c xl sof) s = exec (.busError c .form false false sof) s)) ∧
  (∀ (s : State) (c : ChanId) (xl : Bool) (sof : Nat), s.running → (s.dev.ch c).mode = .detect → (s.dev.ch c).candAt.isSome = true →
    s.cfg.candFmt c.val (s.dev.ch c).cand (if xl then .xl else .fd) = false →
    (s.cfg.pexEn c.val = true → Completes (.protocolExc c xl sof) s (fun t =>
      t.dev.ch c = (s.dev.sampleCancels s.cfg c sof).ch c ∧
      t.dev.raised (0xD8 + c.val) (objChan c.val) 5 ∧ (∀ d, d ≠ c → t.dev.ch d = s.dev.ch d) ∧
      ({ s with dev := { s.dev with chans := t.dev.chans, parts := t.dev.parts } } : State).reacted t)) ∧
    (s.cfg.pexEn c.val = false → exec (.protocolExc c xl sof) s = exec (.busError c .form false false sof) s)) ∧
  (∀ (s : State) (c : ChanId), s.running → (s.dev.ch c).mode = .recovering →
    Completes (.busOk c) s (fun t => t.dev.ch c = { s.dev.ch c with mode := .running, tec := 0, recv := 0, warned := false } ∧
      t.dev.raised (0xD8 + c.val) (objChan c.val) 3 ∧ (∀ d, d ≠ c → t.dev.ch d = s.dev.ch d) ∧ ({ s with dev := { s.dev with chans := t.dev.chans } } : State).reacted t)) ∧
  (∀ (s : State) (c : ChanId),
    let y := s.dev.untilCyc s.cfg ((s.dev.ch c).boffAt + 200000 * s.cfg.boffDelay c.val)
    s.running → (s.dev.ch c).mode = .busOff → s.cfg.boffAuto c.val = true → (y.ch c).mode = .busOff →
    (y.ch c).boffAt + 200000 * s.cfg.boffDelay c.val ≤ y.time.cyc →
    exec (.autoRecoveryStart c) s = .next { s with dev := y.modCh c (fun v => { v with mode := .recovering }) }) ∧
  (∀ (s : State) (c : ChanId), s.running → (s.dev.ch c).sleepReq ≠ [] → (s.dev.ch c).mode ≠ .off → (s.dev.ch c).att = none →
    Completes (.channelAsleep c) s (fun t => (t.dev.ch c).mode = .asleep ∧ (t.dev.ch c).sleepReq = [] ∧ (t.dev.ch c).txq = [] ∧
      (∀ h, some h ∈ (s.dev.ch c).sleepReq → t.dev.gave h stOK) ∧ (∀ d, d ≠ c → t.dev.ch d = s.dev.ch d) ∧
      ({ s with dev := { s.dev with chans := t.dev.chans, parts := t.dev.parts } } : State).reacted t)) ∧
  (∀ (s : State) (c : ChanId),
    let y := s.dev.untilCyc s.cfg ((s.dev.ch c).wakeAt + 10000)
    s.running → (s.dev.ch c).mode = .waking → (y.ch c).mode = .waking → (y.ch c).wakeAt + 10000 ≤ y.time.cyc →
    Completes (.busWake c) s (fun t => (t.dev.ch c).mode = (if s.cfg.rateAuto c.val then .detect else .integrating) ∧
      t.dev.raised (0xD8 + c.val) (objChan c.val) 8 ∧ (∀ d, d ≠ c → t.dev.ch d = y.ch d) ∧ ({ s with dev := { y with chans := t.dev.chans } } : State).reacted t)) ∧
  (∀ (s : State) (c : ChanId) (onError : Bool) (k e : Nat),
    let y := s.dev.untilCyc s.cfg (if onError then s.dev.time.cyc else k + 200000 * s.cfg.rateDwell c.val)
    s.running → (s.dev.ch c).mode = .detect → (s.dev.ch c).candAt = some k → (y.ch c).mode = .detect →
    (y.ch c).candAt = some e → (onError = true ∨ e + 200000 * s.cfg.rateDwell c.val ≤ y.time.cyc) →
    (y.rateOver s.cfg c = false → exec (.rateCandidateNext c onError) s = .next { s with dev := y.modCh c (fun v => { v with
      cand := (v.cand + 1) % max 1 (s.cfg.rateNcand c.val), good := 0, candAt := none }) }) ∧
    (y.rateOver s.cfg c = true → ∀ i ∈ [Instr.rateFail c onError, .rateCandidateNext c onError],
      Completes i s (fun t => (t.dev.ch c).mode = .noRate ∧ (t.dev.ch c).txq = [] ∧
        t.dev.raised (0xD8 + c.val) (objChan c.val) 7 ∧ (∀ d, d ≠ c → t.dev.ch d = y.ch d) ∧
        ({ s with dev := { y with chans := t.dev.chans, parts := t.dev.parts } } : State).reacted t))) ∧
  (∀ (s : State) (c : ChanId), s.running → (s.dev.ch c).mode = .detect → max 1 (s.cfg.rateConfirm c.val) ≤ (s.dev.ch c).good →
    Completes (.rateFound c) s (fun t =>
      t.dev.ch c = { s.dev.ch c with mode := .running, rateFound := true, rateUsed := (s.dev.ch c).cand } ∧
      t.dev.raised (0xD8 + c.val) (objChan c.val) 6 ∧ (∀ d, d ≠ c → t.dev.ch d = s.dev.ch d) ∧ ({ s with dev := { s.dev with chans := t.dev.chans } } : State).reacted t))

/-! ### Partners and the bus service (R373, R374, R433) -/

/-- A context whose heartbeat is overdue falls silent and one that has aged is freed; a service request is answered in frames of
the service channel, one for a LEDGER or STATUS request and one for each record of a RECORDS request. Such a row acts when commanded, at the earliest instant its rule allows (log entries 3, 4). -/
def Obligations.PartnersAndService : Prop :=
  (∀ (s : State) (i : Fin 256) (n m : Nat),
    let y := s.dev.untilTT s.cfg n
    s.running → s.dev.beatDue s.cfg i = some n → ((s.dev.ctx i).st = .new ∨ (s.dev.ctx i).st = .live) →
    ((y.ctx i).st = .new ∨ (y.ctx i).st = .live) → y.beatDue s.cfg i = some m → m ≤ y.tt → y.isSealed = true →
    Completes (.partnerLate i) s (fun t => t.dev.ctx i = { y.ctx i with st := .silent } ∧
      (∀ j, j ≠ i → t.dev.ctx j = y.ctx j) ∧ ({ s with dev := { y with parts := t.dev.parts } } : State).reacted t)) ∧
  (∀ (s : State) (i : Fin 256),
    let y := s.dev.untilTT s.cfg (s.dev.ageDue s.cfg i + 12)
    s.running → (s.dev.ctx i).st ≠ .free → (s.dev.ctx i).pinned = false → (y.ctx i).st ≠ .free → (y.ctx i).pinned = false →
    y.ageDue s.cfg i ≤ y.tt → y.isSealed = true →
    Completes (.partnerGone i) s (fun t => (t.dev.ctx i).st = .free ∧ t.dev.raised 0xE5 (objCtx i.val) 2 ∧
      (∀ j, j ≠ i → t.dev.ctx j = y.ctx j) ∧ ({ s with dev := { y with parts := t.dev.parts } } : State).reacted t)) ∧
  (∀ (s : State) (c : ChanId) (tag : Byte) (d : DoorId), s.running → s.cfg.svcCh = some c → s.dev.parts.svcBusy = [] →
    s.dev.ownRoom = true →
    (∀ i ∈ [Instr.svcStatus tag, .svcLedger tag (BitVec.ofNat 32 d.val)],
      Completes i s (fun t => t.dev.parts.svcBusy = [s.dev.sched.nextUid] ∧
        t.dev.sched.pend.length = s.dev.sched.pend.length + 1 ∧
        (∃ p ∈ t.dev.sched.pend, ∃ f, p.hdr.src = .service ∧ p.act = .busTx c f 255 ∧ f.data.take 4 = [0x44, tag, 0, 0] ∧
          f.data.length = 48) ∧
        t = { s with dev := { s.dev with sched := t.dev.sched, parts := t.dev.parts } }))) ∧
  (∀ (s : State) (c : ChanId) (tag count : Byte) (first : Word), s.running → s.cfg.svcCh = some c → s.dev.parts.svcBusy = [] →
    1 ≤ count.toNat → count.toNat ≤ 64 →
    let r := s.dev.cairn
    let start := if seqBefore first.toNat r.oldest then r.oldest else first.toNat
    let n := min (if seqBefore r.headSeq start then 0 else (r.next + 2 ^ 32 - start) % 2 ^ 32) count.toNat
    s.dev.slots (fun s => !Src.isHost s && !Src.isRoute s) + n ≤ 256 →
    Completes (.svcRecords tag count first) s (fun t =>
      t.dev.sched.pend.length = s.dev.sched.pend.length + n ∧ t.dev.parts.svcBusy.length = n ∧
      t = { s with dev := { s.dev with sched := t.dev.sched, parts := t.dev.parts } }))

/-! ### The twin pair (R391 to R418) -/

/-- The Isthmus and the Summit: heartbeats go out, valid frames count and bring the Isthmus up, its loss shows in PEER_STATE, late
batches and cleared staleness are noted; a claim is made, confirmed, or given up, the unit loses the Summit to a conflict, a
watchdog that runs out or a readback that disagrees. The model's choices and readings here: ISTHMUS_DOWN says what ends the link (log
entry 93, a design choice), SUMMIT_LINE acts without the twin enabled too (log entry 94), the Summit line is judged on its changes (log
entry 83), and unit A raises SUMMIT_CONFLICT once (log entry 84). Such a row acts when commanded, at the earliest instant its rule allows (log entries 3, 4). -/
def Obligations.TwinEvents : Prop :=
  (∀ (s : State) (c : ChanId),
    let y := s.dev.untilTT s.cfg (if s.dev.twin.hbAt = some (s.dev.nextMultiple 1000000) then s.dev.nextMultiple 1000000 + 1000000 else s.dev.nextMultiple 1000000)
    s.running → s.cfg.hbCh = some c → s.dev.twin.en = true → s.dev.isSealed = true → y.twin.en = true → y.isSealed = true →
    y.atMultiple 1000000 = true → y.twin.hbAt ≠ some (y.multiple 1000000) → y.ownRoom = true →
    Completes .twinHeartbeatSend s (fun t => t.dev.twin.hbAt = some (y.multiple 1000000) ∧
      t.dev.twin.hbSeq = wrapInc 8 y.twin.hbSeq ∧ t.dev.sched.pend.length = y.sched.pend.length + 1 ∧
      (∃ p ∈ t.dev.sched.pend, ∃ f, p.hdr.src = .heartbeat ∧ p.act = .busTx c f 0 ∧
        f.data.take 2 = [0x54, BitVec.ofNat 8 y.twin.hbSeq]) ∧
      t = { s with dev := { y with twin := t.dev.twin, sched := t.dev.sched } })) ∧
  (∀ (s : State) (f : IsthmusFrame), s.running → s.dev.twin.en = true →
    ((f.aligned && f.crcOk && decide (f.header.getD 0 0 = 1)) = true →
      let run := if s.dev.twin.isRun ≠ 0 ∧ s.dev.twin.isFrame + 1 = s.dev.time.frames then s.dev.twin.isRun + 1
        else if s.dev.twin.isRun ≠ 0 ∧ s.dev.twin.isFrame = s.dev.time.frames then s.dev.twin.isRun else 1
      Completes (.isthmusFrameReceived f) s (fun t => t.dev.twin.peerHdr = f.header ∧ t.dev.twin.isRun = min run 255 ∧
        t.dev.twin.isUp = (s.dev.twin.isUp || decide (8 ≤ run)) ∧ t.dev.twin.isFrame = s.dev.time.frames)) ∧
    ((f.aligned && f.crcOk && decide (f.header.getD 0 0 = 1)) = false →
      Completes (.isthmusFrameReceived f) s (fun t => t.dev.twin.isRun = 0 ∧ t.dev.twin.rx = none ∧
        t.dev.twin.peerHdr = s.dev.twin.peerHdr ∧ t = { s with dev := { s.dev with twin := t.dev.twin, host := t.dev.host, atolls := t.dev.atolls } }))) ∧
  (∀ (s : State) (lanes : Bool),
    let y := if lanes then s.dev else s.dev.untilCyc s.cfg (s.dev.twin.isAt + 20000)
    s.running → s.dev.twin.isUp = true → y.twin.isUp = true →
    Completes (.isthmusDown lanes) s (fun t => t.dev.twin.isUp = false ∧ t.dev.twin.isRun = 0 ∧ t.dev.twin.rx = none ∧
      t.dev.twin.peer = (if y.heardPeer s.cfg then 1 else 2) ∧ ({ s with dev := y } : State).reacted t)) ∧
  (∀ (s : State) (c : Nat),
    let y := s.dev.untilCyc s.cfg (c + 200000 * s.cfg.hbMissMs)
    s.running → s.dev.twin.isUp = false → s.dev.twin.peerHb = some c → y.twin.isUp = false → y.heardPeer s.cfg = false →
    Completes .peerLost s (fun t => t.dev.twin.peer = 2 ∧ t.dev.twin.isUp = false ∧ ({ s with dev := y } : State).reacted t)) ∧
  (∀ (s : State) (b e : Nat × Nat),
    let y := s.dev.untilCyc s.cfg (b.2 + 200 * s.cfg.mirrorDl)
    s.running → s.dev.twin.unacked.find? (fun b => !s.dev.twin.lateBatches.contains b.1) = some b → y.holding = true →
    y.twin.unacked.find? (fun b => decide (b.2 + 200 * s.cfg.mirrorDl ≤ y.time.cyc) && !y.twin.lateBatches.contains b.1) = some e →
    Completes .mirrorLate s (fun t => t.dev.twin.lateBatches = y.twin.lateBatches ++ [e.1] ∧ ({ s with dev := y } : State).reacted t)) ∧
  (∀ (s : State) (c e : Nat),
    let w := s.dev.twinWatch
    let y := w.untilCyc s.cfg (c + 20000000)
    s.running → w.twin.clearAt = some c → y.twin.clearAt = some e → y.twin.stale = true → e + 20000000 ≤ y.time.cyc →
    exec .staleCleared s = .next { s with dev := y.modTwin (fun t => { t with stale := false }) }) ∧
  (∀ (s : State) (high : Bool), s.running → s.dev.twin.en = true → s.dev.twin.see ≠ high →
    Completes (.summitSeeChange high) s (fun t => t.dev.twin.see = high ∧
      (high = true → t.dev.twin.seeAt = s.dev.time.cyc ∧ t.dev.twin.summit = s.dev.twin.summit) ∧
      (high = false → t.dev.twin.seenLow = true ∧
        (s.dev.twin.summit = .claiming → s.dev.twin.unitB = true → t.dev.twin.summit = .backoff ∧ t.dev.twin.drive = false) ∧
        (s.dev.twin.summit = .claiming → s.dev.twin.unitB = false → t.dev.twin.summit = .claiming) ∧
        (s.dev.twin.summit = .holding → s.dev.twin.unitB = true →
          t.dev.twin.summit = .demoted ∧ t.dev.isOpen 0x0402 objDevice = true) ∧
        (s.dev.twin.summit = .holding → s.dev.twin.unitB = false → t.dev.twin.summit = .holding ∧ t.dev.twin.drive = s.dev.twin.drive ∧
          t.dev.isOpen 0x0402 objDevice = true ∧
          (s.dev.isOpen 0x0402 objDevice = false → t.dev.raised 0xF4 objDevice 0x0402) ∧
          (s.dev.isOpen 0x0402 objDevice = true → t.dev.evt = s.dev.evt))) ∧ s.reacted t)) ∧
  (∀ (s : State),
    let y := s.dev.untilCyc s.cfg (s.dev.claimAt s.cfg)
    s.running → s.dev.twin.summit = .standby → y.twin.en = true → y.twin.summit = .standby → y.healthy = true →
    y.twin.see = true → y.claimAt s.cfg ≤ y.time.cyc →
    exec .claim s = .next { s with dev := y.modTwin (fun t => { t with summit := .claiming, drive := true, claimAt := y.time.cyc }) }) ∧
  (∀ (s : State),
    let y := s.dev.untilCyc s.cfg (s.dev.twin.claimAt + 600)
    s.running → s.dev.twin.summit = .claiming → s.dev.twin.see = true → y.twin.summit = .claiming → y.twin.see = true →
    y.twin.claimAt + 600 ≤ y.time.cyc →
    Completes .claimConfirmed s (fun t => t.dev.twin.summit = .holding ∧ t.dev.twin.held = true ∧ t.dev.twin.rx = none ∧
      t.dev.raised 0xEC objDevice 1 ∧ ({ s with dev := y } : State).reacted t)) ∧
  (∀ (s : State),
    let y := s.dev.untilCyc s.cfg (s.dev.twin.claimAt + 2000)
    s.running → s.dev.twin.summit = .backoff → y.twin.summit = .backoff → y.twin.claimAt + 2000 ≤ y.time.cyc →
    exec .backoffElapsed s = .next { s with dev := y.modTwin (fun t => { t with summit := .standby }) }) ∧
  (∀ (s : State), s.running → s.dev.isSealed = true →
    Completes .summitLine s (fun t => t.dev.isOpen 0x0401 objDevice = true ∧ (s.dev.twin.drive = true → 7 ≤ t.dev.unitRank) ∧
      s.reacted t)) ∧
  (∀ (s : State),
    let y := s.dev.untilCyc s.cfg s.dev.twin.wdogDue
    s.running → s.dev.twin.wdogFired = false → y.twin.wdogFired = false → y.twin.wdogAt + 10000 ≤ y.time.cyc →
    Completes .frameWdog s (fun t => t.dev.twin.wdogFired = true ∧ t.dev.twin.wdogRun = 0 ∧
      t.dev.isOpen 0x0400 objDevice = true ∧ 7 ≤ t.dev.unitRank ∧
      (y.twin.summit = .holding → t.dev.twin.summit = .demoted) ∧ ({ s with dev := y } : State).reacted t))

/-- An exchange of the Summit: REQUEST and OFFER are granted where the conditions hold and declined otherwise, each message waiting for a
header of its own behind those said before it, GRANT and ACCEPT set the instant, at which the holder releases the Summit and its gate outputs; a DECLINE or an abandoned exchange ends it. That tags
count up and when a yield ends are the model's readings (log entries 89 and 90). Such a row acts when commanded, at the earliest instant its rule allows (log entries 3, 4). -/
def Obligations.HandoverEvents : Prop :=
  (∀ (s : State) (c : Nat),
    let w := s.dev.twinWatch
    let y := w.untilCyc s.cfg (max (c + 200000000 * s.cfg.tbDwell) (match w.twin.reqAt with
      | some r => r + 200000000
      | none => 0))
    s.running → w.twin.healthyAt = some c → y.twin.en = true → y.twin.pref = true → y.mayTake s.cfg = true →
    y.twin.inhibit = false → y.pendingAct = 0 → (∀ r, y.twin.reqAt = some r → r + 200000000 ≤ y.time.cyc) →
    Completes .takebackRequest s (fun t => t.dev.twin.hand = .requested (y.twin.handTag + 1) ∧
      t.dev.twin.msgs = y.twin.msgs ++ [(1, y.twin.handTag + 1)] ∧ t.dev.twin.reqAt = some y.time.cyc ∧
      t = { s with dev := { y with twin := t.dev.twin } })) ∧
  (∀ (s : State) (tag : Byte), s.running → s.dev.twin.en = true →
    let n := s.dev.twin.msgs.length
    let tells := fun (m : Nat) (t : State) => t.dev.twin.msgs = s.dev.twin.msgs ++ [(m, tag)]
    (s.dev.holding = true → Completes (.handoverRequest tag) s (fun t =>
      (s.dev.twinWatch.mayRelease s.cfg = true → tells 3 t ∧
        ∃ hs, t.dev.twin.hand = .granting tag (s.dev.time.frames + 3 + n) hs) ∧
      (s.dev.twinWatch.mayRelease s.cfg = false → tells 5 t) ∧ t = { s with dev := { s.dev with twin := t.dev.twin, host := t.dev.host, atolls := t.dev.atolls } })) ∧
    (s.dev.holding = false → Completes (.handoverOffer tag) s (fun t =>
      (s.dev.twinWatch.mayTake s.cfg = true → tells 4 t ∧
        t.dev.twin.hand = .awaiting tag (s.dev.time.frames + 3 + n) true) ∧
      (s.dev.twinWatch.mayTake s.cfg = false → tells 5 t) ∧ t = { s with dev := { s.dev with twin := t.dev.twin, host := t.dev.host, atolls := t.dev.atolls } }))) ∧
  (∀ (s : State) (tag : Byte) (hs : List Hdr), s.running →
    (s.dev.twin.hand = .requested tag →
      Completes (.handoverGrant tag) s (fun t => t.dev.twin.hand = .awaiting tag (s.dev.time.frames + 2) false ∧
        t = { s with dev := { s.dev with twin := t.dev.twin, host := t.dev.host, atolls := t.dev.atolls } })) ∧
    (s.dev.twin.hand = .offered tag hs → s.dev.holding = true →
      Completes (.handoverGrant tag) s (fun t => t.dev.twin.hand = .granting tag (s.dev.time.frames + 2) hs ∧
        t = { s with dev := { s.dev with twin := t.dev.twin, host := t.dev.host, atolls := t.dev.atolls } })) ∧
    (s.dev.twin.hand = .offered tag hs → s.dev.holding = true →
      Completes .handoverDecline s (fun t => t.dev.twin.hand = .none ∧ t.dev.holding = true ∧
        (∀ h ∈ hs, t.dev.gave h stState) ∧ s.reacted t))) ∧
  (∀ (s : State) (tag : Byte) (n : Nat) (hs : List Hdr), s.running → s.dev.twin.hand = .granting tag n hs →
    s.dev.holding = true → exec .handoverDecline s = .next { s with dev := s.dev.twinWatch } ∧
      s.dev.twinWatch.twin.hand = .granting tag n hs) ∧
  (∀ (s : State) (tag : Byte) (h : Nat) (hs : List Hdr),
    let y := s.dev.untilFrame s.cfg h
    s.running → s.dev.twin.hand = .granting tag h hs → y.twin.hand = .granting tag h hs → h ≤ y.time.frames →
    y.mayRelease s.cfg = true →
    Completes .handoverInstant s (fun t => t.dev.twin.summit = .standby ∧ t.dev.twin.drive = false ∧
      t.dev.twin.handAt = some y.time.cyc ∧ (∀ a, (t.dev.ax a).port.out = .hiZ) ∧
      t.dev.twin.hand = (if hs.isEmpty then .none else .yielded y.time.cyc hs) ∧ ({ s with dev := y } : State).reacted t)) ∧
  (∀ (s : State) (tag : Byte) (h : Nat) (offer : Bool),
    let y := s.dev.untilFrame s.cfg (h + 2)
    s.running → s.dev.twin.hand = .awaiting tag h offer → y.twin.hand = .awaiting tag h offer → h + 2 ≤ y.time.frames →
    y.twin.see = false →
    exec .handoverAbandon s = .next { s with dev := y.modTwin (fun t => { t with hand := .none }) }) ∧
  (∀ (s : State) (c : Nat) (hs : List Hdr),
    let y := s.dev.untilCyc s.cfg (c + 10000)
    s.running → s.dev.twin.hand = .yielded c hs → y.twin.hand = .yielded c hs → c + 10000 ≤ y.time.cyc → y.twin.see = true →
    Completes .handoverAbandon s (fun t => t.dev.twin.hand = .none ∧ t.dev.twin.summit = y.twin.summit ∧
      (∀ h ∈ hs, t.dev.gave h stState) ∧ ({ s with dev := y } : State).reacted t))

/-- A failed self-test, an island clock out of bounds and a late strait handshake are shown, once, by their bits and by a fault of
the device that releases the Summit (a vector test from its second failure in a row on), and a pass clears the bit; a corrected word of
engine memory is counted, in setup too (the model's choice, log entry 186). The latch names the
latest test that failed (the model's reading, log entry 96). -/
def Obligations.SelfTests : Prop :=
  (∀ (s : State) (addr : Word), s.running → s.dev.isSealed = true →
    (∀ r : Fin 4, 2 ≤ r.val → s.dev.twin.selfBad.getLsbD r.val = false →
      Completes (.selftestScrub r 1 addr) s (fun t => t.dev.twin.selfBad.getLsbD r.val = true ∧
        t.dev.twin.selftest = some r.val ∧ t.dev.isOpen 0x0403 objDevice = true ∧ 7 ≤ t.dev.unitRank ∧
        t.dev.holding = false ∧ s.reacted t)) ∧
    (s.dev.twin.selfBad.getLsbD 0 = false → Completes (.selftestScrub 0 1 addr) s (fun t =>
      t.dev.twin.vecFail = min 255 (s.dev.twin.vecFail + 1) ∧
      (if 1 ≤ s.dev.twin.vecFail then t.dev.twin.selfBad.getLsbD 0 = true ∧ t.dev.twin.selftest = some 0 ∧
          t.dev.isOpen 0x0403 objDevice = true ∧ 7 ≤ t.dev.unitRank ∧
          t.dev.holding = false
       else t.dev.twin.selftest = s.dev.twin.selftest ∧ t.dev.evt = s.dev.evt) ∧ s.reacted t)) ∧
    (∀ r : Fin 4, r.val ≠ 1 → Completes (.selftestScrub r 0 addr) s (fun t => t.dev.twin.selfBad.getLsbD r.val = false ∧
      t = { s with dev := { s.dev with twin := t.dev.twin, host := t.dev.host, atolls := t.dev.atolls } }))) ∧
  (∀ (s : State) (addr : Word), s.running →
    Completes (.selftestScrub 1 2 addr) s (fun t => t.dev.eng.eccCorr = satInc 16 s.dev.eng.eccCorr ∧
      ({ s with dev := { s.dev with eng := t.dev.eng } } : State).reacted t)) ∧
  (∀ (s : State) (i : Fin 7) (dev : Int), s.running → s.dev.isSealed = true →
    let ok := (if i.val = 0 then -150 else -50) ≤ dev ∧ dev ≤ 50
    (ok → Completes (.clockMonitor i dev) s (fun t => t.dev.twin.clkFail.getLsbD i.val = false ∧
      t = { s with dev := { s.dev with twin := t.dev.twin, host := t.dev.host, atolls := t.dev.atolls } })) ∧
    (¬ ok → s.dev.twin.clkFail.getLsbD i.val = false → Completes (.clockMonitor i dev) s (fun t =>
      t.dev.twin.clkFail.getLsbD i.val = true ∧ t.dev.twin.selftest = some 4 ∧ 7 ≤ t.dev.unitRank ∧ s.reacted t))) ∧
  (∀ (s : State) (row : Fin 13) (bToA : Bool), s.running →
    Completes (.straitLate row bToA false) s (fun t => t.dev.twin.straitLate.getLsbD row.val = false ∧
      t = { s with dev := { s.dev with twin := t.dev.twin, host := t.dev.host, atolls := t.dev.atolls } }) ∧
    (s.dev.twin.straitLate.getLsbD row.val = false → Completes (.straitLate row bToA true) s (fun t =>
      t.dev.twin.straitLate.getLsbD row.val = true ∧ t.dev.isOpen 0x0001 objDevice = true ∧
      (demotingStraits.getLsbD row.val = true → 7 ≤ t.dev.unitRank) ∧ s.reacted t)))

/-! ### The recorder (R420 to R437) -/

/-- The oldest queued record is written to the slot of the next sequence number and its mark completes; a record that cannot be
verified, or an MRAM that gives no response, fails the recorder and empties the queue (log entry 103); LOG_LATE is raised once; a
ledger commit that is due (log entry 71) writes the 292 bytes of the ledger, with the checkpoint, the counters and the CRC in their
places, over the copy that does not stand, and raises LEDGER_WRITE where they do not read back. Such a row acts when commanded, at the earliest instant its rule allows (log entries 3, 4). -/
def Obligations.RecorderEvents : Prop :=
  (∀ (s : State) (r : RawRec) (rest : List RawRec) (rb2 : Option (List Byte)) (ok : Bool), s.running →
    s.dev.cairn.st = .running → s.dev.cairn.queue = r :: rest → s.dev.cairn.gapRun = 0 →
    NMap.wf mramReset s.dev.cairn.mram = true →
    Completes (.recordCommit none rb2 ok) s (fun t => t.dev.cairn.queue = rest ∧
      t.dev.cairn.next = wrapInc 32 s.dev.cairn.next ∧ t.dev.cairn.slot s.dev.cairn.next = s.dev.recBytes r ∧
      t.dev.cairn.st = .running ∧ (∀ h, r.hdr = some h → t.dev.gave h stOK) ∧
      t = { s with dev := { s.dev with cairn := t.dev.cairn, host := t.dev.host, atolls := t.dev.atolls } })) ∧
  (∀ (s : State) (r : RawRec) (rest : List RawRec) (b1 b2 : List Byte) (ok : Bool), s.running →
    s.dev.cairn.st = .running → s.dev.cairn.queue = r :: rest →
    Completes (.recordCommit (some b1) (some b2) ok) s (fun t => t.dev.cairn.st = .failed ∧ t.dev.cairn.queue = [] ∧
      t.dev.cairn.failCause = 1 ∧ t.dev.cairn.failSlot = slotOf s.dev.cairn.next ∧ t.dev.cairn.next = s.dev.cairn.next ∧
      ({ s with dev := { s.dev with keeper := t.dev.keeper } } : State).reacted t)) ∧
  (∀ (s : State) (ok : Bool), s.running → s.dev.cairn.st = .running →
    Completes (.cairnNoResponse ok) s (fun t => t.dev.cairn.st = .failed ∧ t.dev.cairn.queue = [] ∧
      t.dev.cairn.failCause = 2 ∧ t.dev.cairn.mram = s.dev.cairn.mram ∧
      ({ s with dev := { s.dev with keeper := t.dev.keeper } } : State).reacted t)) ∧
  (∀ (s : State) (r : RawRec) (l : List RawRec),
    let y := s.dev.untilCyc s.cfg (r.at' + 400000)
    s.running → s.dev.cairn.queue.head? = some r → y.cairn.queue = r :: l → y.cairn.st = .running → y.cairn.lateRun = false →
    r.at' + 400000 ≤ y.time.cyc →
    Completes (.logLate false) s (fun t => t.dev.cairn.lateRun = true ∧ ({ s with dev := y } : State).reacted t)) ∧
  (∀ (s : State) (c : Nat),
    let y := s.dev.untilCyc s.cfg (c + 4000000)
    s.running → s.dev.cairn.dirtyAt = some c → y.cairn.dirtyAt = some c → y.cairn.ledLate = false → c + 4000000 ≤ y.time.cyc →
    Completes (.logLate true) s (fun t => t.dev.cairn.ledLate = true ∧ ({ s with dev := y } : State).reacted t)) ∧
  (∀ (s : State), s.running → s.calm → s.dev.cairn.st ≠ .scanning → s.dev.commitDue = true →
    let put := fun (b : List Byte) (t : State) =>
      if s.dev.cairn.newer1 then t.dev.cairn.ledger0 = b ∧ t.dev.cairn.ledger1 = s.dev.cairn.ledger1
      else t.dev.cairn.ledger1 = b ∧ t.dev.cairn.ledger0 = s.dev.cairn.ledger0
    Completes (.ledgerCommit none) s (fun t => t.dev.cairn.dirtyAt = none ∧ t.dev.cairn.commitOp = s.dev.optime ∧
      put s.dev.ledgerImage t) ∧
    ∀ b, Completes (.ledgerCommit (some b)) s (fun t => put (padTo 292 b) t ∧
      (s.cfg.fltRank 0x0501 = 2 → t.dev.raised 0xF5 objDevice 0x0501))) ∧
  (∀ (x : Dev), x.ledgerImage.length = 292 ∧ ledgerValid x.ledgerImage = true ∧
    ledgerCheckpoint x.ledgerImage = x.cairn.next % 2 ^ 32 ∧
    ∀ (d : DoorId) (i : Fin 8), ledgerCounter x.ledgerImage d.val i.val = (x.dw d).ledger.get i % 2 ^ 32)
end

