-- ==== Sys2Proof/Laws/Memory.lean ====
section
/-! SUPPORT. The laws of the sparse maps: a write keeps the canonical form, a read gives back what was written, and a write
leaves every other key alone. -/

namespace Sys2Proof.Machine

variable {β : Type} [DecidableEq β] (d : Nat → β)

/-- Every key of a canonical map lies above its bound. -/
theorem NMap.wfFrom_lt {m : List (Nat × β)} {lo : Nat} (h : NMap.wfFrom d (some lo) m = true) :
    ∀ p ∈ m, lo < p.1 := by
  induction m generalizing lo with
  | nil => simp
  | cons p r ih =>
    obtain ⟨a, v⟩ := p
    simp only [NMap.wfFrom, Bool.and_eq_true, decide_eq_true_eq] at h
    intro q hq
    rcases List.mem_cons.mp hq with rfl | hq
    · exact h.1.1
    · exact lt_trans h.1.1 (ih h.2 q hq)

omit [DecidableEq β] in
/-- A key that lies below every listed key reads as its default. -/
theorem NMap.get_of_lt {m : List (Nat × β)} {k : Nat} (h : ∀ p ∈ m, k < p.1) : NMap.get d m k = d k := by
  induction m with
  | nil => rfl
  | cons p r ih =>
    obtain ⟨a, v⟩ := p
    have ha : a ≠ k := fun e => by have := h (a, v) (by simp); simp at this; omega
    simp only [NMap.get, ha, if_false]
    exact ih (fun q hq => h q (List.mem_cons_of_mem _ hq))

/-- A canonical map stays canonical above any lower bound. -/
theorem NMap.wfFrom_mono {m : List (Nat × β)} {lo : Nat} (lo' : Option Nat) (hl : ∀ l, lo' = some l → l ≤ lo)
    (h : NMap.wfFrom d (some lo) m = true) : NMap.wfFrom d lo' m = true := by
  cases m with
  | nil => simp [NMap.wfFrom]
  | cons p r =>
    obtain ⟨a, v⟩ := p
    simp only [NMap.wfFrom, Bool.and_eq_true, decide_eq_true_eq] at h ⊢
    refine ⟨⟨?_, h.1.2⟩, h.2⟩
    cases lo' with
    | none => rfl
    | some l => simp; exact lt_of_le_of_lt (hl l rfl) h.1.1

/-- A write keeps the canonical form above a bound. -/
theorem NMap.wfFrom_set {m : List (Nat × β)} {lo : Option Nat} {k : Nat} (v : β) (hk : ∀ l, lo = some l → l < k)
    (h : NMap.wfFrom d lo m = true) : NMap.wfFrom d lo (NMap.set d m k v) = true := by
  induction m generalizing lo with
  | nil =>
    simp only [NMap.set]
    split
    · simp [NMap.wfFrom]
    · rename_i hv
      cases lo with
      | none => simp [NMap.wfFrom, hv]
      | some l => simp [NMap.wfFrom, hv, hk l rfl]
  | cons p r ih =>
    obtain ⟨a, u⟩ := p
    simp only [NMap.wfFrom, Bool.and_eq_true, decide_eq_true_eq] at h
    obtain ⟨⟨h1, h2⟩, h3⟩ := h
    simp only [NMap.set]
    by_cases ka : k < a
    · simp only [ka, if_true]
      split
      · simp [NMap.wfFrom, h2, h3]; exact h1
      · rename_i hv
        cases lo with
        | none => simp [NMap.wfFrom, h2, h3, hv, ka]
        | some l => simp [NMap.wfFrom, h2, h3, hv, ka, hk l rfl]
    · simp only [ka, if_false]
      by_cases e : a = k
      · subst e
        simp only [if_true]
        split
        · refine NMap.wfFrom_mono d lo ?_ h3
          intro l hl; subst hl; simp at h1; omega
        · rename_i hv
          simp [NMap.wfFrom, hv, h3]; exact h1
      · simp only [e, if_false]
        simp only [NMap.wfFrom, Bool.and_eq_true, decide_eq_true_eq]
        refine ⟨⟨h1, h2⟩, ih ?_ h3⟩
        intro l hl; injection hl with hl; omega

/-- A write keeps the canonical form. -/
theorem NMap.wf_set {m : List (Nat × β)} (k : Nat) (v : β) (h : NMap.wf d m = true) : NMap.wf d (NMap.set d m k v) = true :=
  NMap.wfFrom_set d v (by simp) h

/-- A read after a write of a canonical map. -/
theorem NMap.get_set_from {m : List (Nat × β)} {lo : Option Nat} (k : Nat) (v : β) (j : Nat)
    (h : NMap.wfFrom d lo m = true) : NMap.get d (NMap.set d m k v) j = if j = k then v else NMap.get d m j := by
  induction m generalizing lo with
  | nil =>
    simp only [NMap.set]
    split
    · rename_i hv
      by_cases e : j = k
      · subst e; simp [NMap.get, hv]
      · simp [NMap.get, e]
    · simp only [NMap.get]
      by_cases e : j = k
      · subst e; simp
      · simp [e, Ne.symm e]
  | cons p r ih =>
    obtain ⟨a, u⟩ := p
    simp only [NMap.wfFrom, Bool.and_eq_true, decide_eq_true_eq] at h
    obtain ⟨⟨_, _⟩, h3⟩ := h
    simp only [NMap.set]
    by_cases ka : k < a
    · simp only [ka, if_true]
      split
      · rename_i hv
        by_cases e : j = k
        · subst e
          simp only [if_true]
          rw [NMap.get_of_lt, hv]
          intro q hq
          rcases List.mem_cons.mp hq with rfl | hq
          · exact ka
          · exact lt_trans ka (NMap.wfFrom_lt d h3 q hq)
        · simp [e]
      · by_cases e : j = k
        · subst e; simp [NMap.get]
        · simp [NMap.get, e, Ne.symm e]
    · simp only [ka, if_false]
      by_cases e : a = k
      · subst e
        simp only [if_true]
        split
        · rename_i hv
          by_cases e : j = a
          · subst e
            simp only [if_true]
            rw [NMap.get_of_lt, hv]
            exact NMap.wfFrom_lt d h3
          · simp [NMap.get, e, Ne.symm e]
        · by_cases e : j = a
          · subst e; simp [NMap.get]
          · simp [NMap.get, e, Ne.symm e]
      · simp only [e, if_false, NMap.get]
        by_cases ja : a = j
        · subst ja; simp [e]
        · simp only [ja, if_false]; exact ih h3

theorem NMap.get_set {m : List (Nat × β)} (k : Nat) (v : β) (j : Nat) (h : NMap.wf d m = true) :
    NMap.get d (NMap.set d m k v) j = if j = k then v else NMap.get d m j := NMap.get_set_from d k v j h

/-! ### The set-up registers -/

/-- The empty map is canonical: every register reads as its reset value. -/
theorem Memory.wf_nil : Memory.wf ([] : Memory) = true := rfl
theorem Memory.wf_put {K : Memory} (k : Nat) (v : Word) (h : K.wf = true) : (K.put k v).wf = true := NMap.wf_set _ k v h
theorem Memory.get_put {K : Memory} (k : Nat) (v : Word) (j : Nat) (h : K.wf = true) :
    (K.put k v).word j = if j = k then v else K.word j := NMap.get_set _ k v j h

end Sys2Proof.Machine
end

