-- ==== Sys2Proof/Laws/State.lean ====
section
/-! SUPPORT. The update laws of the state: what each update of one object leaves alone, and what it writes. All hold by
`rfl` but the reads of an object just written. -/

namespace Sys2Proof.Machine

/-- A vector read where it was just written. -/
theorem vget_set {α : Type} {n : Nat} (v : Vector α n) (i : Fin n) (a : α) : (v.set i.val a i.isLt).get i = a := by
  rw [Vector.get_eq_getElem]; simp
/-- A vector read elsewhere. -/
theorem vget_set_ne {α : Type} {n : Nat} (v : Vector α n) (i j : Fin n) (a : α) (h : j ≠ i) :
    (v.set i.val a i.isLt).get j = v.get j := by
  have h' : i.val ≠ j.val := fun e => h (Fin.ext e.symm)
  rw [Vector.get_eq_getElem, Vector.get_eq_getElem, Vector.getElem_set_ne _ _ h']

variable (x : Dev)

/-! ### modAx -/

@[simp] theorem Dev.modAx_time (a : AxisId) (f : Axis → Axis) : (x.modAx a f).time = x.time := rfl
@[simp] theorem Dev.modAx_sched (a : AxisId) (f : Axis → Axis) : (x.modAx a f).sched = x.sched := rfl
@[simp] theorem Dev.modAx_gate (a : AxisId) (f : Axis → Axis) : (x.modAx a f).gate = x.gate := rfl
@[simp] theorem Dev.modAx_doors (a : AxisId) (f : Axis → Axis) : (x.modAx a f).doors = x.doors := rfl
@[simp] theorem Dev.modAx_fio (a : AxisId) (f : Axis → Axis) : (x.modAx a f).fio = x.fio := rfl
@[simp] theorem Dev.modAx_host (a : AxisId) (f : Axis → Axis) : (x.modAx a f).host = x.host := rfl
@[simp] theorem Dev.modAx_reqH (a : AxisId) (f : Axis → Axis) : (x.modAx a f).reqH = x.reqH := rfl
@[simp] theorem Dev.modAx_reqM (a : AxisId) (f : Axis → Axis) : (x.modAx a f).reqM = x.reqM := rfl
@[simp] theorem Dev.modAx_atolls (a : AxisId) (f : Axis → Axis) : (x.modAx a f).atolls = x.atolls := rfl
@[simp] theorem Dev.modAx_caps (a : AxisId) (f : Axis → Axis) : (x.modAx a f).caps = x.caps := rfl
@[simp] theorem Dev.modAx_chans (a : AxisId) (f : Axis → Axis) : (x.modAx a f).chans = x.chans := rfl
@[simp] theorem Dev.modAx_parts (a : AxisId) (f : Axis → Axis) : (x.modAx a f).parts = x.parts := rfl
@[simp] theorem Dev.modAx_twin (a : AxisId) (f : Axis → Axis) : (x.modAx a f).twin = x.twin := rfl
@[simp] theorem Dev.modAx_cairn (a : AxisId) (f : Axis → Axis) : (x.modAx a f).cairn = x.cairn := rfl
@[simp] theorem Dev.modAx_keeper (a : AxisId) (f : Axis → Axis) : (x.modAx a f).keeper = x.keeper := rfl
@[simp] theorem Dev.modAx_img (a : AxisId) (f : Axis → Axis) : (x.modAx a f).img = x.img := rfl
@[simp] theorem Dev.modAx_su (a : AxisId) (f : Axis → Axis) : (x.modAx a f).su = x.su := rfl
@[simp] theorem Dev.modAx_evt (a : AxisId) (f : Axis → Axis) : (x.modAx a f).evt = x.evt := rfl
@[simp] theorem Dev.modAx_eng (a : AxisId) (f : Axis → Axis) : (x.modAx a f).eng = x.eng := rfl
@[simp] theorem Dev.modAx_free (a : AxisId) (f : Axis → Axis) : (x.modAx a f).free = x.free := rfl
@[simp] theorem Dev.modAx_dw (a : AxisId) (f : Axis → Axis) (b : DoorId) : (x.modAx a f).dw b = x.dw b := rfl
@[simp] theorem Dev.modAx_atl (a : AxisId) (f : Axis → Axis) (b : AtollId) : (x.modAx a f).atl b = x.atl b := rfl
@[simp] theorem Dev.modAx_ch (a : AxisId) (f : Axis → Axis) (b : ChanId) : (x.modAx a f).ch b = x.ch b := rfl
@[simp] theorem Dev.modAx_capu (a : AxisId) (f : Axis → Axis) (b : Fin 4) : (x.modAx a f).capu b = x.capu b := rfl
@[simp] theorem Dev.modAx_ctx (a : AxisId) (f : Axis → Axis) (b : Fin 256) : (x.modAx a f).ctx b = x.ctx b := rfl
@[simp] theorem Dev.modAx_inPin (a : AxisId) (f : Axis → Axis) (b : InId) : (x.modAx a f).inPin b = x.inPin b := rfl
@[simp] theorem Dev.modAx_sin (a : AxisId) (f : Axis → Axis) (b : Fin 8) : (x.modAx a f).sin b = x.sin b := rfl
@[simp] theorem Dev.modAx_outPin (a : AxisId) (f : Axis → Axis) (b : OutId) : (x.modAx a f).outPin b = x.outPin b := rfl
@[simp] theorem Dev.modAx_sout (a : AxisId) (f : Axis → Axis) (b : Fin 4) : (x.modAx a f).sout b = x.sout b := rfl
@[simp] theorem Dev.modAx_grp (a : AxisId) (f : Axis → Axis) (b : Fin 8) : (x.modAx a f).grp b = x.grp b := rfl
@[simp] theorem Dev.modAx_tt (a : AxisId) (f : Axis → Axis) : (x.modAx a f).tt = x.tt := rfl
@[simp] theorem Dev.modAx_isSealed (a : AxisId) (f : Axis → Axis) : (x.modAx a f).isSealed = x.isSealed := rfl
@[simp] theorem Dev.modAx_holding (a : AxisId) (f : Axis → Axis) : (x.modAx a f).holding = x.holding := rfl
@[simp] theorem Dev.modAx_ax (a : AxisId) (f : Axis → Axis) : (x.modAx a f).ax a = f (x.ax a) := vget_set _ _ _
theorem Dev.modAx_ax_ne (a : AxisId) (f : Axis → Axis) (b : AxisId) (h : b ≠ a) : (x.modAx a f).ax b = x.ax b := vget_set_ne _ _ _ _ h

/-! ### modDw -/

@[simp] theorem Dev.modDw_time (a : DoorId) (f : Door → Door) : (x.modDw a f).time = x.time := rfl
@[simp] theorem Dev.modDw_sched (a : DoorId) (f : Door → Door) : (x.modDw a f).sched = x.sched := rfl
@[simp] theorem Dev.modDw_gate (a : DoorId) (f : Door → Door) : (x.modDw a f).gate = x.gate := rfl
@[simp] theorem Dev.modDw_axes (a : DoorId) (f : Door → Door) : (x.modDw a f).axes = x.axes := rfl
@[simp] theorem Dev.modDw_fio (a : DoorId) (f : Door → Door) : (x.modDw a f).fio = x.fio := rfl
@[simp] theorem Dev.modDw_host (a : DoorId) (f : Door → Door) : (x.modDw a f).host = x.host := rfl
@[simp] theorem Dev.modDw_reqH (a : DoorId) (f : Door → Door) : (x.modDw a f).reqH = x.reqH := rfl
@[simp] theorem Dev.modDw_reqM (a : DoorId) (f : Door → Door) : (x.modDw a f).reqM = x.reqM := rfl
@[simp] theorem Dev.modDw_atolls (a : DoorId) (f : Door → Door) : (x.modDw a f).atolls = x.atolls := rfl
@[simp] theorem Dev.modDw_caps (a : DoorId) (f : Door → Door) : (x.modDw a f).caps = x.caps := rfl
@[simp] theorem Dev.modDw_chans (a : DoorId) (f : Door → Door) : (x.modDw a f).chans = x.chans := rfl
@[simp] theorem Dev.modDw_parts (a : DoorId) (f : Door → Door) : (x.modDw a f).parts = x.parts := rfl
@[simp] theorem Dev.modDw_twin (a : DoorId) (f : Door → Door) : (x.modDw a f).twin = x.twin := rfl
@[simp] theorem Dev.modDw_cairn (a : DoorId) (f : Door → Door) : (x.modDw a f).cairn = x.cairn := rfl
@[simp] theorem Dev.modDw_keeper (a : DoorId) (f : Door → Door) : (x.modDw a f).keeper = x.keeper := rfl
@[simp] theorem Dev.modDw_img (a : DoorId) (f : Door → Door) : (x.modDw a f).img = x.img := rfl
@[simp] theorem Dev.modDw_su (a : DoorId) (f : Door → Door) : (x.modDw a f).su = x.su := rfl
@[simp] theorem Dev.modDw_evt (a : DoorId) (f : Door → Door) : (x.modDw a f).evt = x.evt := rfl
@[simp] theorem Dev.modDw_eng (a : DoorId) (f : Door → Door) : (x.modDw a f).eng = x.eng := rfl
@[simp] theorem Dev.modDw_free (a : DoorId) (f : Door → Door) : (x.modDw a f).free = x.free := rfl
@[simp] theorem Dev.modDw_ax (a : DoorId) (f : Door → Door) (b : AxisId) : (x.modDw a f).ax b = x.ax b := rfl
@[simp] theorem Dev.modDw_atl (a : DoorId) (f : Door → Door) (b : AtollId) : (x.modDw a f).atl b = x.atl b := rfl
@[simp] theorem Dev.modDw_ch (a : DoorId) (f : Door → Door) (b : ChanId) : (x.modDw a f).ch b = x.ch b := rfl
@[simp] theorem Dev.modDw_capu (a : DoorId) (f : Door → Door) (b : Fin 4) : (x.modDw a f).capu b = x.capu b := rfl
@[simp] theorem Dev.modDw_ctx (a : DoorId) (f : Door → Door) (b : Fin 256) : (x.modDw a f).ctx b = x.ctx b := rfl
@[simp] theorem Dev.modDw_inPin (a : DoorId) (f : Door → Door) (b : InId) : (x.modDw a f).inPin b = x.inPin b := rfl
@[simp] theorem Dev.modDw_sin (a : DoorId) (f : Door → Door) (b : Fin 8) : (x.modDw a f).sin b = x.sin b := rfl
@[simp] theorem Dev.modDw_outPin (a : DoorId) (f : Door → Door) (b : OutId) : (x.modDw a f).outPin b = x.outPin b := rfl
@[simp] theorem Dev.modDw_sout (a : DoorId) (f : Door → Door) (b : Fin 4) : (x.modDw a f).sout b = x.sout b := rfl
@[simp] theorem Dev.modDw_grp (a : DoorId) (f : Door → Door) (b : Fin 8) : (x.modDw a f).grp b = x.grp b := rfl
@[simp] theorem Dev.modDw_tt (a : DoorId) (f : Door → Door) : (x.modDw a f).tt = x.tt := rfl
@[simp] theorem Dev.modDw_isSealed (a : DoorId) (f : Door → Door) : (x.modDw a f).isSealed = x.isSealed := rfl
@[simp] theorem Dev.modDw_holding (a : DoorId) (f : Door → Door) : (x.modDw a f).holding = x.holding := rfl
@[simp] theorem Dev.modDw_dw (a : DoorId) (f : Door → Door) : (x.modDw a f).dw a = f (x.dw a) := vget_set _ _ _
theorem Dev.modDw_dw_ne (a : DoorId) (f : Door → Door) (b : DoorId) (h : b ≠ a) : (x.modDw a f).dw b = x.dw b := vget_set_ne _ _ _ _ h

/-! ### modAtl -/

@[simp] theorem Dev.modAtl_time (a : AtollId) (f : Atoll → Atoll) : (x.modAtl a f).time = x.time := rfl
@[simp] theorem Dev.modAtl_sched (a : AtollId) (f : Atoll → Atoll) : (x.modAtl a f).sched = x.sched := rfl
@[simp] theorem Dev.modAtl_gate (a : AtollId) (f : Atoll → Atoll) : (x.modAtl a f).gate = x.gate := rfl
@[simp] theorem Dev.modAtl_doors (a : AtollId) (f : Atoll → Atoll) : (x.modAtl a f).doors = x.doors := rfl
@[simp] theorem Dev.modAtl_axes (a : AtollId) (f : Atoll → Atoll) : (x.modAtl a f).axes = x.axes := rfl
@[simp] theorem Dev.modAtl_fio (a : AtollId) (f : Atoll → Atoll) : (x.modAtl a f).fio = x.fio := rfl
@[simp] theorem Dev.modAtl_host (a : AtollId) (f : Atoll → Atoll) : (x.modAtl a f).host = x.host := rfl
@[simp] theorem Dev.modAtl_reqH (a : AtollId) (f : Atoll → Atoll) : (x.modAtl a f).reqH = x.reqH := rfl
@[simp] theorem Dev.modAtl_reqM (a : AtollId) (f : Atoll → Atoll) : (x.modAtl a f).reqM = x.reqM := rfl
@[simp] theorem Dev.modAtl_caps (a : AtollId) (f : Atoll → Atoll) : (x.modAtl a f).caps = x.caps := rfl
@[simp] theorem Dev.modAtl_chans (a : AtollId) (f : Atoll → Atoll) : (x.modAtl a f).chans = x.chans := rfl
@[simp] theorem Dev.modAtl_parts (a : AtollId) (f : Atoll → Atoll) : (x.modAtl a f).parts = x.parts := rfl
@[simp] theorem Dev.modAtl_twin (a : AtollId) (f : Atoll → Atoll) : (x.modAtl a f).twin = x.twin := rfl
@[simp] theorem Dev.modAtl_cairn (a : AtollId) (f : Atoll → Atoll) : (x.modAtl a f).cairn = x.cairn := rfl
@[simp] theorem Dev.modAtl_keeper (a : AtollId) (f : Atoll → Atoll) : (x.modAtl a f).keeper = x.keeper := rfl
@[simp] theorem Dev.modAtl_img (a : AtollId) (f : Atoll → Atoll) : (x.modAtl a f).img = x.img := rfl
@[simp] theorem Dev.modAtl_su (a : AtollId) (f : Atoll → Atoll) : (x.modAtl a f).su = x.su := rfl
@[simp] theorem Dev.modAtl_evt (a : AtollId) (f : Atoll → Atoll) : (x.modAtl a f).evt = x.evt := rfl
@[simp] theorem Dev.modAtl_eng (a : AtollId) (f : Atoll → Atoll) : (x.modAtl a f).eng = x.eng := rfl
@[simp] theorem Dev.modAtl_free (a : AtollId) (f : Atoll → Atoll) : (x.modAtl a f).free = x.free := rfl
@[simp] theorem Dev.modAtl_ax (a : AtollId) (f : Atoll → Atoll) (b : AxisId) : (x.modAtl a f).ax b = x.ax b := rfl
@[simp] theorem Dev.modAtl_dw (a : AtollId) (f : Atoll → Atoll) (b : DoorId) : (x.modAtl a f).dw b = x.dw b := rfl
@[simp] theorem Dev.modAtl_ch (a : AtollId) (f : Atoll → Atoll) (b : ChanId) : (x.modAtl a f).ch b = x.ch b := rfl
@[simp] theorem Dev.modAtl_capu (a : AtollId) (f : Atoll → Atoll) (b : Fin 4) : (x.modAtl a f).capu b = x.capu b := rfl
@[simp] theorem Dev.modAtl_ctx (a : AtollId) (f : Atoll → Atoll) (b : Fin 256) : (x.modAtl a f).ctx b = x.ctx b := rfl
@[simp] theorem Dev.modAtl_inPin (a : AtollId) (f : Atoll → Atoll) (b : InId) : (x.modAtl a f).inPin b = x.inPin b := rfl
@[simp] theorem Dev.modAtl_sin (a : AtollId) (f : Atoll → Atoll) (b : Fin 8) : (x.modAtl a f).sin b = x.sin b := rfl
@[simp] theorem Dev.modAtl_outPin (a : AtollId) (f : Atoll → Atoll) (b : OutId) : (x.modAtl a f).outPin b = x.outPin b := rfl
@[simp] theorem Dev.modAtl_sout (a : AtollId) (f : Atoll → Atoll) (b : Fin 4) : (x.modAtl a f).sout b = x.sout b := rfl
@[simp] theorem Dev.modAtl_grp (a : AtollId) (f : Atoll → Atoll) (b : Fin 8) : (x.modAtl a f).grp b = x.grp b := rfl
@[simp] theorem Dev.modAtl_tt (a : AtollId) (f : Atoll → Atoll) : (x.modAtl a f).tt = x.tt := rfl
@[simp] theorem Dev.modAtl_isSealed (a : AtollId) (f : Atoll → Atoll) : (x.modAtl a f).isSealed = x.isSealed := rfl
@[simp] theorem Dev.modAtl_holding (a : AtollId) (f : Atoll → Atoll) : (x.modAtl a f).holding = x.holding := rfl
@[simp] theorem Dev.modAtl_atl (a : AtollId) (f : Atoll → Atoll) : (x.modAtl a f).atl a = f (x.atl a) := vget_set _ _ _
theorem Dev.modAtl_atl_ne (a : AtollId) (f : Atoll → Atoll) (b : AtollId) (h : b ≠ a) : (x.modAtl a f).atl b = x.atl b := vget_set_ne _ _ _ _ h

/-! ### modCh -/

@[simp] theorem Dev.modCh_time (a : ChanId) (f : Chan → Chan) : (x.modCh a f).time = x.time := rfl
@[simp] theorem Dev.modCh_sched (a : ChanId) (f : Chan → Chan) : (x.modCh a f).sched = x.sched := rfl
@[simp] theorem Dev.modCh_gate (a : ChanId) (f : Chan → Chan) : (x.modCh a f).gate = x.gate := rfl
@[simp] theorem Dev.modCh_doors (a : ChanId) (f : Chan → Chan) : (x.modCh a f).doors = x.doors := rfl
@[simp] theorem Dev.modCh_axes (a : ChanId) (f : Chan → Chan) : (x.modCh a f).axes = x.axes := rfl
@[simp] theorem Dev.modCh_fio (a : ChanId) (f : Chan → Chan) : (x.modCh a f).fio = x.fio := rfl
@[simp] theorem Dev.modCh_host (a : ChanId) (f : Chan → Chan) : (x.modCh a f).host = x.host := rfl
@[simp] theorem Dev.modCh_reqH (a : ChanId) (f : Chan → Chan) : (x.modCh a f).reqH = x.reqH := rfl
@[simp] theorem Dev.modCh_reqM (a : ChanId) (f : Chan → Chan) : (x.modCh a f).reqM = x.reqM := rfl
@[simp] theorem Dev.modCh_atolls (a : ChanId) (f : Chan → Chan) : (x.modCh a f).atolls = x.atolls := rfl
@[simp] theorem Dev.modCh_caps (a : ChanId) (f : Chan → Chan) : (x.modCh a f).caps = x.caps := rfl
@[simp] theorem Dev.modCh_parts (a : ChanId) (f : Chan → Chan) : (x.modCh a f).parts = x.parts := rfl
@[simp] theorem Dev.modCh_twin (a : ChanId) (f : Chan → Chan) : (x.modCh a f).twin = x.twin := rfl
@[simp] theorem Dev.modCh_cairn (a : ChanId) (f : Chan → Chan) : (x.modCh a f).cairn = x.cairn := rfl
@[simp] theorem Dev.modCh_keeper (a : ChanId) (f : Chan → Chan) : (x.modCh a f).keeper = x.keeper := rfl
@[simp] theorem Dev.modCh_img (a : ChanId) (f : Chan → Chan) : (x.modCh a f).img = x.img := rfl
@[simp] theorem Dev.modCh_su (a : ChanId) (f : Chan → Chan) : (x.modCh a f).su = x.su := rfl
@[simp] theorem Dev.modCh_evt (a : ChanId) (f : Chan → Chan) : (x.modCh a f).evt = x.evt := rfl
@[simp] theorem Dev.modCh_eng (a : ChanId) (f : Chan → Chan) : (x.modCh a f).eng = x.eng := rfl
@[simp] theorem Dev.modCh_free (a : ChanId) (f : Chan → Chan) : (x.modCh a f).free = x.free := rfl
@[simp] theorem Dev.modCh_ax (a : ChanId) (f : Chan → Chan) (b : AxisId) : (x.modCh a f).ax b = x.ax b := rfl
@[simp] theorem Dev.modCh_dw (a : ChanId) (f : Chan → Chan) (b : DoorId) : (x.modCh a f).dw b = x.dw b := rfl
@[simp] theorem Dev.modCh_atl (a : ChanId) (f : Chan → Chan) (b : AtollId) : (x.modCh a f).atl b = x.atl b := rfl
@[simp] theorem Dev.modCh_capu (a : ChanId) (f : Chan → Chan) (b : Fin 4) : (x.modCh a f).capu b = x.capu b := rfl
@[simp] theorem Dev.modCh_ctx (a : ChanId) (f : Chan → Chan) (b : Fin 256) : (x.modCh a f).ctx b = x.ctx b := rfl
@[simp] theorem Dev.modCh_inPin (a : ChanId) (f : Chan → Chan) (b : InId) : (x.modCh a f).inPin b = x.inPin b := rfl
@[simp] theorem Dev.modCh_sin (a : ChanId) (f : Chan → Chan) (b : Fin 8) : (x.modCh a f).sin b = x.sin b := rfl
@[simp] theorem Dev.modCh_outPin (a : ChanId) (f : Chan → Chan) (b : OutId) : (x.modCh a f).outPin b = x.outPin b := rfl
@[simp] theorem Dev.modCh_sout (a : ChanId) (f : Chan → Chan) (b : Fin 4) : (x.modCh a f).sout b = x.sout b := rfl
@[simp] theorem Dev.modCh_grp (a : ChanId) (f : Chan → Chan) (b : Fin 8) : (x.modCh a f).grp b = x.grp b := rfl
@[simp] theorem Dev.modCh_tt (a : ChanId) (f : Chan → Chan) : (x.modCh a f).tt = x.tt := rfl
@[simp] theorem Dev.modCh_isSealed (a : ChanId) (f : Chan → Chan) : (x.modCh a f).isSealed = x.isSealed := rfl
@[simp] theorem Dev.modCh_holding (a : ChanId) (f : Chan → Chan) : (x.modCh a f).holding = x.holding := rfl
@[simp] theorem Dev.modCh_ch (a : ChanId) (f : Chan → Chan) : (x.modCh a f).ch a = f (x.ch a) := vget_set _ _ _
theorem Dev.modCh_ch_ne (a : ChanId) (f : Chan → Chan) (b : ChanId) (h : b ≠ a) : (x.modCh a f).ch b = x.ch b := vget_set_ne _ _ _ _ h

/-! ### modCap -/

@[simp] theorem Dev.modCap_time (a : Fin 4) (f : Capture → Capture) : (x.modCap a f).time = x.time := rfl
@[simp] theorem Dev.modCap_sched (a : Fin 4) (f : Capture → Capture) : (x.modCap a f).sched = x.sched := rfl
@[simp] theorem Dev.modCap_gate (a : Fin 4) (f : Capture → Capture) : (x.modCap a f).gate = x.gate := rfl
@[simp] theorem Dev.modCap_doors (a : Fin 4) (f : Capture → Capture) : (x.modCap a f).doors = x.doors := rfl
@[simp] theorem Dev.modCap_axes (a : Fin 4) (f : Capture → Capture) : (x.modCap a f).axes = x.axes := rfl
@[simp] theorem Dev.modCap_fio (a : Fin 4) (f : Capture → Capture) : (x.modCap a f).fio = x.fio := rfl
@[simp] theorem Dev.modCap_host (a : Fin 4) (f : Capture → Capture) : (x.modCap a f).host = x.host := rfl
@[simp] theorem Dev.modCap_reqH (a : Fin 4) (f : Capture → Capture) : (x.modCap a f).reqH = x.reqH := rfl
@[simp] theorem Dev.modCap_reqM (a : Fin 4) (f : Capture → Capture) : (x.modCap a f).reqM = x.reqM := rfl
@[simp] theorem Dev.modCap_atolls (a : Fin 4) (f : Capture → Capture) : (x.modCap a f).atolls = x.atolls := rfl
@[simp] theorem Dev.modCap_chans (a : Fin 4) (f : Capture → Capture) : (x.modCap a f).chans = x.chans := rfl
@[simp] theorem Dev.modCap_parts (a : Fin 4) (f : Capture → Capture) : (x.modCap a f).parts = x.parts := rfl
@[simp] theorem Dev.modCap_twin (a : Fin 4) (f : Capture → Capture) : (x.modCap a f).twin = x.twin := rfl
@[simp] theorem Dev.modCap_cairn (a : Fin 4) (f : Capture → Capture) : (x.modCap a f).cairn = x.cairn := rfl
@[simp] theorem Dev.modCap_keeper (a : Fin 4) (f : Capture → Capture) : (x.modCap a f).keeper = x.keeper := rfl
@[simp] theorem Dev.modCap_img (a : Fin 4) (f : Capture → Capture) : (x.modCap a f).img = x.img := rfl
@[simp] theorem Dev.modCap_su (a : Fin 4) (f : Capture → Capture) : (x.modCap a f).su = x.su := rfl
@[simp] theorem Dev.modCap_evt (a : Fin 4) (f : Capture → Capture) : (x.modCap a f).evt = x.evt := rfl
@[simp] theorem Dev.modCap_eng (a : Fin 4) (f : Capture → Capture) : (x.modCap a f).eng = x.eng := rfl
@[simp] theorem Dev.modCap_free (a : Fin 4) (f : Capture → Capture) : (x.modCap a f).free = x.free := rfl
@[simp] theorem Dev.modCap_ax (a : Fin 4) (f : Capture → Capture) (b : AxisId) : (x.modCap a f).ax b = x.ax b := rfl
@[simp] theorem Dev.modCap_dw (a : Fin 4) (f : Capture → Capture) (b : DoorId) : (x.modCap a f).dw b = x.dw b := rfl
@[simp] theorem Dev.modCap_atl (a : Fin 4) (f : Capture → Capture) (b : AtollId) : (x.modCap a f).atl b = x.atl b := rfl
@[simp] theorem Dev.modCap_ch (a : Fin 4) (f : Capture → Capture) (b : ChanId) : (x.modCap a f).ch b = x.ch b := rfl
@[simp] theorem Dev.modCap_ctx (a : Fin 4) (f : Capture → Capture) (b : Fin 256) : (x.modCap a f).ctx b = x.ctx b := rfl
@[simp] theorem Dev.modCap_inPin (a : Fin 4) (f : Capture → Capture) (b : InId) : (x.modCap a f).inPin b = x.inPin b := rfl
@[simp] theorem Dev.modCap_sin (a : Fin 4) (f : Capture → Capture) (b : Fin 8) : (x.modCap a f).sin b = x.sin b := rfl
@[simp] theorem Dev.modCap_outPin (a : Fin 4) (f : Capture → Capture) (b : OutId) : (x.modCap a f).outPin b = x.outPin b := rfl
@[simp] theorem Dev.modCap_sout (a : Fin 4) (f : Capture → Capture) (b : Fin 4) : (x.modCap a f).sout b = x.sout b := rfl
@[simp] theorem Dev.modCap_grp (a : Fin 4) (f : Capture → Capture) (b : Fin 8) : (x.modCap a f).grp b = x.grp b := rfl
@[simp] theorem Dev.modCap_tt (a : Fin 4) (f : Capture → Capture) : (x.modCap a f).tt = x.tt := rfl
@[simp] theorem Dev.modCap_isSealed (a : Fin 4) (f : Capture → Capture) : (x.modCap a f).isSealed = x.isSealed := rfl
@[simp] theorem Dev.modCap_holding (a : Fin 4) (f : Capture → Capture) : (x.modCap a f).holding = x.holding := rfl
@[simp] theorem Dev.modCap_capu (a : Fin 4) (f : Capture → Capture) : (x.modCap a f).capu a = f (x.capu a) := vget_set _ _ _
theorem Dev.modCap_capu_ne (a : Fin 4) (f : Capture → Capture) (b : Fin 4) (h : b ≠ a) : (x.modCap a f).capu b = x.capu b := vget_set_ne _ _ _ _ h

/-! ### modCtx -/

@[simp] theorem Dev.modCtx_time (a : Fin 256) (f : Ctx → Ctx) : (x.modCtx a f).time = x.time := rfl
@[simp] theorem Dev.modCtx_sched (a : Fin 256) (f : Ctx → Ctx) : (x.modCtx a f).sched = x.sched := rfl
@[simp] theorem Dev.modCtx_gate (a : Fin 256) (f : Ctx → Ctx) : (x.modCtx a f).gate = x.gate := rfl
@[simp] theorem Dev.modCtx_doors (a : Fin 256) (f : Ctx → Ctx) : (x.modCtx a f).doors = x.doors := rfl
@[simp] theorem Dev.modCtx_axes (a : Fin 256) (f : Ctx → Ctx) : (x.modCtx a f).axes = x.axes := rfl
@[simp] theorem Dev.modCtx_fio (a : Fin 256) (f : Ctx → Ctx) : (x.modCtx a f).fio = x.fio := rfl
@[simp] theorem Dev.modCtx_host (a : Fin 256) (f : Ctx → Ctx) : (x.modCtx a f).host = x.host := rfl
@[simp] theorem Dev.modCtx_reqH (a : Fin 256) (f : Ctx → Ctx) : (x.modCtx a f).reqH = x.reqH := rfl
@[simp] theorem Dev.modCtx_reqM (a : Fin 256) (f : Ctx → Ctx) : (x.modCtx a f).reqM = x.reqM := rfl
@[simp] theorem Dev.modCtx_atolls (a : Fin 256) (f : Ctx → Ctx) : (x.modCtx a f).atolls = x.atolls := rfl
@[simp] theorem Dev.modCtx_caps (a : Fin 256) (f : Ctx → Ctx) : (x.modCtx a f).caps = x.caps := rfl
@[simp] theorem Dev.modCtx_chans (a : Fin 256) (f : Ctx → Ctx) : (x.modCtx a f).chans = x.chans := rfl
@[simp] theorem Dev.modCtx_twin (a : Fin 256) (f : Ctx → Ctx) : (x.modCtx a f).twin = x.twin := rfl
@[simp] theorem Dev.modCtx_cairn (a : Fin 256) (f : Ctx → Ctx) : (x.modCtx a f).cairn = x.cairn := rfl
@[simp] theorem Dev.modCtx_keeper (a : Fin 256) (f : Ctx → Ctx) : (x.modCtx a f).keeper = x.keeper := rfl
@[simp] theorem Dev.modCtx_img (a : Fin 256) (f : Ctx → Ctx) : (x.modCtx a f).img = x.img := rfl
@[simp] theorem Dev.modCtx_su (a : Fin 256) (f : Ctx → Ctx) : (x.modCtx a f).su = x.su := rfl
@[simp] theorem Dev.modCtx_evt (a : Fin 256) (f : Ctx → Ctx) : (x.modCtx a f).evt = x.evt := rfl
@[simp] theorem Dev.modCtx_eng (a : Fin 256) (f : Ctx → Ctx) : (x.modCtx a f).eng = x.eng := rfl
@[simp] theorem Dev.modCtx_free (a : Fin 256) (f : Ctx → Ctx) : (x.modCtx a f).free = x.free := rfl
@[simp] theorem Dev.modCtx_ax (a : Fin 256) (f : Ctx → Ctx) (b : AxisId) : (x.modCtx a f).ax b = x.ax b := rfl
@[simp] theorem Dev.modCtx_dw (a : Fin 256) (f : Ctx → Ctx) (b : DoorId) : (x.modCtx a f).dw b = x.dw b := rfl
@[simp] theorem Dev.modCtx_atl (a : Fin 256) (f : Ctx → Ctx) (b : AtollId) : (x.modCtx a f).atl b = x.atl b := rfl
@[simp] theorem Dev.modCtx_ch (a : Fin 256) (f : Ctx → Ctx) (b : ChanId) : (x.modCtx a f).ch b = x.ch b := rfl
@[simp] theorem Dev.modCtx_capu (a : Fin 256) (f : Ctx → Ctx) (b : Fin 4) : (x.modCtx a f).capu b = x.capu b := rfl
@[simp] theorem Dev.modCtx_inPin (a : Fin 256) (f : Ctx → Ctx) (b : InId) : (x.modCtx a f).inPin b = x.inPin b := rfl
@[simp] theorem Dev.modCtx_sin (a : Fin 256) (f : Ctx → Ctx) (b : Fin 8) : (x.modCtx a f).sin b = x.sin b := rfl
@[simp] theorem Dev.modCtx_outPin (a : Fin 256) (f : Ctx → Ctx) (b : OutId) : (x.modCtx a f).outPin b = x.outPin b := rfl
@[simp] theorem Dev.modCtx_sout (a : Fin 256) (f : Ctx → Ctx) (b : Fin 4) : (x.modCtx a f).sout b = x.sout b := rfl
@[simp] theorem Dev.modCtx_grp (a : Fin 256) (f : Ctx → Ctx) (b : Fin 8) : (x.modCtx a f).grp b = x.grp b := rfl
@[simp] theorem Dev.modCtx_tt (a : Fin 256) (f : Ctx → Ctx) : (x.modCtx a f).tt = x.tt := rfl
@[simp] theorem Dev.modCtx_isSealed (a : Fin 256) (f : Ctx → Ctx) : (x.modCtx a f).isSealed = x.isSealed := rfl
@[simp] theorem Dev.modCtx_holding (a : Fin 256) (f : Ctx → Ctx) : (x.modCtx a f).holding = x.holding := rfl
@[simp] theorem Dev.modCtx_ctx (a : Fin 256) (f : Ctx → Ctx) : (x.modCtx a f).ctx a = f (x.ctx a) := vget_set _ _ _
theorem Dev.modCtx_ctx_ne (a : Fin 256) (f : Ctx → Ctx) (b : Fin 256) (h : b ≠ a) : (x.modCtx a f).ctx b = x.ctx b := vget_set_ne _ _ _ _ h

/-! ### modIn -/

@[simp] theorem Dev.modIn_time (a : InId) (f : InPin → InPin) : (x.modIn a f).time = x.time := rfl
@[simp] theorem Dev.modIn_sched (a : InId) (f : InPin → InPin) : (x.modIn a f).sched = x.sched := rfl
@[simp] theorem Dev.modIn_gate (a : InId) (f : InPin → InPin) : (x.modIn a f).gate = x.gate := rfl
@[simp] theorem Dev.modIn_doors (a : InId) (f : InPin → InPin) : (x.modIn a f).doors = x.doors := rfl
@[simp] theorem Dev.modIn_axes (a : InId) (f : InPin → InPin) : (x.modIn a f).axes = x.axes := rfl
@[simp] theorem Dev.modIn_host (a : InId) (f : InPin → InPin) : (x.modIn a f).host = x.host := rfl
@[simp] theorem Dev.modIn_reqH (a : InId) (f : InPin → InPin) : (x.modIn a f).reqH = x.reqH := rfl
@[simp] theorem Dev.modIn_reqM (a : InId) (f : InPin → InPin) : (x.modIn a f).reqM = x.reqM := rfl
@[simp] theorem Dev.modIn_atolls (a : InId) (f : InPin → InPin) : (x.modIn a f).atolls = x.atolls := rfl
@[simp] theorem Dev.modIn_caps (a : InId) (f : InPin → InPin) : (x.modIn a f).caps = x.caps := rfl
@[simp] theorem Dev.modIn_chans (a : InId) (f : InPin → InPin) : (x.modIn a f).chans = x.chans := rfl
@[simp] theorem Dev.modIn_parts (a : InId) (f : InPin → InPin) : (x.modIn a f).parts = x.parts := rfl
@[simp] theorem Dev.modIn_twin (a : InId) (f : InPin → InPin) : (x.modIn a f).twin = x.twin := rfl
@[simp] theorem Dev.modIn_cairn (a : InId) (f : InPin → InPin) : (x.modIn a f).cairn = x.cairn := rfl
@[simp] theorem Dev.modIn_keeper (a : InId) (f : InPin → InPin) : (x.modIn a f).keeper = x.keeper := rfl
@[simp] theorem Dev.modIn_img (a : InId) (f : InPin → InPin) : (x.modIn a f).img = x.img := rfl
@[simp] theorem Dev.modIn_su (a : InId) (f : InPin → InPin) : (x.modIn a f).su = x.su := rfl
@[simp] theorem Dev.modIn_evt (a : InId) (f : InPin → InPin) : (x.modIn a f).evt = x.evt := rfl
@[simp] theorem Dev.modIn_eng (a : InId) (f : InPin → InPin) : (x.modIn a f).eng = x.eng := rfl
@[simp] theorem Dev.modIn_free (a : InId) (f : InPin → InPin) : (x.modIn a f).free = x.free := rfl
@[simp] theorem Dev.modIn_ax (a : InId) (f : InPin → InPin) (b : AxisId) : (x.modIn a f).ax b = x.ax b := rfl
@[simp] theorem Dev.modIn_dw (a : InId) (f : InPin → InPin) (b : DoorId) : (x.modIn a f).dw b = x.dw b := rfl
@[simp] theorem Dev.modIn_atl (a : InId) (f : InPin → InPin) (b : AtollId) : (x.modIn a f).atl b = x.atl b := rfl
@[simp] theorem Dev.modIn_ch (a : InId) (f : InPin → InPin) (b : ChanId) : (x.modIn a f).ch b = x.ch b := rfl
@[simp] theorem Dev.modIn_capu (a : InId) (f : InPin → InPin) (b : Fin 4) : (x.modIn a f).capu b = x.capu b := rfl
@[simp] theorem Dev.modIn_ctx (a : InId) (f : InPin → InPin) (b : Fin 256) : (x.modIn a f).ctx b = x.ctx b := rfl
@[simp] theorem Dev.modIn_sin (a : InId) (f : InPin → InPin) (b : Fin 8) : (x.modIn a f).sin b = x.sin b := rfl
@[simp] theorem Dev.modIn_outPin (a : InId) (f : InPin → InPin) (b : OutId) : (x.modIn a f).outPin b = x.outPin b := rfl
@[simp] theorem Dev.modIn_sout (a : InId) (f : InPin → InPin) (b : Fin 4) : (x.modIn a f).sout b = x.sout b := rfl
@[simp] theorem Dev.modIn_grp (a : InId) (f : InPin → InPin) (b : Fin 8) : (x.modIn a f).grp b = x.grp b := rfl
@[simp] theorem Dev.modIn_tt (a : InId) (f : InPin → InPin) : (x.modIn a f).tt = x.tt := rfl
@[simp] theorem Dev.modIn_isSealed (a : InId) (f : InPin → InPin) : (x.modIn a f).isSealed = x.isSealed := rfl
@[simp] theorem Dev.modIn_holding (a : InId) (f : InPin → InPin) : (x.modIn a f).holding = x.holding := rfl
@[simp] theorem Dev.modIn_inPin (a : InId) (f : InPin → InPin) : (x.modIn a f).inPin a = f (x.inPin a) := vget_set _ _ _
theorem Dev.modIn_inPin_ne (a : InId) (f : InPin → InPin) (b : InId) (h : b ≠ a) : (x.modIn a f).inPin b = x.inPin b := vget_set_ne _ _ _ _ h

/-! ### modSin -/

@[simp] theorem Dev.modSin_time (a : Fin 8) (f : SafeIn → SafeIn) : (x.modSin a f).time = x.time := rfl
@[simp] theorem Dev.modSin_sched (a : Fin 8) (f : SafeIn → SafeIn) : (x.modSin a f).sched = x.sched := rfl
@[simp] theorem Dev.modSin_gate (a : Fin 8) (f : SafeIn → SafeIn) : (x.modSin a f).gate = x.gate := rfl
@[simp] theorem Dev.modSin_doors (a : Fin 8) (f : SafeIn → SafeIn) : (x.modSin a f).doors = x.doors := rfl
@[simp] theorem Dev.modSin_axes (a : Fin 8) (f : SafeIn → SafeIn) : (x.modSin a f).axes = x.axes := rfl
@[simp] theorem Dev.modSin_host (a : Fin 8) (f : SafeIn → SafeIn) : (x.modSin a f).host = x.host := rfl
@[simp] theorem Dev.modSin_reqH (a : Fin 8) (f : SafeIn → SafeIn) : (x.modSin a f).reqH = x.reqH := rfl
@[simp] theorem Dev.modSin_reqM (a : Fin 8) (f : SafeIn → SafeIn) : (x.modSin a f).reqM = x.reqM := rfl
@[simp] theorem Dev.modSin_atolls (a : Fin 8) (f : SafeIn → SafeIn) : (x.modSin a f).atolls = x.atolls := rfl
@[simp] theorem Dev.modSin_caps (a : Fin 8) (f : SafeIn → SafeIn) : (x.modSin a f).caps = x.caps := rfl
@[simp] theorem Dev.modSin_chans (a : Fin 8) (f : SafeIn → SafeIn) : (x.modSin a f).chans = x.chans := rfl
@[simp] theorem Dev.modSin_parts (a : Fin 8) (f : SafeIn → SafeIn) : (x.modSin a f).parts = x.parts := rfl
@[simp] theorem Dev.modSin_twin (a : Fin 8) (f : SafeIn → SafeIn) : (x.modSin a f).twin = x.twin := rfl
@[simp] theorem Dev.modSin_cairn (a : Fin 8) (f : SafeIn → SafeIn) : (x.modSin a f).cairn = x.cairn := rfl
@[simp] theorem Dev.modSin_keeper (a : Fin 8) (f : SafeIn → SafeIn) : (x.modSin a f).keeper = x.keeper := rfl
@[simp] theorem Dev.modSin_img (a : Fin 8) (f : SafeIn → SafeIn) : (x.modSin a f).img = x.img := rfl
@[simp] theorem Dev.modSin_su (a : Fin 8) (f : SafeIn → SafeIn) : (x.modSin a f).su = x.su := rfl
@[simp] theorem Dev.modSin_evt (a : Fin 8) (f : SafeIn → SafeIn) : (x.modSin a f).evt = x.evt := rfl
@[simp] theorem Dev.modSin_eng (a : Fin 8) (f : SafeIn → SafeIn) : (x.modSin a f).eng = x.eng := rfl
@[simp] theorem Dev.modSin_free (a : Fin 8) (f : SafeIn → SafeIn) : (x.modSin a f).free = x.free := rfl
@[simp] theorem Dev.modSin_ax (a : Fin 8) (f : SafeIn → SafeIn) (b : AxisId) : (x.modSin a f).ax b = x.ax b := rfl
@[simp] theorem Dev.modSin_dw (a : Fin 8) (f : SafeIn → SafeIn) (b : DoorId) : (x.modSin a f).dw b = x.dw b := rfl
@[simp] theorem Dev.modSin_atl (a : Fin 8) (f : SafeIn → SafeIn) (b : AtollId) : (x.modSin a f).atl b = x.atl b := rfl
@[simp] theorem Dev.modSin_ch (a : Fin 8) (f : SafeIn → SafeIn) (b : ChanId) : (x.modSin a f).ch b = x.ch b := rfl
@[simp] theorem Dev.modSin_capu (a : Fin 8) (f : SafeIn → SafeIn) (b : Fin 4) : (x.modSin a f).capu b = x.capu b := rfl
@[simp] theorem Dev.modSin_ctx (a : Fin 8) (f : SafeIn → SafeIn) (b : Fin 256) : (x.modSin a f).ctx b = x.ctx b := rfl
@[simp] theorem Dev.modSin_inPin (a : Fin 8) (f : SafeIn → SafeIn) (b : InId) : (x.modSin a f).inPin b = x.inPin b := rfl
@[simp] theorem Dev.modSin_outPin (a : Fin 8) (f : SafeIn → SafeIn) (b : OutId) : (x.modSin a f).outPin b = x.outPin b := rfl
@[simp] theorem Dev.modSin_sout (a : Fin 8) (f : SafeIn → SafeIn) (b : Fin 4) : (x.modSin a f).sout b = x.sout b := rfl
@[simp] theorem Dev.modSin_grp (a : Fin 8) (f : SafeIn → SafeIn) (b : Fin 8) : (x.modSin a f).grp b = x.grp b := rfl
@[simp] theorem Dev.modSin_tt (a : Fin 8) (f : SafeIn → SafeIn) : (x.modSin a f).tt = x.tt := rfl
@[simp] theorem Dev.modSin_isSealed (a : Fin 8) (f : SafeIn → SafeIn) : (x.modSin a f).isSealed = x.isSealed := rfl
@[simp] theorem Dev.modSin_holding (a : Fin 8) (f : SafeIn → SafeIn) : (x.modSin a f).holding = x.holding := rfl
@[simp] theorem Dev.modSin_sin (a : Fin 8) (f : SafeIn → SafeIn) : (x.modSin a f).sin a = f (x.sin a) := vget_set _ _ _
theorem Dev.modSin_sin_ne (a : Fin 8) (f : SafeIn → SafeIn) (b : Fin 8) (h : b ≠ a) : (x.modSin a f).sin b = x.sin b := vget_set_ne _ _ _ _ h

/-! ### modOut -/

@[simp] theorem Dev.modOut_time (a : OutId) (f : OutPin → OutPin) : (x.modOut a f).time = x.time := rfl
@[simp] theorem Dev.modOut_sched (a : OutId) (f : OutPin → OutPin) : (x.modOut a f).sched = x.sched := rfl
@[simp] theorem Dev.modOut_gate (a : OutId) (f : OutPin → OutPin) : (x.modOut a f).gate = x.gate := rfl
@[simp] theorem Dev.modOut_doors (a : OutId) (f : OutPin → OutPin) : (x.modOut a f).doors = x.doors := rfl
@[simp] theorem Dev.modOut_axes (a : OutId) (f : OutPin → OutPin) : (x.modOut a f).axes = x.axes := rfl
@[simp] theorem Dev.modOut_host (a : OutId) (f : OutPin → OutPin) : (x.modOut a f).host = x.host := rfl
@[simp] theorem Dev.modOut_reqH (a : OutId) (f : OutPin → OutPin) : (x.modOut a f).reqH = x.reqH := rfl
@[simp] theorem Dev.modOut_reqM (a : OutId) (f : OutPin → OutPin) : (x.modOut a f).reqM = x.reqM := rfl
@[simp] theorem Dev.modOut_atolls (a : OutId) (f : OutPin → OutPin) : (x.modOut a f).atolls = x.atolls := rfl
@[simp] theorem Dev.modOut_caps (a : OutId) (f : OutPin → OutPin) : (x.modOut a f).caps = x.caps := rfl
@[simp] theorem Dev.modOut_chans (a : OutId) (f : OutPin → OutPin) : (x.modOut a f).chans = x.chans := rfl
@[simp] theorem Dev.modOut_parts (a : OutId) (f : OutPin → OutPin) : (x.modOut a f).parts = x.parts := rfl
@[simp] theorem Dev.modOut_twin (a : OutId) (f : OutPin → OutPin) : (x.modOut a f).twin = x.twin := rfl
@[simp] theorem Dev.modOut_cairn (a : OutId) (f : OutPin → OutPin) : (x.modOut a f).cairn = x.cairn := rfl
@[simp] theorem Dev.modOut_keeper (a : OutId) (f : OutPin → OutPin) : (x.modOut a f).keeper = x.keeper := rfl
@[simp] theorem Dev.modOut_img (a : OutId) (f : OutPin → OutPin) : (x.modOut a f).img = x.img := rfl
@[simp] theorem Dev.modOut_su (a : OutId) (f : OutPin → OutPin) : (x.modOut a f).su = x.su := rfl
@[simp] theorem Dev.modOut_evt (a : OutId) (f : OutPin → OutPin) : (x.modOut a f).evt = x.evt := rfl
@[simp] theorem Dev.modOut_eng (a : OutId) (f : OutPin → OutPin) : (x.modOut a f).eng = x.eng := rfl
@[simp] theorem Dev.modOut_free (a : OutId) (f : OutPin → OutPin) : (x.modOut a f).free = x.free := rfl
@[simp] theorem Dev.modOut_ax (a : OutId) (f : OutPin → OutPin) (b : AxisId) : (x.modOut a f).ax b = x.ax b := rfl
@[simp] theorem Dev.modOut_dw (a : OutId) (f : OutPin → OutPin) (b : DoorId) : (x.modOut a f).dw b = x.dw b := rfl
@[simp] theorem Dev.modOut_atl (a : OutId) (f : OutPin → OutPin) (b : AtollId) : (x.modOut a f).atl b = x.atl b := rfl
@[simp] theorem Dev.modOut_ch (a : OutId) (f : OutPin → OutPin) (b : ChanId) : (x.modOut a f).ch b = x.ch b := rfl
@[simp] theorem Dev.modOut_capu (a : OutId) (f : OutPin → OutPin) (b : Fin 4) : (x.modOut a f).capu b = x.capu b := rfl
@[simp] theorem Dev.modOut_ctx (a : OutId) (f : OutPin → OutPin) (b : Fin 256) : (x.modOut a f).ctx b = x.ctx b := rfl
@[simp] theorem Dev.modOut_inPin (a : OutId) (f : OutPin → OutPin) (b : InId) : (x.modOut a f).inPin b = x.inPin b := rfl
@[simp] theorem Dev.modOut_sin (a : OutId) (f : OutPin → OutPin) (b : Fin 8) : (x.modOut a f).sin b = x.sin b := rfl
@[simp] theorem Dev.modOut_sout (a : OutId) (f : OutPin → OutPin) (b : Fin 4) : (x.modOut a f).sout b = x.sout b := rfl
@[simp] theorem Dev.modOut_grp (a : OutId) (f : OutPin → OutPin) (b : Fin 8) : (x.modOut a f).grp b = x.grp b := rfl
@[simp] theorem Dev.modOut_tt (a : OutId) (f : OutPin → OutPin) : (x.modOut a f).tt = x.tt := rfl
@[simp] theorem Dev.modOut_isSealed (a : OutId) (f : OutPin → OutPin) : (x.modOut a f).isSealed = x.isSealed := rfl
@[simp] theorem Dev.modOut_holding (a : OutId) (f : OutPin → OutPin) : (x.modOut a f).holding = x.holding := rfl
@[simp] theorem Dev.modOut_outPin (a : OutId) (f : OutPin → OutPin) : (x.modOut a f).outPin a = f (x.outPin a) := vget_set _ _ _
theorem Dev.modOut_outPin_ne (a : OutId) (f : OutPin → OutPin) (b : OutId) (h : b ≠ a) : (x.modOut a f).outPin b = x.outPin b := vget_set_ne _ _ _ _ h

/-! ### modSout -/

@[simp] theorem Dev.modSout_time (a : Fin 4) (f : OutPin → OutPin) : (x.modSout a f).time = x.time := rfl
@[simp] theorem Dev.modSout_sched (a : Fin 4) (f : OutPin → OutPin) : (x.modSout a f).sched = x.sched := rfl
@[simp] theorem Dev.modSout_gate (a : Fin 4) (f : OutPin → OutPin) : (x.modSout a f).gate = x.gate := rfl
@[simp] theorem Dev.modSout_doors (a : Fin 4) (f : OutPin → OutPin) : (x.modSout a f).doors = x.doors := rfl
@[simp] theorem Dev.modSout_axes (a : Fin 4) (f : OutPin → OutPin) : (x.modSout a f).axes = x.axes := rfl
@[simp] theorem Dev.modSout_host (a : Fin 4) (f : OutPin → OutPin) : (x.modSout a f).host = x.host := rfl
@[simp] theorem Dev.modSout_reqH (a : Fin 4) (f : OutPin → OutPin) : (x.modSout a f).reqH = x.reqH := rfl
@[simp] theorem Dev.modSout_reqM (a : Fin 4) (f : OutPin → OutPin) : (x.modSout a f).reqM = x.reqM := rfl
@[simp] theorem Dev.modSout_atolls (a : Fin 4) (f : OutPin → OutPin) : (x.modSout a f).atolls = x.atolls := rfl
@[simp] theorem Dev.modSout_caps (a : Fin 4) (f : OutPin → OutPin) : (x.modSout a f).caps = x.caps := rfl
@[simp] theorem Dev.modSout_chans (a : Fin 4) (f : OutPin → OutPin) : (x.modSout a f).chans = x.chans := rfl
@[simp] theorem Dev.modSout_parts (a : Fin 4) (f : OutPin → OutPin) : (x.modSout a f).parts = x.parts := rfl
@[simp] theorem Dev.modSout_twin (a : Fin 4) (f : OutPin → OutPin) : (x.modSout a f).twin = x.twin := rfl
@[simp] theorem Dev.modSout_cairn (a : Fin 4) (f : OutPin → OutPin) : (x.modSout a f).cairn = x.cairn := rfl
@[simp] theorem Dev.modSout_keeper (a : Fin 4) (f : OutPin → OutPin) : (x.modSout a f).keeper = x.keeper := rfl
@[simp] theorem Dev.modSout_img (a : Fin 4) (f : OutPin → OutPin) : (x.modSout a f).img = x.img := rfl
@[simp] theorem Dev.modSout_su (a : Fin 4) (f : OutPin → OutPin) : (x.modSout a f).su = x.su := rfl
@[simp] theorem Dev.modSout_evt (a : Fin 4) (f : OutPin → OutPin) : (x.modSout a f).evt = x.evt := rfl
@[simp] theorem Dev.modSout_eng (a : Fin 4) (f : OutPin → OutPin) : (x.modSout a f).eng = x.eng := rfl
@[simp] theorem Dev.modSout_free (a : Fin 4) (f : OutPin → OutPin) : (x.modSout a f).free = x.free := rfl
@[simp] theorem Dev.modSout_ax (a : Fin 4) (f : OutPin → OutPin) (b : AxisId) : (x.modSout a f).ax b = x.ax b := rfl
@[simp] theorem Dev.modSout_dw (a : Fin 4) (f : OutPin → OutPin) (b : DoorId) : (x.modSout a f).dw b = x.dw b := rfl
@[simp] theorem Dev.modSout_atl (a : Fin 4) (f : OutPin → OutPin) (b : AtollId) : (x.modSout a f).atl b = x.atl b := rfl
@[simp] theorem Dev.modSout_ch (a : Fin 4) (f : OutPin → OutPin) (b : ChanId) : (x.modSout a f).ch b = x.ch b := rfl
@[simp] theorem Dev.modSout_capu (a : Fin 4) (f : OutPin → OutPin) (b : Fin 4) : (x.modSout a f).capu b = x.capu b := rfl
@[simp] theorem Dev.modSout_ctx (a : Fin 4) (f : OutPin → OutPin) (b : Fin 256) : (x.modSout a f).ctx b = x.ctx b := rfl
@[simp] theorem Dev.modSout_inPin (a : Fin 4) (f : OutPin → OutPin) (b : InId) : (x.modSout a f).inPin b = x.inPin b := rfl
@[simp] theorem Dev.modSout_sin (a : Fin 4) (f : OutPin → OutPin) (b : Fin 8) : (x.modSout a f).sin b = x.sin b := rfl
@[simp] theorem Dev.modSout_outPin (a : Fin 4) (f : OutPin → OutPin) (b : OutId) : (x.modSout a f).outPin b = x.outPin b := rfl
@[simp] theorem Dev.modSout_grp (a : Fin 4) (f : OutPin → OutPin) (b : Fin 8) : (x.modSout a f).grp b = x.grp b := rfl
@[simp] theorem Dev.modSout_tt (a : Fin 4) (f : OutPin → OutPin) : (x.modSout a f).tt = x.tt := rfl
@[simp] theorem Dev.modSout_isSealed (a : Fin 4) (f : OutPin → OutPin) : (x.modSout a f).isSealed = x.isSealed := rfl
@[simp] theorem Dev.modSout_holding (a : Fin 4) (f : OutPin → OutPin) : (x.modSout a f).holding = x.holding := rfl
@[simp] theorem Dev.modSout_sout (a : Fin 4) (f : OutPin → OutPin) : (x.modSout a f).sout a = f (x.sout a) := vget_set _ _ _
theorem Dev.modSout_sout_ne (a : Fin 4) (f : OutPin → OutPin) (b : Fin 4) (h : b ≠ a) : (x.modSout a f).sout b = x.sout b := vget_set_ne _ _ _ _ h

/-! ### modGrp -/

@[simp] theorem Dev.modGrp_time (a : Fin 8) (f : Grp → Grp) : (x.modGrp a f).time = x.time := rfl
@[simp] theorem Dev.modGrp_sched (a : Fin 8) (f : Grp → Grp) : (x.modGrp a f).sched = x.sched := rfl
@[simp] theorem Dev.modGrp_gate (a : Fin 8) (f : Grp → Grp) : (x.modGrp a f).gate = x.gate := rfl
@[simp] theorem Dev.modGrp_doors (a : Fin 8) (f : Grp → Grp) : (x.modGrp a f).doors = x.doors := rfl
@[simp] theorem Dev.modGrp_axes (a : Fin 8) (f : Grp → Grp) : (x.modGrp a f).axes = x.axes := rfl
@[simp] theorem Dev.modGrp_host (a : Fin 8) (f : Grp → Grp) : (x.modGrp a f).host = x.host := rfl
@[simp] theorem Dev.modGrp_reqH (a : Fin 8) (f : Grp → Grp) : (x.modGrp a f).reqH = x.reqH := rfl
@[simp] theorem Dev.modGrp_reqM (a : Fin 8) (f : Grp → Grp) : (x.modGrp a f).reqM = x.reqM := rfl
@[simp] theorem Dev.modGrp_atolls (a : Fin 8) (f : Grp → Grp) : (x.modGrp a f).atolls = x.atolls := rfl
@[simp] theorem Dev.modGrp_caps (a : Fin 8) (f : Grp → Grp) : (x.modGrp a f).caps = x.caps := rfl
@[simp] theorem Dev.modGrp_chans (a : Fin 8) (f : Grp → Grp) : (x.modGrp a f).chans = x.chans := rfl
@[simp] theorem Dev.modGrp_parts (a : Fin 8) (f : Grp → Grp) : (x.modGrp a f).parts = x.parts := rfl
@[simp] theorem Dev.modGrp_twin (a : Fin 8) (f : Grp → Grp) : (x.modGrp a f).twin = x.twin := rfl
@[simp] theorem Dev.modGrp_cairn (a : Fin 8) (f : Grp → Grp) : (x.modGrp a f).cairn = x.cairn := rfl
@[simp] theorem Dev.modGrp_keeper (a : Fin 8) (f : Grp → Grp) : (x.modGrp a f).keeper = x.keeper := rfl
@[simp] theorem Dev.modGrp_img (a : Fin 8) (f : Grp → Grp) : (x.modGrp a f).img = x.img := rfl
@[simp] theorem Dev.modGrp_su (a : Fin 8) (f : Grp → Grp) : (x.modGrp a f).su = x.su := rfl
@[simp] theorem Dev.modGrp_evt (a : Fin 8) (f : Grp → Grp) : (x.modGrp a f).evt = x.evt := rfl
@[simp] theorem Dev.modGrp_eng (a : Fin 8) (f : Grp → Grp) : (x.modGrp a f).eng = x.eng := rfl
@[simp] theorem Dev.modGrp_free (a : Fin 8) (f : Grp → Grp) : (x.modGrp a f).free = x.free := rfl
@[simp] theorem Dev.modGrp_ax (a : Fin 8) (f : Grp → Grp) (b : AxisId) : (x.modGrp a f).ax b = x.ax b := rfl
@[simp] theorem Dev.modGrp_dw (a : Fin 8) (f : Grp → Grp) (b : DoorId) : (x.modGrp a f).dw b = x.dw b := rfl
@[simp] theorem Dev.modGrp_atl (a : Fin 8) (f : Grp → Grp) (b : AtollId) : (x.modGrp a f).atl b = x.atl b := rfl
@[simp] theorem Dev.modGrp_ch (a : Fin 8) (f : Grp → Grp) (b : ChanId) : (x.modGrp a f).ch b = x.ch b := rfl
@[simp] theorem Dev.modGrp_capu (a : Fin 8) (f : Grp → Grp) (b : Fin 4) : (x.modGrp a f).capu b = x.capu b := rfl
@[simp] theorem Dev.modGrp_ctx (a : Fin 8) (f : Grp → Grp) (b : Fin 256) : (x.modGrp a f).ctx b = x.ctx b := rfl
@[simp] theorem Dev.modGrp_inPin (a : Fin 8) (f : Grp → Grp) (b : InId) : (x.modGrp a f).inPin b = x.inPin b := rfl
@[simp] theorem Dev.modGrp_sin (a : Fin 8) (f : Grp → Grp) (b : Fin 8) : (x.modGrp a f).sin b = x.sin b := rfl
@[simp] theorem Dev.modGrp_outPin (a : Fin 8) (f : Grp → Grp) (b : OutId) : (x.modGrp a f).outPin b = x.outPin b := rfl
@[simp] theorem Dev.modGrp_sout (a : Fin 8) (f : Grp → Grp) (b : Fin 4) : (x.modGrp a f).sout b = x.sout b := rfl
@[simp] theorem Dev.modGrp_tt (a : Fin 8) (f : Grp → Grp) : (x.modGrp a f).tt = x.tt := rfl
@[simp] theorem Dev.modGrp_isSealed (a : Fin 8) (f : Grp → Grp) : (x.modGrp a f).isSealed = x.isSealed := rfl
@[simp] theorem Dev.modGrp_holding (a : Fin 8) (f : Grp → Grp) : (x.modGrp a f).holding = x.holding := rfl
@[simp] theorem Dev.modGrp_grp (a : Fin 8) (f : Grp → Grp) : (x.modGrp a f).grp a = f (x.grp a) := vget_set _ _ _
theorem Dev.modGrp_grp_ne (a : Fin 8) (f : Grp → Grp) (b : Fin 8) (h : b ≠ a) : (x.modGrp a f).grp b = x.grp b := vget_set_ne _ _ _ _ h

/-! ### modPort -/

@[simp] theorem Dev.modPort_time (a : AxisId) (f : Port → Port) : (x.modPort a f).time = x.time := rfl
@[simp] theorem Dev.modPort_sched (a : AxisId) (f : Port → Port) : (x.modPort a f).sched = x.sched := rfl
@[simp] theorem Dev.modPort_gate (a : AxisId) (f : Port → Port) : (x.modPort a f).gate = x.gate := rfl
@[simp] theorem Dev.modPort_doors (a : AxisId) (f : Port → Port) : (x.modPort a f).doors = x.doors := rfl
@[simp] theorem Dev.modPort_fio (a : AxisId) (f : Port → Port) : (x.modPort a f).fio = x.fio := rfl
@[simp] theorem Dev.modPort_host (a : AxisId) (f : Port → Port) : (x.modPort a f).host = x.host := rfl
@[simp] theorem Dev.modPort_reqH (a : AxisId) (f : Port → Port) : (x.modPort a f).reqH = x.reqH := rfl
@[simp] theorem Dev.modPort_reqM (a : AxisId) (f : Port → Port) : (x.modPort a f).reqM = x.reqM := rfl
@[simp] theorem Dev.modPort_atolls (a : AxisId) (f : Port → Port) : (x.modPort a f).atolls = x.atolls := rfl
@[simp] theorem Dev.modPort_caps (a : AxisId) (f : Port → Port) : (x.modPort a f).caps = x.caps := rfl
@[simp] theorem Dev.modPort_chans (a : AxisId) (f : Port → Port) : (x.modPort a f).chans = x.chans := rfl
@[simp] theorem Dev.modPort_parts (a : AxisId) (f : Port → Port) : (x.modPort a f).parts = x.parts := rfl
@[simp] theorem Dev.modPort_twin (a : AxisId) (f : Port → Port) : (x.modPort a f).twin = x.twin := rfl
@[simp] theorem Dev.modPort_cairn (a : AxisId) (f : Port → Port) : (x.modPort a f).cairn = x.cairn := rfl
@[simp] theorem Dev.modPort_keeper (a : AxisId) (f : Port → Port) : (x.modPort a f).keeper = x.keeper := rfl
@[simp] theorem Dev.modPort_img (a : AxisId) (f : Port → Port) : (x.modPort a f).img = x.img := rfl
@[simp] theorem Dev.modPort_su (a : AxisId) (f : Port → Port) : (x.modPort a f).su = x.su := rfl
@[simp] theorem Dev.modPort_evt (a : AxisId) (f : Port → Port) : (x.modPort a f).evt = x.evt := rfl
@[simp] theorem Dev.modPort_eng (a : AxisId) (f : Port → Port) : (x.modPort a f).eng = x.eng := rfl
@[simp] theorem Dev.modPort_free (a : AxisId) (f : Port → Port) : (x.modPort a f).free = x.free := rfl
@[simp] theorem Dev.modPort_dw (a : AxisId) (f : Port → Port) (b : DoorId) : (x.modPort a f).dw b = x.dw b := rfl
@[simp] theorem Dev.modPort_atl (a : AxisId) (f : Port → Port) (b : AtollId) : (x.modPort a f).atl b = x.atl b := rfl
@[simp] theorem Dev.modPort_ch (a : AxisId) (f : Port → Port) (b : ChanId) : (x.modPort a f).ch b = x.ch b := rfl
@[simp] theorem Dev.modPort_capu (a : AxisId) (f : Port → Port) (b : Fin 4) : (x.modPort a f).capu b = x.capu b := rfl
@[simp] theorem Dev.modPort_ctx (a : AxisId) (f : Port → Port) (b : Fin 256) : (x.modPort a f).ctx b = x.ctx b := rfl
@[simp] theorem Dev.modPort_inPin (a : AxisId) (f : Port → Port) (b : InId) : (x.modPort a f).inPin b = x.inPin b := rfl
@[simp] theorem Dev.modPort_sin (a : AxisId) (f : Port → Port) (b : Fin 8) : (x.modPort a f).sin b = x.sin b := rfl
@[simp] theorem Dev.modPort_outPin (a : AxisId) (f : Port → Port) (b : OutId) : (x.modPort a f).outPin b = x.outPin b := rfl
@[simp] theorem Dev.modPort_sout (a : AxisId) (f : Port → Port) (b : Fin 4) : (x.modPort a f).sout b = x.sout b := rfl
@[simp] theorem Dev.modPort_grp (a : AxisId) (f : Port → Port) (b : Fin 8) : (x.modPort a f).grp b = x.grp b := rfl
@[simp] theorem Dev.modPort_tt (a : AxisId) (f : Port → Port) : (x.modPort a f).tt = x.tt := rfl
@[simp] theorem Dev.modPort_isSealed (a : AxisId) (f : Port → Port) : (x.modPort a f).isSealed = x.isSealed := rfl
@[simp] theorem Dev.modPort_holding (a : AxisId) (f : Port → Port) : (x.modPort a f).holding = x.holding := rfl

/-! ### modPair -/

@[simp] theorem Dev.modPair_time (p : Fin 4) (f : Pair → Pair) : (x.modPair p f).time = x.time := rfl
@[simp] theorem Dev.modPair_sched (p : Fin 4) (f : Pair → Pair) : (x.modPair p f).sched = x.sched := rfl
@[simp] theorem Dev.modPair_doors (p : Fin 4) (f : Pair → Pair) : (x.modPair p f).doors = x.doors := rfl
@[simp] theorem Dev.modPair_axes (p : Fin 4) (f : Pair → Pair) : (x.modPair p f).axes = x.axes := rfl
@[simp] theorem Dev.modPair_fio (p : Fin 4) (f : Pair → Pair) : (x.modPair p f).fio = x.fio := rfl
@[simp] theorem Dev.modPair_host (p : Fin 4) (f : Pair → Pair) : (x.modPair p f).host = x.host := rfl
@[simp] theorem Dev.modPair_reqH (p : Fin 4) (f : Pair → Pair) : (x.modPair p f).reqH = x.reqH := rfl
@[simp] theorem Dev.modPair_reqM (p : Fin 4) (f : Pair → Pair) : (x.modPair p f).reqM = x.reqM := rfl
@[simp] theorem Dev.modPair_atolls (p : Fin 4) (f : Pair → Pair) : (x.modPair p f).atolls = x.atolls := rfl
@[simp] theorem Dev.modPair_caps (p : Fin 4) (f : Pair → Pair) : (x.modPair p f).caps = x.caps := rfl
@[simp] theorem Dev.modPair_chans (p : Fin 4) (f : Pair → Pair) : (x.modPair p f).chans = x.chans := rfl
@[simp] theorem Dev.modPair_parts (p : Fin 4) (f : Pair → Pair) : (x.modPair p f).parts = x.parts := rfl
@[simp] theorem Dev.modPair_twin (p : Fin 4) (f : Pair → Pair) : (x.modPair p f).twin = x.twin := rfl
@[simp] theorem Dev.modPair_cairn (p : Fin 4) (f : Pair → Pair) : (x.modPair p f).cairn = x.cairn := rfl
@[simp] theorem Dev.modPair_keeper (p : Fin 4) (f : Pair → Pair) : (x.modPair p f).keeper = x.keeper := rfl
@[simp] theorem Dev.modPair_img (p : Fin 4) (f : Pair → Pair) : (x.modPair p f).img = x.img := rfl
@[simp] theorem Dev.modPair_su (p : Fin 4) (f : Pair → Pair) : (x.modPair p f).su = x.su := rfl
@[simp] theorem Dev.modPair_evt (p : Fin 4) (f : Pair → Pair) : (x.modPair p f).evt = x.evt := rfl
@[simp] theorem Dev.modPair_eng (p : Fin 4) (f : Pair → Pair) : (x.modPair p f).eng = x.eng := rfl
@[simp] theorem Dev.modPair_free (p : Fin 4) (f : Pair → Pair) : (x.modPair p f).free = x.free := rfl
@[simp] theorem Dev.modPair_ax (p : Fin 4) (f : Pair → Pair) (b : AxisId) : (x.modPair p f).ax b = x.ax b := rfl
@[simp] theorem Dev.modPair_dw (p : Fin 4) (f : Pair → Pair) (b : DoorId) : (x.modPair p f).dw b = x.dw b := rfl
@[simp] theorem Dev.modPair_atl (p : Fin 4) (f : Pair → Pair) (b : AtollId) : (x.modPair p f).atl b = x.atl b := rfl
@[simp] theorem Dev.modPair_ch (p : Fin 4) (f : Pair → Pair) (b : ChanId) : (x.modPair p f).ch b = x.ch b := rfl
@[simp] theorem Dev.modPair_capu (p : Fin 4) (f : Pair → Pair) (b : Fin 4) : (x.modPair p f).capu b = x.capu b := rfl
@[simp] theorem Dev.modPair_ctx (p : Fin 4) (f : Pair → Pair) (b : Fin 256) : (x.modPair p f).ctx b = x.ctx b := rfl
@[simp] theorem Dev.modPair_inPin (p : Fin 4) (f : Pair → Pair) (b : InId) : (x.modPair p f).inPin b = x.inPin b := rfl
@[simp] theorem Dev.modPair_sin (p : Fin 4) (f : Pair → Pair) (b : Fin 8) : (x.modPair p f).sin b = x.sin b := rfl
@[simp] theorem Dev.modPair_outPin (p : Fin 4) (f : Pair → Pair) (b : OutId) : (x.modPair p f).outPin b = x.outPin b := rfl
@[simp] theorem Dev.modPair_sout (p : Fin 4) (f : Pair → Pair) (b : Fin 4) : (x.modPair p f).sout b = x.sout b := rfl
@[simp] theorem Dev.modPair_grp (p : Fin 4) (f : Pair → Pair) (b : Fin 8) : (x.modPair p f).grp b = x.grp b := rfl
@[simp] theorem Dev.modPair_tt (p : Fin 4) (f : Pair → Pair) : (x.modPair p f).tt = x.tt := rfl
@[simp] theorem Dev.modPair_isSealed (p : Fin 4) (f : Pair → Pair) : (x.modPair p f).isSealed = x.isSealed := rfl
@[simp] theorem Dev.modPair_holding (p : Fin 4) (f : Pair → Pair) : (x.modPair p f).holding = x.holding := rfl

/-! ### modTime -/

@[simp] theorem Dev.modTime_sched (f : TimeUnit → TimeUnit) : (x.modTime f).sched = x.sched := rfl
@[simp] theorem Dev.modTime_gate (f : TimeUnit → TimeUnit) : (x.modTime f).gate = x.gate := rfl
@[simp] theorem Dev.modTime_doors (f : TimeUnit → TimeUnit) : (x.modTime f).doors = x.doors := rfl
@[simp] theorem Dev.modTime_axes (f : TimeUnit → TimeUnit) : (x.modTime f).axes = x.axes := rfl
@[simp] theorem Dev.modTime_fio (f : TimeUnit → TimeUnit) : (x.modTime f).fio = x.fio := rfl
@[simp] theorem Dev.modTime_host (f : TimeUnit → TimeUnit) : (x.modTime f).host = x.host := rfl
@[simp] theorem Dev.modTime_reqH (f : TimeUnit → TimeUnit) : (x.modTime f).reqH = x.reqH := rfl
@[simp] theorem Dev.modTime_reqM (f : TimeUnit → TimeUnit) : (x.modTime f).reqM = x.reqM := rfl
@[simp] theorem Dev.modTime_atolls (f : TimeUnit → TimeUnit) : (x.modTime f).atolls = x.atolls := rfl
@[simp] theorem Dev.modTime_caps (f : TimeUnit → TimeUnit) : (x.modTime f).caps = x.caps := rfl
@[simp] theorem Dev.modTime_chans (f : TimeUnit → TimeUnit) : (x.modTime f).chans = x.chans := rfl
@[simp] theorem Dev.modTime_parts (f : TimeUnit → TimeUnit) : (x.modTime f).parts = x.parts := rfl
@[simp] theorem Dev.modTime_twin (f : TimeUnit → TimeUnit) : (x.modTime f).twin = x.twin := rfl
@[simp] theorem Dev.modTime_cairn (f : TimeUnit → TimeUnit) : (x.modTime f).cairn = x.cairn := rfl
@[simp] theorem Dev.modTime_keeper (f : TimeUnit → TimeUnit) : (x.modTime f).keeper = x.keeper := rfl
@[simp] theorem Dev.modTime_img (f : TimeUnit → TimeUnit) : (x.modTime f).img = x.img := rfl
@[simp] theorem Dev.modTime_su (f : TimeUnit → TimeUnit) : (x.modTime f).su = x.su := rfl
@[simp] theorem Dev.modTime_evt (f : TimeUnit → TimeUnit) : (x.modTime f).evt = x.evt := rfl
@[simp] theorem Dev.modTime_eng (f : TimeUnit → TimeUnit) : (x.modTime f).eng = x.eng := rfl
@[simp] theorem Dev.modTime_free (f : TimeUnit → TimeUnit) : (x.modTime f).free = x.free := rfl
@[simp] theorem Dev.modTime_ax (f : TimeUnit → TimeUnit) (b : AxisId) : (x.modTime f).ax b = x.ax b := rfl
@[simp] theorem Dev.modTime_dw (f : TimeUnit → TimeUnit) (b : DoorId) : (x.modTime f).dw b = x.dw b := rfl
@[simp] theorem Dev.modTime_atl (f : TimeUnit → TimeUnit) (b : AtollId) : (x.modTime f).atl b = x.atl b := rfl
@[simp] theorem Dev.modTime_ch (f : TimeUnit → TimeUnit) (b : ChanId) : (x.modTime f).ch b = x.ch b := rfl
@[simp] theorem Dev.modTime_capu (f : TimeUnit → TimeUnit) (b : Fin 4) : (x.modTime f).capu b = x.capu b := rfl
@[simp] theorem Dev.modTime_ctx (f : TimeUnit → TimeUnit) (b : Fin 256) : (x.modTime f).ctx b = x.ctx b := rfl
@[simp] theorem Dev.modTime_inPin (f : TimeUnit → TimeUnit) (b : InId) : (x.modTime f).inPin b = x.inPin b := rfl
@[simp] theorem Dev.modTime_sin (f : TimeUnit → TimeUnit) (b : Fin 8) : (x.modTime f).sin b = x.sin b := rfl
@[simp] theorem Dev.modTime_outPin (f : TimeUnit → TimeUnit) (b : OutId) : (x.modTime f).outPin b = x.outPin b := rfl
@[simp] theorem Dev.modTime_sout (f : TimeUnit → TimeUnit) (b : Fin 4) : (x.modTime f).sout b = x.sout b := rfl
@[simp] theorem Dev.modTime_grp (f : TimeUnit → TimeUnit) (b : Fin 8) : (x.modTime f).grp b = x.grp b := rfl
@[simp] theorem Dev.modTime_isSealed (f : TimeUnit → TimeUnit) : (x.modTime f).isSealed = x.isSealed := rfl
@[simp] theorem Dev.modTime_holding (f : TimeUnit → TimeUnit) : (x.modTime f).holding = x.holding := rfl
@[simp] theorem Dev.modTime_time (f : TimeUnit → TimeUnit) : (x.modTime f).time = f x.time := rfl

/-! ### modParts -/

@[simp] theorem Dev.modParts_time (f : Partners → Partners) : (x.modParts f).time = x.time := rfl
@[simp] theorem Dev.modParts_sched (f : Partners → Partners) : (x.modParts f).sched = x.sched := rfl
@[simp] theorem Dev.modParts_gate (f : Partners → Partners) : (x.modParts f).gate = x.gate := rfl
@[simp] theorem Dev.modParts_doors (f : Partners → Partners) : (x.modParts f).doors = x.doors := rfl
@[simp] theorem Dev.modParts_axes (f : Partners → Partners) : (x.modParts f).axes = x.axes := rfl
@[simp] theorem Dev.modParts_fio (f : Partners → Partners) : (x.modParts f).fio = x.fio := rfl
@[simp] theorem Dev.modParts_host (f : Partners → Partners) : (x.modParts f).host = x.host := rfl
@[simp] theorem Dev.modParts_reqH (f : Partners → Partners) : (x.modParts f).reqH = x.reqH := rfl
@[simp] theorem Dev.modParts_reqM (f : Partners → Partners) : (x.modParts f).reqM = x.reqM := rfl
@[simp] theorem Dev.modParts_atolls (f : Partners → Partners) : (x.modParts f).atolls = x.atolls := rfl
@[simp] theorem Dev.modParts_caps (f : Partners → Partners) : (x.modParts f).caps = x.caps := rfl
@[simp] theorem Dev.modParts_chans (f : Partners → Partners) : (x.modParts f).chans = x.chans := rfl
@[simp] theorem Dev.modParts_twin (f : Partners → Partners) : (x.modParts f).twin = x.twin := rfl
@[simp] theorem Dev.modParts_cairn (f : Partners → Partners) : (x.modParts f).cairn = x.cairn := rfl
@[simp] theorem Dev.modParts_keeper (f : Partners → Partners) : (x.modParts f).keeper = x.keeper := rfl
@[simp] theorem Dev.modParts_img (f : Partners → Partners) : (x.modParts f).img = x.img := rfl
@[simp] theorem Dev.modParts_su (f : Partners → Partners) : (x.modParts f).su = x.su := rfl
@[simp] theorem Dev.modParts_evt (f : Partners → Partners) : (x.modParts f).evt = x.evt := rfl
@[simp] theorem Dev.modParts_eng (f : Partners → Partners) : (x.modParts f).eng = x.eng := rfl
@[simp] theorem Dev.modParts_free (f : Partners → Partners) : (x.modParts f).free = x.free := rfl
@[simp] theorem Dev.modParts_ax (f : Partners → Partners) (b : AxisId) : (x.modParts f).ax b = x.ax b := rfl
@[simp] theorem Dev.modParts_dw (f : Partners → Partners) (b : DoorId) : (x.modParts f).dw b = x.dw b := rfl
@[simp] theorem Dev.modParts_atl (f : Partners → Partners) (b : AtollId) : (x.modParts f).atl b = x.atl b := rfl
@[simp] theorem Dev.modParts_ch (f : Partners → Partners) (b : ChanId) : (x.modParts f).ch b = x.ch b := rfl
@[simp] theorem Dev.modParts_capu (f : Partners → Partners) (b : Fin 4) : (x.modParts f).capu b = x.capu b := rfl
@[simp] theorem Dev.modParts_inPin (f : Partners → Partners) (b : InId) : (x.modParts f).inPin b = x.inPin b := rfl
@[simp] theorem Dev.modParts_sin (f : Partners → Partners) (b : Fin 8) : (x.modParts f).sin b = x.sin b := rfl
@[simp] theorem Dev.modParts_outPin (f : Partners → Partners) (b : OutId) : (x.modParts f).outPin b = x.outPin b := rfl
@[simp] theorem Dev.modParts_sout (f : Partners → Partners) (b : Fin 4) : (x.modParts f).sout b = x.sout b := rfl
@[simp] theorem Dev.modParts_grp (f : Partners → Partners) (b : Fin 8) : (x.modParts f).grp b = x.grp b := rfl
@[simp] theorem Dev.modParts_tt (f : Partners → Partners) : (x.modParts f).tt = x.tt := rfl
@[simp] theorem Dev.modParts_isSealed (f : Partners → Partners) : (x.modParts f).isSealed = x.isSealed := rfl
@[simp] theorem Dev.modParts_holding (f : Partners → Partners) : (x.modParts f).holding = x.holding := rfl
@[simp] theorem Dev.modParts_parts (f : Partners → Partners) : (x.modParts f).parts = f x.parts := rfl

/-! ### modCairn -/

@[simp] theorem Dev.modCairn_time (f : Cairn → Cairn) : (x.modCairn f).time = x.time := rfl
@[simp] theorem Dev.modCairn_sched (f : Cairn → Cairn) : (x.modCairn f).sched = x.sched := rfl
@[simp] theorem Dev.modCairn_gate (f : Cairn → Cairn) : (x.modCairn f).gate = x.gate := rfl
@[simp] theorem Dev.modCairn_doors (f : Cairn → Cairn) : (x.modCairn f).doors = x.doors := rfl
@[simp] theorem Dev.modCairn_axes (f : Cairn → Cairn) : (x.modCairn f).axes = x.axes := rfl
@[simp] theorem Dev.modCairn_fio (f : Cairn → Cairn) : (x.modCairn f).fio = x.fio := rfl
@[simp] theorem Dev.modCairn_host (f : Cairn → Cairn) : (x.modCairn f).host = x.host := rfl
@[simp] theorem Dev.modCairn_reqH (f : Cairn → Cairn) : (x.modCairn f).reqH = x.reqH := rfl
@[simp] theorem Dev.modCairn_reqM (f : Cairn → Cairn) : (x.modCairn f).reqM = x.reqM := rfl
@[simp] theorem Dev.modCairn_atolls (f : Cairn → Cairn) : (x.modCairn f).atolls = x.atolls := rfl
@[simp] theorem Dev.modCairn_caps (f : Cairn → Cairn) : (x.modCairn f).caps = x.caps := rfl
@[simp] theorem Dev.modCairn_chans (f : Cairn → Cairn) : (x.modCairn f).chans = x.chans := rfl
@[simp] theorem Dev.modCairn_parts (f : Cairn → Cairn) : (x.modCairn f).parts = x.parts := rfl
@[simp] theorem Dev.modCairn_twin (f : Cairn → Cairn) : (x.modCairn f).twin = x.twin := rfl
@[simp] theorem Dev.modCairn_keeper (f : Cairn → Cairn) : (x.modCairn f).keeper = x.keeper := rfl
@[simp] theorem Dev.modCairn_img (f : Cairn → Cairn) : (x.modCairn f).img = x.img := rfl
@[simp] theorem Dev.modCairn_su (f : Cairn → Cairn) : (x.modCairn f).su = x.su := rfl
@[simp] theorem Dev.modCairn_evt (f : Cairn → Cairn) : (x.modCairn f).evt = x.evt := rfl
@[simp] theorem Dev.modCairn_eng (f : Cairn → Cairn) : (x.modCairn f).eng = x.eng := rfl
@[simp] theorem Dev.modCairn_free (f : Cairn → Cairn) : (x.modCairn f).free = x.free := rfl
@[simp] theorem Dev.modCairn_ax (f : Cairn → Cairn) (b : AxisId) : (x.modCairn f).ax b = x.ax b := rfl
@[simp] theorem Dev.modCairn_dw (f : Cairn → Cairn) (b : DoorId) : (x.modCairn f).dw b = x.dw b := rfl
@[simp] theorem Dev.modCairn_atl (f : Cairn → Cairn) (b : AtollId) : (x.modCairn f).atl b = x.atl b := rfl
@[simp] theorem Dev.modCairn_ch (f : Cairn → Cairn) (b : ChanId) : (x.modCairn f).ch b = x.ch b := rfl
@[simp] theorem Dev.modCairn_capu (f : Cairn → Cairn) (b : Fin 4) : (x.modCairn f).capu b = x.capu b := rfl
@[simp] theorem Dev.modCairn_ctx (f : Cairn → Cairn) (b : Fin 256) : (x.modCairn f).ctx b = x.ctx b := rfl
@[simp] theorem Dev.modCairn_inPin (f : Cairn → Cairn) (b : InId) : (x.modCairn f).inPin b = x.inPin b := rfl
@[simp] theorem Dev.modCairn_sin (f : Cairn → Cairn) (b : Fin 8) : (x.modCairn f).sin b = x.sin b := rfl
@[simp] theorem Dev.modCairn_outPin (f : Cairn → Cairn) (b : OutId) : (x.modCairn f).outPin b = x.outPin b := rfl
@[simp] theorem Dev.modCairn_sout (f : Cairn → Cairn) (b : Fin 4) : (x.modCairn f).sout b = x.sout b := rfl
@[simp] theorem Dev.modCairn_grp (f : Cairn → Cairn) (b : Fin 8) : (x.modCairn f).grp b = x.grp b := rfl
@[simp] theorem Dev.modCairn_tt (f : Cairn → Cairn) : (x.modCairn f).tt = x.tt := rfl
@[simp] theorem Dev.modCairn_isSealed (f : Cairn → Cairn) : (x.modCairn f).isSealed = x.isSealed := rfl
@[simp] theorem Dev.modCairn_holding (f : Cairn → Cairn) : (x.modCairn f).holding = x.holding := rfl
@[simp] theorem Dev.modCairn_cairn (f : Cairn → Cairn) : (x.modCairn f).cairn = f x.cairn := rfl

/-! ### modHost -/

@[simp] theorem Dev.modHost_time (f : HostSide → HostSide) : (x.modHost f).time = x.time := rfl
@[simp] theorem Dev.modHost_sched (f : HostSide → HostSide) : (x.modHost f).sched = x.sched := rfl
@[simp] theorem Dev.modHost_gate (f : HostSide → HostSide) : (x.modHost f).gate = x.gate := rfl
@[simp] theorem Dev.modHost_doors (f : HostSide → HostSide) : (x.modHost f).doors = x.doors := rfl
@[simp] theorem Dev.modHost_axes (f : HostSide → HostSide) : (x.modHost f).axes = x.axes := rfl
@[simp] theorem Dev.modHost_fio (f : HostSide → HostSide) : (x.modHost f).fio = x.fio := rfl
@[simp] theorem Dev.modHost_reqH (f : HostSide → HostSide) : (x.modHost f).reqH = x.reqH := rfl
@[simp] theorem Dev.modHost_reqM (f : HostSide → HostSide) : (x.modHost f).reqM = x.reqM := rfl
@[simp] theorem Dev.modHost_atolls (f : HostSide → HostSide) : (x.modHost f).atolls = x.atolls := rfl
@[simp] theorem Dev.modHost_caps (f : HostSide → HostSide) : (x.modHost f).caps = x.caps := rfl
@[simp] theorem Dev.modHost_chans (f : HostSide → HostSide) : (x.modHost f).chans = x.chans := rfl
@[simp] theorem Dev.modHost_parts (f : HostSide → HostSide) : (x.modHost f).parts = x.parts := rfl
@[simp] theorem Dev.modHost_twin (f : HostSide → HostSide) : (x.modHost f).twin = x.twin := rfl
@[simp] theorem Dev.modHost_cairn (f : HostSide → HostSide) : (x.modHost f).cairn = x.cairn := rfl
@[simp] theorem Dev.modHost_keeper (f : HostSide → HostSide) : (x.modHost f).keeper = x.keeper := rfl
@[simp] theorem Dev.modHost_img (f : HostSide → HostSide) : (x.modHost f).img = x.img := rfl
@[simp] theorem Dev.modHost_su (f : HostSide → HostSide) : (x.modHost f).su = x.su := rfl
@[simp] theorem Dev.modHost_evt (f : HostSide → HostSide) : (x.modHost f).evt = x.evt := rfl
@[simp] theorem Dev.modHost_eng (f : HostSide → HostSide) : (x.modHost f).eng = x.eng := rfl
@[simp] theorem Dev.modHost_free (f : HostSide → HostSide) : (x.modHost f).free = x.free := rfl
@[simp] theorem Dev.modHost_ax (f : HostSide → HostSide) (b : AxisId) : (x.modHost f).ax b = x.ax b := rfl
@[simp] theorem Dev.modHost_dw (f : HostSide → HostSide) (b : DoorId) : (x.modHost f).dw b = x.dw b := rfl
@[simp] theorem Dev.modHost_atl (f : HostSide → HostSide) (b : AtollId) : (x.modHost f).atl b = x.atl b := rfl
@[simp] theorem Dev.modHost_ch (f : HostSide → HostSide) (b : ChanId) : (x.modHost f).ch b = x.ch b := rfl
@[simp] theorem Dev.modHost_capu (f : HostSide → HostSide) (b : Fin 4) : (x.modHost f).capu b = x.capu b := rfl
@[simp] theorem Dev.modHost_ctx (f : HostSide → HostSide) (b : Fin 256) : (x.modHost f).ctx b = x.ctx b := rfl
@[simp] theorem Dev.modHost_inPin (f : HostSide → HostSide) (b : InId) : (x.modHost f).inPin b = x.inPin b := rfl
@[simp] theorem Dev.modHost_sin (f : HostSide → HostSide) (b : Fin 8) : (x.modHost f).sin b = x.sin b := rfl
@[simp] theorem Dev.modHost_outPin (f : HostSide → HostSide) (b : OutId) : (x.modHost f).outPin b = x.outPin b := rfl
@[simp] theorem Dev.modHost_sout (f : HostSide → HostSide) (b : Fin 4) : (x.modHost f).sout b = x.sout b := rfl
@[simp] theorem Dev.modHost_grp (f : HostSide → HostSide) (b : Fin 8) : (x.modHost f).grp b = x.grp b := rfl
@[simp] theorem Dev.modHost_tt (f : HostSide → HostSide) : (x.modHost f).tt = x.tt := rfl
@[simp] theorem Dev.modHost_isSealed (f : HostSide → HostSide) : (x.modHost f).isSealed = x.isSealed := rfl
@[simp] theorem Dev.modHost_holding (f : HostSide → HostSide) : (x.modHost f).holding = x.holding := rfl
@[simp] theorem Dev.modHost_host (f : HostSide → HostSide) : (x.modHost f).host = f x.host := rfl

/-! ### modSu -/

@[simp] theorem Dev.modSu_time (f : SealUnit → SealUnit) : (x.modSu f).time = x.time := rfl
@[simp] theorem Dev.modSu_sched (f : SealUnit → SealUnit) : (x.modSu f).sched = x.sched := rfl
@[simp] theorem Dev.modSu_gate (f : SealUnit → SealUnit) : (x.modSu f).gate = x.gate := rfl
@[simp] theorem Dev.modSu_doors (f : SealUnit → SealUnit) : (x.modSu f).doors = x.doors := rfl
@[simp] theorem Dev.modSu_axes (f : SealUnit → SealUnit) : (x.modSu f).axes = x.axes := rfl
@[simp] theorem Dev.modSu_fio (f : SealUnit → SealUnit) : (x.modSu f).fio = x.fio := rfl
@[simp] theorem Dev.modSu_host (f : SealUnit → SealUnit) : (x.modSu f).host = x.host := rfl
@[simp] theorem Dev.modSu_reqH (f : SealUnit → SealUnit) : (x.modSu f).reqH = x.reqH := rfl
@[simp] theorem Dev.modSu_reqM (f : SealUnit → SealUnit) : (x.modSu f).reqM = x.reqM := rfl
@[simp] theorem Dev.modSu_atolls (f : SealUnit → SealUnit) : (x.modSu f).atolls = x.atolls := rfl
@[simp] theorem Dev.modSu_caps (f : SealUnit → SealUnit) : (x.modSu f).caps = x.caps := rfl
@[simp] theorem Dev.modSu_chans (f : SealUnit → SealUnit) : (x.modSu f).chans = x.chans := rfl
@[simp] theorem Dev.modSu_parts (f : SealUnit → SealUnit) : (x.modSu f).parts = x.parts := rfl
@[simp] theorem Dev.modSu_twin (f : SealUnit → SealUnit) : (x.modSu f).twin = x.twin := rfl
@[simp] theorem Dev.modSu_cairn (f : SealUnit → SealUnit) : (x.modSu f).cairn = x.cairn := rfl
@[simp] theorem Dev.modSu_keeper (f : SealUnit → SealUnit) : (x.modSu f).keeper = x.keeper := rfl
@[simp] theorem Dev.modSu_img (f : SealUnit → SealUnit) : (x.modSu f).img = x.img := rfl
@[simp] theorem Dev.modSu_evt (f : SealUnit → SealUnit) : (x.modSu f).evt = x.evt := rfl
@[simp] theorem Dev.modSu_eng (f : SealUnit → SealUnit) : (x.modSu f).eng = x.eng := rfl
@[simp] theorem Dev.modSu_free (f : SealUnit → SealUnit) : (x.modSu f).free = x.free := rfl
@[simp] theorem Dev.modSu_ax (f : SealUnit → SealUnit) (b : AxisId) : (x.modSu f).ax b = x.ax b := rfl
@[simp] theorem Dev.modSu_dw (f : SealUnit → SealUnit) (b : DoorId) : (x.modSu f).dw b = x.dw b := rfl
@[simp] theorem Dev.modSu_atl (f : SealUnit → SealUnit) (b : AtollId) : (x.modSu f).atl b = x.atl b := rfl
@[simp] theorem Dev.modSu_ch (f : SealUnit → SealUnit) (b : ChanId) : (x.modSu f).ch b = x.ch b := rfl
@[simp] theorem Dev.modSu_capu (f : SealUnit → SealUnit) (b : Fin 4) : (x.modSu f).capu b = x.capu b := rfl
@[simp] theorem Dev.modSu_ctx (f : SealUnit → SealUnit) (b : Fin 256) : (x.modSu f).ctx b = x.ctx b := rfl
@[simp] theorem Dev.modSu_inPin (f : SealUnit → SealUnit) (b : InId) : (x.modSu f).inPin b = x.inPin b := rfl
@[simp] theorem Dev.modSu_sin (f : SealUnit → SealUnit) (b : Fin 8) : (x.modSu f).sin b = x.sin b := rfl
@[simp] theorem Dev.modSu_outPin (f : SealUnit → SealUnit) (b : OutId) : (x.modSu f).outPin b = x.outPin b := rfl
@[simp] theorem Dev.modSu_sout (f : SealUnit → SealUnit) (b : Fin 4) : (x.modSu f).sout b = x.sout b := rfl
@[simp] theorem Dev.modSu_grp (f : SealUnit → SealUnit) (b : Fin 8) : (x.modSu f).grp b = x.grp b := rfl
@[simp] theorem Dev.modSu_tt (f : SealUnit → SealUnit) : (x.modSu f).tt = x.tt := rfl
@[simp] theorem Dev.modSu_holding (f : SealUnit → SealUnit) : (x.modSu f).holding = x.holding := rfl
@[simp] theorem Dev.modSu_su (f : SealUnit → SealUnit) : (x.modSu f).su = f x.su := rfl

/-! ### modTwin -/

@[simp] theorem Dev.modTwin_time (f : Twin → Twin) : (x.modTwin f).time = x.time := rfl
@[simp] theorem Dev.modTwin_sched (f : Twin → Twin) : (x.modTwin f).sched = x.sched := rfl
@[simp] theorem Dev.modTwin_gate (f : Twin → Twin) : (x.modTwin f).gate = x.gate := rfl
@[simp] theorem Dev.modTwin_doors (f : Twin → Twin) : (x.modTwin f).doors = x.doors := rfl
@[simp] theorem Dev.modTwin_axes (f : Twin → Twin) : (x.modTwin f).axes = x.axes := rfl
@[simp] theorem Dev.modTwin_fio (f : Twin → Twin) : (x.modTwin f).fio = x.fio := rfl
@[simp] theorem Dev.modTwin_host (f : Twin → Twin) : (x.modTwin f).host = x.host := rfl
@[simp] theorem Dev.modTwin_reqH (f : Twin → Twin) : (x.modTwin f).reqH = x.reqH := rfl
@[simp] theorem Dev.modTwin_reqM (f : Twin → Twin) : (x.modTwin f).reqM = x.reqM := rfl
@[simp] theorem Dev.modTwin_atolls (f : Twin → Twin) : (x.modTwin f).atolls = x.atolls := rfl
@[simp] theorem Dev.modTwin_caps (f : Twin → Twin) : (x.modTwin f).caps = x.caps := rfl
@[simp] theorem Dev.modTwin_chans (f : Twin → Twin) : (x.modTwin f).chans = x.chans := rfl
@[simp] theorem Dev.modTwin_parts (f : Twin → Twin) : (x.modTwin f).parts = x.parts := rfl
@[simp] theorem Dev.modTwin_cairn (f : Twin → Twin) : (x.modTwin f).cairn = x.cairn := rfl
@[simp] theorem Dev.modTwin_keeper (f : Twin → Twin) : (x.modTwin f).keeper = x.keeper := rfl
@[simp] theorem Dev.modTwin_img (f : Twin → Twin) : (x.modTwin f).img = x.img := rfl
@[simp] theorem Dev.modTwin_su (f : Twin → Twin) : (x.modTwin f).su = x.su := rfl
@[simp] theorem Dev.modTwin_evt (f : Twin → Twin) : (x.modTwin f).evt = x.evt := rfl
@[simp] theorem Dev.modTwin_eng (f : Twin → Twin) : (x.modTwin f).eng = x.eng := rfl
@[simp] theorem Dev.modTwin_free (f : Twin → Twin) : (x.modTwin f).free = x.free := rfl
@[simp] theorem Dev.modTwin_ax (f : Twin → Twin) (b : AxisId) : (x.modTwin f).ax b = x.ax b := rfl
@[simp] theorem Dev.modTwin_dw (f : Twin → Twin) (b : DoorId) : (x.modTwin f).dw b = x.dw b := rfl
@[simp] theorem Dev.modTwin_atl (f : Twin → Twin) (b : AtollId) : (x.modTwin f).atl b = x.atl b := rfl
@[simp] theorem Dev.modTwin_ch (f : Twin → Twin) (b : ChanId) : (x.modTwin f).ch b = x.ch b := rfl
@[simp] theorem Dev.modTwin_capu (f : Twin → Twin) (b : Fin 4) : (x.modTwin f).capu b = x.capu b := rfl
@[simp] theorem Dev.modTwin_ctx (f : Twin → Twin) (b : Fin 256) : (x.modTwin f).ctx b = x.ctx b := rfl
@[simp] theorem Dev.modTwin_inPin (f : Twin → Twin) (b : InId) : (x.modTwin f).inPin b = x.inPin b := rfl
@[simp] theorem Dev.modTwin_sin (f : Twin → Twin) (b : Fin 8) : (x.modTwin f).sin b = x.sin b := rfl
@[simp] theorem Dev.modTwin_outPin (f : Twin → Twin) (b : OutId) : (x.modTwin f).outPin b = x.outPin b := rfl
@[simp] theorem Dev.modTwin_sout (f : Twin → Twin) (b : Fin 4) : (x.modTwin f).sout b = x.sout b := rfl
@[simp] theorem Dev.modTwin_grp (f : Twin → Twin) (b : Fin 8) : (x.modTwin f).grp b = x.grp b := rfl
@[simp] theorem Dev.modTwin_tt (f : Twin → Twin) : (x.modTwin f).tt = x.tt := rfl
@[simp] theorem Dev.modTwin_isSealed (f : Twin → Twin) : (x.modTwin f).isSealed = x.isSealed := rfl
@[simp] theorem Dev.modTwin_twin (f : Twin → Twin) : (x.modTwin f).twin = f x.twin := rfl

end Sys2Proof.Machine
end

