-- ==== Sys2Proof/Laws/Ops.lean ====
section
/-! SUPPORT. What the shared operations can do: each operation with the parts of the block it may change, and the passes over
numbered objects. -/

namespace Sys2Proof.Machine

/-! ### Passes -/

/-- What every round of a pass keeps, the pass keeps. -/
theorem Dev.over_keeps {α γ : Type} (g : Dev → γ) (l : List α) (f : α → Dev → Dev) (h : ∀ i y, g (f i y) = g y) (x : Dev) :
    g (x.over l f) = g x := by
  unfold Dev.over
  induction l generalizing x with
  | nil => rfl
  | cons i r ih => rw [List.foldl_cons, ih, h]

/-- What every round of a pass over numbered objects keeps, the pass keeps. -/
theorem Dev.each_keeps {γ : Type} (g : Dev → γ) (n : Nat) (f : Fin n → Dev → Dev) (h : ∀ i y, g (f i y) = g y) (x : Dev) :
    g (x.each n f) = g x := Dev.over_keeps g (List.finRange n) f h x

/-- `y` is `x` but for what an event or a record touches: the event matrix, the scheduler, the link and the record queue. -/
def Dev.Noted (x y : Dev) : Prop := y = { x with evt := y.evt, sched := y.sched, host := y.host, cairn := y.cairn }
theorem Dev.Noted.refl (x : Dev) : Dev.Noted x x := rfl
theorem Dev.Noted.trans {x y z : Dev} (h : Dev.Noted x y) (g : Dev.Noted y z) : Dev.Noted x z := by
  unfold Dev.Noted at *; rw [g, h]
theorem Dev.Noted.time {x y : Dev} (h : Dev.Noted x y) : y.time = x.time := by rw [h]
theorem Dev.Noted.gate {x y : Dev} (h : Dev.Noted x y) : y.gate = x.gate := by rw [h]
theorem Dev.Noted.doors {x y : Dev} (h : Dev.Noted x y) : y.doors = x.doors := by rw [h]
theorem Dev.Noted.axes {x y : Dev} (h : Dev.Noted x y) : y.axes = x.axes := by rw [h]
theorem Dev.Noted.fio {x y : Dev} (h : Dev.Noted x y) : y.fio = x.fio := by rw [h]
theorem Dev.Noted.reqH {x y : Dev} (h : Dev.Noted x y) : y.reqH = x.reqH := by rw [h]
theorem Dev.Noted.reqM {x y : Dev} (h : Dev.Noted x y) : y.reqM = x.reqM := by rw [h]
theorem Dev.Noted.atolls {x y : Dev} (h : Dev.Noted x y) : y.atolls = x.atolls := by rw [h]
theorem Dev.Noted.caps {x y : Dev} (h : Dev.Noted x y) : y.caps = x.caps := by rw [h]
theorem Dev.Noted.chans {x y : Dev} (h : Dev.Noted x y) : y.chans = x.chans := by rw [h]
theorem Dev.Noted.parts {x y : Dev} (h : Dev.Noted x y) : y.parts = x.parts := by rw [h]
theorem Dev.Noted.twin {x y : Dev} (h : Dev.Noted x y) : y.twin = x.twin := by rw [h]
theorem Dev.Noted.keeper {x y : Dev} (h : Dev.Noted x y) : y.keeper = x.keeper := by rw [h]
theorem Dev.Noted.img {x y : Dev} (h : Dev.Noted x y) : y.img = x.img := by rw [h]
theorem Dev.Noted.su {x y : Dev} (h : Dev.Noted x y) : y.su = x.su := by rw [h]
theorem Dev.Noted.eng {x y : Dev} (h : Dev.Noted x y) : y.eng = x.eng := by rw [h]
theorem Dev.Noted.free {x y : Dev} (h : Dev.Noted x y) : y.free = x.free := by rw [h]

/-- `y` is `x` but for what the outcome of an action touches: the link side and the Atolls. -/
def Dev.Answered (x y : Dev) : Prop := y = { x with host := y.host, atolls := y.atolls }
theorem Dev.Answered.refl (x : Dev) : Dev.Answered x x := rfl
theorem Dev.Answered.trans {x y z : Dev} (h : Dev.Answered x y) (g : Dev.Answered y z) : Dev.Answered x z := by
  unfold Dev.Answered at *; rw [g, h]
theorem Dev.Answered.time {x y : Dev} (h : Dev.Answered x y) : y.time = x.time := by rw [h]
theorem Dev.Answered.sched {x y : Dev} (h : Dev.Answered x y) : y.sched = x.sched := by rw [h]
theorem Dev.Answered.gate {x y : Dev} (h : Dev.Answered x y) : y.gate = x.gate := by rw [h]
theorem Dev.Answered.doors {x y : Dev} (h : Dev.Answered x y) : y.doors = x.doors := by rw [h]
theorem Dev.Answered.axes {x y : Dev} (h : Dev.Answered x y) : y.axes = x.axes := by rw [h]
theorem Dev.Answered.fio {x y : Dev} (h : Dev.Answered x y) : y.fio = x.fio := by rw [h]
theorem Dev.Answered.reqH {x y : Dev} (h : Dev.Answered x y) : y.reqH = x.reqH := by rw [h]
theorem Dev.Answered.reqM {x y : Dev} (h : Dev.Answered x y) : y.reqM = x.reqM := by rw [h]
theorem Dev.Answered.caps {x y : Dev} (h : Dev.Answered x y) : y.caps = x.caps := by rw [h]
theorem Dev.Answered.chans {x y : Dev} (h : Dev.Answered x y) : y.chans = x.chans := by rw [h]
theorem Dev.Answered.parts {x y : Dev} (h : Dev.Answered x y) : y.parts = x.parts := by rw [h]
theorem Dev.Answered.twin {x y : Dev} (h : Dev.Answered x y) : y.twin = x.twin := by rw [h]
theorem Dev.Answered.cairn {x y : Dev} (h : Dev.Answered x y) : y.cairn = x.cairn := by rw [h]
theorem Dev.Answered.keeper {x y : Dev} (h : Dev.Answered x y) : y.keeper = x.keeper := by rw [h]
theorem Dev.Answered.img {x y : Dev} (h : Dev.Answered x y) : y.img = x.img := by rw [h]
theorem Dev.Answered.su {x y : Dev} (h : Dev.Answered x y) : y.su = x.su := by rw [h]
theorem Dev.Answered.evt {x y : Dev} (h : Dev.Answered x y) : y.evt = x.evt := by rw [h]
theorem Dev.Answered.eng {x y : Dev} (h : Dev.Answered x y) : y.eng = x.eng := by rw [h]
theorem Dev.Answered.free {x y : Dev} (h : Dev.Answered x y) : y.free = x.free := by rw [h]

/-- `y` is `x` but for what events, records and outcomes touch together. -/
def Dev.Told (x y : Dev) : Prop := y = { x with evt := y.evt, sched := y.sched, host := y.host, cairn := y.cairn, atolls := y.atolls }
theorem Dev.Told.refl (x : Dev) : Dev.Told x x := rfl
theorem Dev.Told.trans {x y z : Dev} (h : Dev.Told x y) (g : Dev.Told y z) : Dev.Told x z := by
  unfold Dev.Told at *; rw [g, h]
theorem Dev.Told.time {x y : Dev} (h : Dev.Told x y) : y.time = x.time := by rw [h]
theorem Dev.Told.gate {x y : Dev} (h : Dev.Told x y) : y.gate = x.gate := by rw [h]
theorem Dev.Told.doors {x y : Dev} (h : Dev.Told x y) : y.doors = x.doors := by rw [h]
theorem Dev.Told.axes {x y : Dev} (h : Dev.Told x y) : y.axes = x.axes := by rw [h]
theorem Dev.Told.fio {x y : Dev} (h : Dev.Told x y) : y.fio = x.fio := by rw [h]
theorem Dev.Told.reqH {x y : Dev} (h : Dev.Told x y) : y.reqH = x.reqH := by rw [h]
theorem Dev.Told.reqM {x y : Dev} (h : Dev.Told x y) : y.reqM = x.reqM := by rw [h]
theorem Dev.Told.caps {x y : Dev} (h : Dev.Told x y) : y.caps = x.caps := by rw [h]
theorem Dev.Told.chans {x y : Dev} (h : Dev.Told x y) : y.chans = x.chans := by rw [h]
theorem Dev.Told.parts {x y : Dev} (h : Dev.Told x y) : y.parts = x.parts := by rw [h]
theorem Dev.Told.twin {x y : Dev} (h : Dev.Told x y) : y.twin = x.twin := by rw [h]
theorem Dev.Told.keeper {x y : Dev} (h : Dev.Told x y) : y.keeper = x.keeper := by rw [h]
theorem Dev.Told.img {x y : Dev} (h : Dev.Told x y) : y.img = x.img := by rw [h]
theorem Dev.Told.su {x y : Dev} (h : Dev.Told x y) : y.su = x.su := by rw [h]
theorem Dev.Told.eng {x y : Dev} (h : Dev.Told x y) : y.eng = x.eng := by rw [h]
theorem Dev.Told.free {x y : Dev} (h : Dev.Told x y) : y.free = x.free := by rw [h]

theorem Dev.Noted.told {x y : Dev} (h : Dev.Noted x y) : Dev.Told x y := by
  unfold Dev.Noted at h; unfold Dev.Told; rw [h]
theorem Dev.Answered.told {x y : Dev} (h : Dev.Answered x y) : Dev.Told x y := by
  unfold Dev.Answered at h; unfold Dev.Told; rw [h]

/-! ### Records, interrupts, events -/

theorem Dev.record_noted (ty src : Nat) (p : List Byte) (h : Option Hdr) (x : Dev) : Dev.Noted x (x.record ty src p h) := rfl
theorem Dev.msix_noted (v : Fin 64) (x : Dev) : Dev.Noted x (x.msix v) := by
  unfold Dev.msix; dsimp only; split <;> rfl
theorem Dev.post_answered (a : Nat) (l : List Byte) (x : Dev) : Dev.Answered x (x.post a l) := by
  unfold Dev.post; split
  · rfl
  · split <;> rfl
theorem Dev.signal_noted (e : Nat) (v : Fin 64) (x : Dev) : Dev.Noted x (x.signal e v) := by
  unfold Dev.signal; split
  · exact Dev.msix_noted v x
  · rfl
theorem Dev.fold_noted {α : Type} (f : Dev → α → Dev) (h : ∀ y a, Dev.Noted y (f y a)) (l : List α) (x : Dev) :
    Dev.Noted x (l.foldl f x) := by
  induction l generalizing x with
  | nil => rfl
  | cons a l ih => exact (h x a).trans (ih (f x a))
theorem Dev.fireOne_noted (K : Memory) (k : Fin 8) (e : Nat) (x : Dev) : Dev.Noted x (x.fireOne K k e) := rfl
theorem Dev.unfire_noted (f : Firing) (x : Dev) : Dev.Noted x (x.unfire f) := rfl
theorem Dev.fireTrig_noted (K : Memory) (k : Fin 8) (e : Nat) (x : Dev) : Dev.Noted x (x.fireTrig K k e) := by
  unfold Dev.fireTrig; dsimp only; split
  · rfl
  · refine Dev.Noted.trans ?_ (Dev.fold_noted _ (fun y (f : Firing) => Dev.fireOne_noted K f.trig f.src y) _ _)
    refine Dev.Noted.trans ?_ (Dev.fireOne_noted K k e _)
    refine Dev.Noted.trans ?_ (Dev.fold_noted _ (fun y (f : Firing) => Dev.unfire_noted f y) _ _)
    rfl
/-- With no message of a higher-numbered source raised in the same cycle, a message comes behind all others (R450). -/
theorem Dev.signalAt_last (e : Nat) (x : Dev) (h : ∀ r ∈ x.evt.signals, r.cyc = x.time.cyc → r.src ≤ e) :
    x.signalAt e = x.host.link.length := by
  unfold Dev.signalAt
  generalize x.host.link.length = n
  revert h
  induction x.evt.signals with
  | nil => intro _; rfl
  | cons r l ih =>
    intro h
    rw [List.foldl_cons, if_neg, ih (fun q hq => h q (List.mem_cons_of_mem _ hq))]
    intro hr
    exact absurd (h r List.mem_cons_self hr.1) (by omega)
/-- An event touches the event matrix, held actions, the link and the record queue, and nothing else. -/
theorem Dev.event_noted (K : Memory) (e o c d : Nat) (x : Dev) : Dev.Noted x (x.event K e o c d) := by
  unfold Dev.event
  split
  · dsimp only
    have trig : ∀ y, Dev.Noted x y → Dev.Noted x (match K.evtTrig e with | none => y | some k => y.fireTrig K k e) := by
      intro y h; split
      · exact h
      · exact h.trans (Dev.fireTrig_noted _ _ _ _)
    apply trig
    have put : ∀ y, Dev.Noted x y → Dev.Noted x (if K.evtCairn e && !decide (0xF0 ≤ e ∧ e ≤ 0xF5) then
        y.record 0x0021 (objEvt e) (leBytes 1 c ++ [0] ++ leBytes 6 d) none else y) := by
      intro y h; split
      · exact h.trans (Dev.record_noted _ _ _ _ _)
      · exact h
    apply put
    split
    · rfl
    · split
      · rfl
      · refine Dev.Noted.trans ?_ (Dev.signal_noted _ _ _); rfl
  · rfl
theorem Dev.summitRecord_noted (K : Memory) (c : Nat) (x : Dev) : Dev.Noted x (x.summitRecord K c) :=
  (Dev.record_noted _ _ _ _ _).trans (Dev.event_noted _ _ _ _ _ _)

/-! ### Outcomes and Atolls -/

theorem Dev.modAtl_answered (n : AtollId) (f : Atoll → Atoll) (x : Dev) : Dev.Answered x (x.modAtl n f) := rfl
theorem Dev.changedAtl_answered (K : Memory) (n : AtollId) (x : Dev) : Dev.Answered x (x.changedAtl K n) := by
  unfold Dev.changedAtl; split <;> rfl
theorem Dev.setAtl_answered (K : Memory) (n : AtollId) (st : AtState) (r : AtReason) (x : Dev) :
    Dev.Answered x (x.setAtl K n st r) := by
  unfold Dev.setAtl; split
  · rfl
  · exact (Dev.modAtl_answered _ _ _).trans (Dev.changedAtl_answered _ _ _)
theorem Dev.outcome_answered (c : Compl) (x : Dev) : Dev.Answered x (x.outcome c) := by
  unfold Dev.outcome; split <;> rfl
/-- An outcome touches the link side and the Atolls, and nothing else. -/
theorem Dev.completeTt_answered (h : Hdr) (c : Nat) (b : Bool) (t : Nat) (x : Dev) :
    Dev.Answered x (x.completeTt h c b t) := by
  unfold Dev.completeTt; split
  · exact (Dev.modAtl_answered _ _ _).trans (Dev.outcome_answered _ _)
  · rfl
theorem Dev.complete_answered (h : Hdr) (c : Nat) (x : Dev) : Dev.Answered x (x.complete h c) :=
  Dev.completeTt_answered _ _ _ _ _
theorem Dev.completeOpt_answered (h : Option Hdr) (c : Nat) (x : Dev) : Dev.Answered x (x.completeOpt h c) := by
  unfold Dev.completeOpt; split
  · exact Dev.complete_answered _ _ _
  · rfl

/-! ### The same, part by part -/

variable (x : Dev)

@[simp] theorem Dev.record_time (ty src : Nat) (p : List Byte) (h : Option Hdr) : (x.record ty src p h).time = x.time := (Dev.record_noted ty src p h x).time
@[simp] theorem Dev.record_gate (ty src : Nat) (p : List Byte) (h : Option Hdr) : (x.record ty src p h).gate = x.gate := (Dev.record_noted ty src p h x).gate
@[simp] theorem Dev.record_doors (ty src : Nat) (p : List Byte) (h : Option Hdr) : (x.record ty src p h).doors = x.doors := (Dev.record_noted ty src p h x).doors
@[simp] theorem Dev.record_axes (ty src : Nat) (p : List Byte) (h : Option Hdr) : (x.record ty src p h).axes = x.axes := (Dev.record_noted ty src p h x).axes
@[simp] theorem Dev.record_fio (ty src : Nat) (p : List Byte) (h : Option Hdr) : (x.record ty src p h).fio = x.fio := (Dev.record_noted ty src p h x).fio
@[simp] theorem Dev.record_reqH (ty src : Nat) (p : List Byte) (h : Option Hdr) : (x.record ty src p h).reqH = x.reqH := (Dev.record_noted ty src p h x).reqH
@[simp] theorem Dev.record_reqM (ty src : Nat) (p : List Byte) (h : Option Hdr) : (x.record ty src p h).reqM = x.reqM := (Dev.record_noted ty src p h x).reqM
@[simp] theorem Dev.record_atolls (ty src : Nat) (p : List Byte) (h : Option Hdr) : (x.record ty src p h).atolls = x.atolls := (Dev.record_noted ty src p h x).atolls
@[simp] theorem Dev.record_caps (ty src : Nat) (p : List Byte) (h : Option Hdr) : (x.record ty src p h).caps = x.caps := (Dev.record_noted ty src p h x).caps
@[simp] theorem Dev.record_chans (ty src : Nat) (p : List Byte) (h : Option Hdr) : (x.record ty src p h).chans = x.chans := (Dev.record_noted ty src p h x).chans
@[simp] theorem Dev.record_parts (ty src : Nat) (p : List Byte) (h : Option Hdr) : (x.record ty src p h).parts = x.parts := (Dev.record_noted ty src p h x).parts
@[simp] theorem Dev.record_twin (ty src : Nat) (p : List Byte) (h : Option Hdr) : (x.record ty src p h).twin = x.twin := (Dev.record_noted ty src p h x).twin
@[simp] theorem Dev.record_keeper (ty src : Nat) (p : List Byte) (h : Option Hdr) : (x.record ty src p h).keeper = x.keeper := (Dev.record_noted ty src p h x).keeper
@[simp] theorem Dev.record_img (ty src : Nat) (p : List Byte) (h : Option Hdr) : (x.record ty src p h).img = x.img := (Dev.record_noted ty src p h x).img
@[simp] theorem Dev.record_su (ty src : Nat) (p : List Byte) (h : Option Hdr) : (x.record ty src p h).su = x.su := (Dev.record_noted ty src p h x).su
@[simp] theorem Dev.record_eng (ty src : Nat) (p : List Byte) (h : Option Hdr) : (x.record ty src p h).eng = x.eng := (Dev.record_noted ty src p h x).eng
@[simp] theorem Dev.record_free (ty src : Nat) (p : List Byte) (h : Option Hdr) : (x.record ty src p h).free = x.free := (Dev.record_noted ty src p h x).free
@[simp] theorem Dev.record_ax (ty src : Nat) (p : List Byte) (h : Option Hdr) (b : AxisId) : (x.record ty src p h).ax b = x.ax b := by
  unfold Dev.ax; rw [Dev.record_axes]
@[simp] theorem Dev.record_dw (ty src : Nat) (p : List Byte) (h : Option Hdr) (b : DoorId) : (x.record ty src p h).dw b = x.dw b := by
  unfold Dev.dw; rw [Dev.record_doors]
@[simp] theorem Dev.record_atl (ty src : Nat) (p : List Byte) (h : Option Hdr) (b : AtollId) : (x.record ty src p h).atl b = x.atl b := by
  unfold Dev.atl; rw [Dev.record_atolls]
@[simp] theorem Dev.record_ch (ty src : Nat) (p : List Byte) (h : Option Hdr) (b : ChanId) : (x.record ty src p h).ch b = x.ch b := by
  unfold Dev.ch; rw [Dev.record_chans]
@[simp] theorem Dev.record_capu (ty src : Nat) (p : List Byte) (h : Option Hdr) (b : Fin 4) : (x.record ty src p h).capu b = x.capu b := by
  unfold Dev.capu; rw [Dev.record_caps]
@[simp] theorem Dev.record_ctx (ty src : Nat) (p : List Byte) (h : Option Hdr) (b : Fin 256) : (x.record ty src p h).ctx b = x.ctx b := by
  unfold Dev.ctx; rw [Dev.record_parts]
@[simp] theorem Dev.record_inPin (ty src : Nat) (p : List Byte) (h : Option Hdr) (b : InId) : (x.record ty src p h).inPin b = x.inPin b := by
  unfold Dev.inPin; rw [Dev.record_fio]
@[simp] theorem Dev.record_sin (ty src : Nat) (p : List Byte) (h : Option Hdr) (b : Fin 8) : (x.record ty src p h).sin b = x.sin b := by
  unfold Dev.sin; rw [Dev.record_fio]
@[simp] theorem Dev.record_outPin (ty src : Nat) (p : List Byte) (h : Option Hdr) (b : OutId) : (x.record ty src p h).outPin b = x.outPin b := by
  unfold Dev.outPin; rw [Dev.record_fio]
@[simp] theorem Dev.record_sout (ty src : Nat) (p : List Byte) (h : Option Hdr) (b : Fin 4) : (x.record ty src p h).sout b = x.sout b := by
  unfold Dev.sout; rw [Dev.record_fio]
@[simp] theorem Dev.record_grp (ty src : Nat) (p : List Byte) (h : Option Hdr) (b : Fin 8) : (x.record ty src p h).grp b = x.grp b := by
  unfold Dev.grp; rw [Dev.record_fio]
@[simp] theorem Dev.record_tt (ty src : Nat) (p : List Byte) (h : Option Hdr) : (x.record ty src p h).tt = x.tt := by
  unfold Dev.tt; rw [Dev.record_time]
@[simp] theorem Dev.record_isSealed (ty src : Nat) (p : List Byte) (h : Option Hdr) : (x.record ty src p h).isSealed = x.isSealed := by
  unfold Dev.isSealed; rw [Dev.record_su]
@[simp] theorem Dev.record_holding (ty src : Nat) (p : List Byte) (h : Option Hdr) : (x.record ty src p h).holding = x.holding := by
  unfold Dev.holding; rw [Dev.record_twin]

@[simp] theorem Dev.event_time (K : Memory) (e o c d : Nat) : (x.event K e o c d).time = x.time := (Dev.event_noted K e o c d x).time
@[simp] theorem Dev.event_gate (K : Memory) (e o c d : Nat) : (x.event K e o c d).gate = x.gate := (Dev.event_noted K e o c d x).gate
@[simp] theorem Dev.event_doors (K : Memory) (e o c d : Nat) : (x.event K e o c d).doors = x.doors := (Dev.event_noted K e o c d x).doors
@[simp] theorem Dev.event_axes (K : Memory) (e o c d : Nat) : (x.event K e o c d).axes = x.axes := (Dev.event_noted K e o c d x).axes
@[simp] theorem Dev.event_fio (K : Memory) (e o c d : Nat) : (x.event K e o c d).fio = x.fio := (Dev.event_noted K e o c d x).fio
@[simp] theorem Dev.event_reqH (K : Memory) (e o c d : Nat) : (x.event K e o c d).reqH = x.reqH := (Dev.event_noted K e o c d x).reqH
@[simp] theorem Dev.event_reqM (K : Memory) (e o c d : Nat) : (x.event K e o c d).reqM = x.reqM := (Dev.event_noted K e o c d x).reqM
@[simp] theorem Dev.event_atolls (K : Memory) (e o c d : Nat) : (x.event K e o c d).atolls = x.atolls := (Dev.event_noted K e o c d x).atolls
@[simp] theorem Dev.event_caps (K : Memory) (e o c d : Nat) : (x.event K e o c d).caps = x.caps := (Dev.event_noted K e o c d x).caps
@[simp] theorem Dev.event_chans (K : Memory) (e o c d : Nat) : (x.event K e o c d).chans = x.chans := (Dev.event_noted K e o c d x).chans
@[simp] theorem Dev.event_parts (K : Memory) (e o c d : Nat) : (x.event K e o c d).parts = x.parts := (Dev.event_noted K e o c d x).parts
@[simp] theorem Dev.event_twin (K : Memory) (e o c d : Nat) : (x.event K e o c d).twin = x.twin := (Dev.event_noted K e o c d x).twin
@[simp] theorem Dev.event_keeper (K : Memory) (e o c d : Nat) : (x.event K e o c d).keeper = x.keeper := (Dev.event_noted K e o c d x).keeper
@[simp] theorem Dev.event_img (K : Memory) (e o c d : Nat) : (x.event K e o c d).img = x.img := (Dev.event_noted K e o c d x).img
@[simp] theorem Dev.event_su (K : Memory) (e o c d : Nat) : (x.event K e o c d).su = x.su := (Dev.event_noted K e o c d x).su
@[simp] theorem Dev.event_eng (K : Memory) (e o c d : Nat) : (x.event K e o c d).eng = x.eng := (Dev.event_noted K e o c d x).eng
@[simp] theorem Dev.event_free (K : Memory) (e o c d : Nat) : (x.event K e o c d).free = x.free := (Dev.event_noted K e o c d x).free
@[simp] theorem Dev.event_ax (K : Memory) (e o c d : Nat) (b : AxisId) : (x.event K e o c d).ax b = x.ax b := by
  unfold Dev.ax; rw [Dev.event_axes]
@[simp] theorem Dev.event_dw (K : Memory) (e o c d : Nat) (b : DoorId) : (x.event K e o c d).dw b = x.dw b := by
  unfold Dev.dw; rw [Dev.event_doors]
@[simp] theorem Dev.event_atl (K : Memory) (e o c d : Nat) (b : AtollId) : (x.event K e o c d).atl b = x.atl b := by
  unfold Dev.atl; rw [Dev.event_atolls]
@[simp] theorem Dev.event_ch (K : Memory) (e o c d : Nat) (b : ChanId) : (x.event K e o c d).ch b = x.ch b := by
  unfold Dev.ch; rw [Dev.event_chans]
@[simp] theorem Dev.event_capu (K : Memory) (e o c d : Nat) (b : Fin 4) : (x.event K e o c d).capu b = x.capu b := by
  unfold Dev.capu; rw [Dev.event_caps]
@[simp] theorem Dev.event_ctx (K : Memory) (e o c d : Nat) (b : Fin 256) : (x.event K e o c d).ctx b = x.ctx b := by
  unfold Dev.ctx; rw [Dev.event_parts]
@[simp] theorem Dev.event_inPin (K : Memory) (e o c d : Nat) (b : InId) : (x.event K e o c d).inPin b = x.inPin b := by
  unfold Dev.inPin; rw [Dev.event_fio]
@[simp] theorem Dev.event_sin (K : Memory) (e o c d : Nat) (b : Fin 8) : (x.event K e o c d).sin b = x.sin b := by
  unfold Dev.sin; rw [Dev.event_fio]
@[simp] theorem Dev.event_outPin (K : Memory) (e o c d : Nat) (b : OutId) : (x.event K e o c d).outPin b = x.outPin b := by
  unfold Dev.outPin; rw [Dev.event_fio]
@[simp] theorem Dev.event_sout (K : Memory) (e o c d : Nat) (b : Fin 4) : (x.event K e o c d).sout b = x.sout b := by
  unfold Dev.sout; rw [Dev.event_fio]
@[simp] theorem Dev.event_grp (K : Memory) (e o c d : Nat) (b : Fin 8) : (x.event K e o c d).grp b = x.grp b := by
  unfold Dev.grp; rw [Dev.event_fio]
@[simp] theorem Dev.event_tt (K : Memory) (e o c d : Nat) : (x.event K e o c d).tt = x.tt := by
  unfold Dev.tt; rw [Dev.event_time]
@[simp] theorem Dev.event_isSealed (K : Memory) (e o c d : Nat) : (x.event K e o c d).isSealed = x.isSealed := by
  unfold Dev.isSealed; rw [Dev.event_su]
@[simp] theorem Dev.event_holding (K : Memory) (e o c d : Nat) : (x.event K e o c d).holding = x.holding := by
  unfold Dev.holding; rw [Dev.event_twin]

@[simp] theorem Dev.summitRecord_time (K : Memory) (c : Nat) : (x.summitRecord K c).time = x.time := (Dev.summitRecord_noted K c x).time
@[simp] theorem Dev.summitRecord_gate (K : Memory) (c : Nat) : (x.summitRecord K c).gate = x.gate := (Dev.summitRecord_noted K c x).gate
@[simp] theorem Dev.summitRecord_doors (K : Memory) (c : Nat) : (x.summitRecord K c).doors = x.doors := (Dev.summitRecord_noted K c x).doors
@[simp] theorem Dev.summitRecord_axes (K : Memory) (c : Nat) : (x.summitRecord K c).axes = x.axes := (Dev.summitRecord_noted K c x).axes
@[simp] theorem Dev.summitRecord_fio (K : Memory) (c : Nat) : (x.summitRecord K c).fio = x.fio := (Dev.summitRecord_noted K c x).fio
@[simp] theorem Dev.summitRecord_reqH (K : Memory) (c : Nat) : (x.summitRecord K c).reqH = x.reqH := (Dev.summitRecord_noted K c x).reqH
@[simp] theorem Dev.summitRecord_reqM (K : Memory) (c : Nat) : (x.summitRecord K c).reqM = x.reqM := (Dev.summitRecord_noted K c x).reqM
@[simp] theorem Dev.summitRecord_atolls (K : Memory) (c : Nat) : (x.summitRecord K c).atolls = x.atolls := (Dev.summitRecord_noted K c x).atolls
@[simp] theorem Dev.summitRecord_caps (K : Memory) (c : Nat) : (x.summitRecord K c).caps = x.caps := (Dev.summitRecord_noted K c x).caps
@[simp] theorem Dev.summitRecord_chans (K : Memory) (c : Nat) : (x.summitRecord K c).chans = x.chans := (Dev.summitRecord_noted K c x).chans
@[simp] theorem Dev.summitRecord_parts (K : Memory) (c : Nat) : (x.summitRecord K c).parts = x.parts := (Dev.summitRecord_noted K c x).parts
@[simp] theorem Dev.summitRecord_twin (K : Memory) (c : Nat) : (x.summitRecord K c).twin = x.twin := (Dev.summitRecord_noted K c x).twin
@[simp] theorem Dev.summitRecord_keeper (K : Memory) (c : Nat) : (x.summitRecord K c).keeper = x.keeper := (Dev.summitRecord_noted K c x).keeper
@[simp] theorem Dev.summitRecord_img (K : Memory) (c : Nat) : (x.summitRecord K c).img = x.img := (Dev.summitRecord_noted K c x).img
@[simp] theorem Dev.summitRecord_su (K : Memory) (c : Nat) : (x.summitRecord K c).su = x.su := (Dev.summitRecord_noted K c x).su
@[simp] theorem Dev.summitRecord_eng (K : Memory) (c : Nat) : (x.summitRecord K c).eng = x.eng := (Dev.summitRecord_noted K c x).eng
@[simp] theorem Dev.summitRecord_free (K : Memory) (c : Nat) : (x.summitRecord K c).free = x.free := (Dev.summitRecord_noted K c x).free
@[simp] theorem Dev.summitRecord_ax (K : Memory) (c : Nat) (b : AxisId) : (x.summitRecord K c).ax b = x.ax b := by
  unfold Dev.ax; rw [Dev.summitRecord_axes]
@[simp] theorem Dev.summitRecord_dw (K : Memory) (c : Nat) (b : DoorId) : (x.summitRecord K c).dw b = x.dw b := by
  unfold Dev.dw; rw [Dev.summitRecord_doors]
@[simp] theorem Dev.summitRecord_atl (K : Memory) (c : Nat) (b : AtollId) : (x.summitRecord K c).atl b = x.atl b := by
  unfold Dev.atl; rw [Dev.summitRecord_atolls]
@[simp] theorem Dev.summitRecord_ch (K : Memory) (c : Nat) (b : ChanId) : (x.summitRecord K c).ch b = x.ch b := by
  unfold Dev.ch; rw [Dev.summitRecord_chans]
@[simp] theorem Dev.summitRecord_capu (K : Memory) (c : Nat) (b : Fin 4) : (x.summitRecord K c).capu b = x.capu b := by
  unfold Dev.capu; rw [Dev.summitRecord_caps]
@[simp] theorem Dev.summitRecord_ctx (K : Memory) (c : Nat) (b : Fin 256) : (x.summitRecord K c).ctx b = x.ctx b := by
  unfold Dev.ctx; rw [Dev.summitRecord_parts]
@[simp] theorem Dev.summitRecord_inPin (K : Memory) (c : Nat) (b : InId) : (x.summitRecord K c).inPin b = x.inPin b := by
  unfold Dev.inPin; rw [Dev.summitRecord_fio]
@[simp] theorem Dev.summitRecord_sin (K : Memory) (c : Nat) (b : Fin 8) : (x.summitRecord K c).sin b = x.sin b := by
  unfold Dev.sin; rw [Dev.summitRecord_fio]
@[simp] theorem Dev.summitRecord_outPin (K : Memory) (c : Nat) (b : OutId) : (x.summitRecord K c).outPin b = x.outPin b := by
  unfold Dev.outPin; rw [Dev.summitRecord_fio]
@[simp] theorem Dev.summitRecord_sout (K : Memory) (c : Nat) (b : Fin 4) : (x.summitRecord K c).sout b = x.sout b := by
  unfold Dev.sout; rw [Dev.summitRecord_fio]
@[simp] theorem Dev.summitRecord_grp (K : Memory) (c : Nat) (b : Fin 8) : (x.summitRecord K c).grp b = x.grp b := by
  unfold Dev.grp; rw [Dev.summitRecord_fio]
@[simp] theorem Dev.summitRecord_tt (K : Memory) (c : Nat) : (x.summitRecord K c).tt = x.tt := by
  unfold Dev.tt; rw [Dev.summitRecord_time]
@[simp] theorem Dev.summitRecord_isSealed (K : Memory) (c : Nat) : (x.summitRecord K c).isSealed = x.isSealed := by
  unfold Dev.isSealed; rw [Dev.summitRecord_su]
@[simp] theorem Dev.summitRecord_holding (K : Memory) (c : Nat) : (x.summitRecord K c).holding = x.holding := by
  unfold Dev.holding; rw [Dev.summitRecord_twin]

@[simp] theorem Dev.completeTt_time (h : Hdr) (c : Nat) (b : Bool) (t : Nat) : (x.completeTt h c b t).time = x.time := (Dev.completeTt_answered h c b t x).time
@[simp] theorem Dev.completeTt_sched (h : Hdr) (c : Nat) (b : Bool) (t : Nat) : (x.completeTt h c b t).sched = x.sched := (Dev.completeTt_answered h c b t x).sched
@[simp] theorem Dev.completeTt_gate (h : Hdr) (c : Nat) (b : Bool) (t : Nat) : (x.completeTt h c b t).gate = x.gate := (Dev.completeTt_answered h c b t x).gate
@[simp] theorem Dev.completeTt_doors (h : Hdr) (c : Nat) (b : Bool) (t : Nat) : (x.completeTt h c b t).doors = x.doors := (Dev.completeTt_answered h c b t x).doors
@[simp] theorem Dev.completeTt_axes (h : Hdr) (c : Nat) (b : Bool) (t : Nat) : (x.completeTt h c b t).axes = x.axes := (Dev.completeTt_answered h c b t x).axes
@[simp] theorem Dev.completeTt_fio (h : Hdr) (c : Nat) (b : Bool) (t : Nat) : (x.completeTt h c b t).fio = x.fio := (Dev.completeTt_answered h c b t x).fio
@[simp] theorem Dev.completeTt_reqH (h : Hdr) (c : Nat) (b : Bool) (t : Nat) : (x.completeTt h c b t).reqH = x.reqH := (Dev.completeTt_answered h c b t x).reqH
@[simp] theorem Dev.completeTt_reqM (h : Hdr) (c : Nat) (b : Bool) (t : Nat) : (x.completeTt h c b t).reqM = x.reqM := (Dev.completeTt_answered h c b t x).reqM
@[simp] theorem Dev.completeTt_caps (h : Hdr) (c : Nat) (b : Bool) (t : Nat) : (x.completeTt h c b t).caps = x.caps := (Dev.completeTt_answered h c b t x).caps
@[simp] theorem Dev.completeTt_chans (h : Hdr) (c : Nat) (b : Bool) (t : Nat) : (x.completeTt h c b t).chans = x.chans := (Dev.completeTt_answered h c b t x).chans
@[simp] theorem Dev.completeTt_parts (h : Hdr) (c : Nat) (b : Bool) (t : Nat) : (x.completeTt h c b t).parts = x.parts := (Dev.completeTt_answered h c b t x).parts
@[simp] theorem Dev.completeTt_twin (h : Hdr) (c : Nat) (b : Bool) (t : Nat) : (x.completeTt h c b t).twin = x.twin := (Dev.completeTt_answered h c b t x).twin
@[simp] theorem Dev.completeTt_cairn (h : Hdr) (c : Nat) (b : Bool) (t : Nat) : (x.completeTt h c b t).cairn = x.cairn := (Dev.completeTt_answered h c b t x).cairn
@[simp] theorem Dev.completeTt_keeper (h : Hdr) (c : Nat) (b : Bool) (t : Nat) : (x.completeTt h c b t).keeper = x.keeper := (Dev.completeTt_answered h c b t x).keeper
@[simp] theorem Dev.completeTt_img (h : Hdr) (c : Nat) (b : Bool) (t : Nat) : (x.completeTt h c b t).img = x.img := (Dev.completeTt_answered h c b t x).img
@[simp] theorem Dev.completeTt_su (h : Hdr) (c : Nat) (b : Bool) (t : Nat) : (x.completeTt h c b t).su = x.su := (Dev.completeTt_answered h c b t x).su
@[simp] theorem Dev.completeTt_evt (h : Hdr) (c : Nat) (b : Bool) (t : Nat) : (x.completeTt h c b t).evt = x.evt := (Dev.completeTt_answered h c b t x).evt
@[simp] theorem Dev.completeTt_eng (h : Hdr) (c : Nat) (b : Bool) (t : Nat) : (x.completeTt h c b t).eng = x.eng := (Dev.completeTt_answered h c b t x).eng
@[simp] theorem Dev.completeTt_free (h : Hdr) (c : Nat) (b : Bool) (t : Nat) : (x.completeTt h c b t).free = x.free := (Dev.completeTt_answered h c b t x).free
@[simp] theorem Dev.completeTt_ax (h : Hdr) (c : Nat) (u : Bool) (t : Nat) (b : AxisId) : (x.completeTt h c u t).ax b = x.ax b := by
  unfold Dev.ax; rw [Dev.completeTt_axes]
@[simp] theorem Dev.completeTt_dw (h : Hdr) (c : Nat) (u : Bool) (t : Nat) (b : DoorId) : (x.completeTt h c u t).dw b = x.dw b := by
  unfold Dev.dw; rw [Dev.completeTt_doors]
@[simp] theorem Dev.completeTt_ch (h : Hdr) (c : Nat) (u : Bool) (t : Nat) (b : ChanId) : (x.completeTt h c u t).ch b = x.ch b := by
  unfold Dev.ch; rw [Dev.completeTt_chans]
@[simp] theorem Dev.completeTt_capu (h : Hdr) (c : Nat) (u : Bool) (t : Nat) (b : Fin 4) : (x.completeTt h c u t).capu b = x.capu b := by
  unfold Dev.capu; rw [Dev.completeTt_caps]
@[simp] theorem Dev.completeTt_ctx (h : Hdr) (c : Nat) (u : Bool) (t : Nat) (b : Fin 256) : (x.completeTt h c u t).ctx b = x.ctx b := by
  unfold Dev.ctx; rw [Dev.completeTt_parts]
@[simp] theorem Dev.completeTt_inPin (h : Hdr) (c : Nat) (u : Bool) (t : Nat) (b : InId) : (x.completeTt h c u t).inPin b = x.inPin b := by
  unfold Dev.inPin; rw [Dev.completeTt_fio]
@[simp] theorem Dev.completeTt_sin (h : Hdr) (c : Nat) (u : Bool) (t : Nat) (b : Fin 8) : (x.completeTt h c u t).sin b = x.sin b := by
  unfold Dev.sin; rw [Dev.completeTt_fio]
@[simp] theorem Dev.completeTt_outPin (h : Hdr) (c : Nat) (u : Bool) (t : Nat) (b : OutId) : (x.completeTt h c u t).outPin b = x.outPin b := by
  unfold Dev.outPin; rw [Dev.completeTt_fio]
@[simp] theorem Dev.completeTt_sout (h : Hdr) (c : Nat) (u : Bool) (t : Nat) (b : Fin 4) : (x.completeTt h c u t).sout b = x.sout b := by
  unfold Dev.sout; rw [Dev.completeTt_fio]
@[simp] theorem Dev.completeTt_grp (h : Hdr) (c : Nat) (u : Bool) (t : Nat) (b : Fin 8) : (x.completeTt h c u t).grp b = x.grp b := by
  unfold Dev.grp; rw [Dev.completeTt_fio]
@[simp] theorem Dev.completeTt_tt (h : Hdr) (c : Nat) (b : Bool) (t : Nat) : (x.completeTt h c b t).tt = x.tt := by
  unfold Dev.tt; rw [Dev.completeTt_time]
@[simp] theorem Dev.completeTt_isSealed (h : Hdr) (c : Nat) (b : Bool) (t : Nat) : (x.completeTt h c b t).isSealed = x.isSealed := by
  unfold Dev.isSealed; rw [Dev.completeTt_su]
@[simp] theorem Dev.completeTt_holding (h : Hdr) (c : Nat) (b : Bool) (t : Nat) : (x.completeTt h c b t).holding = x.holding := by
  unfold Dev.holding; rw [Dev.completeTt_twin]

@[simp] theorem Dev.complete_time (h : Hdr) (c : Nat) : (x.complete h c).time = x.time := (Dev.complete_answered h c x).time
@[simp] theorem Dev.complete_sched (h : Hdr) (c : Nat) : (x.complete h c).sched = x.sched := (Dev.complete_answered h c x).sched
@[simp] theorem Dev.complete_gate (h : Hdr) (c : Nat) : (x.complete h c).gate = x.gate := (Dev.complete_answered h c x).gate
@[simp] theorem Dev.complete_doors (h : Hdr) (c : Nat) : (x.complete h c).doors = x.doors := (Dev.complete_answered h c x).doors
@[simp] theorem Dev.complete_axes (h : Hdr) (c : Nat) : (x.complete h c).axes = x.axes := (Dev.complete_answered h c x).axes
@[simp] theorem Dev.complete_fio (h : Hdr) (c : Nat) : (x.complete h c).fio = x.fio := (Dev.complete_answered h c x).fio
@[simp] theorem Dev.complete_reqH (h : Hdr) (c : Nat) : (x.complete h c).reqH = x.reqH := (Dev.complete_answered h c x).reqH
@[simp] theorem Dev.complete_reqM (h : Hdr) (c : Nat) : (x.complete h c).reqM = x.reqM := (Dev.complete_answered h c x).reqM
@[simp] theorem Dev.complete_caps (h : Hdr) (c : Nat) : (x.complete h c).caps = x.caps := (Dev.complete_answered h c x).caps
@[simp] theorem Dev.complete_chans (h : Hdr) (c : Nat) : (x.complete h c).chans = x.chans := (Dev.complete_answered h c x).chans
@[simp] theorem Dev.complete_parts (h : Hdr) (c : Nat) : (x.complete h c).parts = x.parts := (Dev.complete_answered h c x).parts
@[simp] theorem Dev.complete_twin (h : Hdr) (c : Nat) : (x.complete h c).twin = x.twin := (Dev.complete_answered h c x).twin
@[simp] theorem Dev.complete_cairn (h : Hdr) (c : Nat) : (x.complete h c).cairn = x.cairn := (Dev.complete_answered h c x).cairn
@[simp] theorem Dev.complete_keeper (h : Hdr) (c : Nat) : (x.complete h c).keeper = x.keeper := (Dev.complete_answered h c x).keeper
@[simp] theorem Dev.complete_img (h : Hdr) (c : Nat) : (x.complete h c).img = x.img := (Dev.complete_answered h c x).img
@[simp] theorem Dev.complete_su (h : Hdr) (c : Nat) : (x.complete h c).su = x.su := (Dev.complete_answered h c x).su
@[simp] theorem Dev.complete_evt (h : Hdr) (c : Nat) : (x.complete h c).evt = x.evt := (Dev.complete_answered h c x).evt
@[simp] theorem Dev.complete_eng (h : Hdr) (c : Nat) : (x.complete h c).eng = x.eng := (Dev.complete_answered h c x).eng
@[simp] theorem Dev.complete_free (h : Hdr) (c : Nat) : (x.complete h c).free = x.free := (Dev.complete_answered h c x).free
@[simp] theorem Dev.complete_ax (h : Hdr) (c : Nat) (b : AxisId) : (x.complete h c).ax b = x.ax b := by
  unfold Dev.ax; rw [Dev.complete_axes]
@[simp] theorem Dev.complete_dw (h : Hdr) (c : Nat) (b : DoorId) : (x.complete h c).dw b = x.dw b := by
  unfold Dev.dw; rw [Dev.complete_doors]
@[simp] theorem Dev.complete_ch (h : Hdr) (c : Nat) (b : ChanId) : (x.complete h c).ch b = x.ch b := by
  unfold Dev.ch; rw [Dev.complete_chans]
@[simp] theorem Dev.complete_capu (h : Hdr) (c : Nat) (b : Fin 4) : (x.complete h c).capu b = x.capu b := by
  unfold Dev.capu; rw [Dev.complete_caps]
@[simp] theorem Dev.complete_ctx (h : Hdr) (c : Nat) (b : Fin 256) : (x.complete h c).ctx b = x.ctx b := by
  unfold Dev.ctx; rw [Dev.complete_parts]
@[simp] theorem Dev.complete_inPin (h : Hdr) (c : Nat) (b : InId) : (x.complete h c).inPin b = x.inPin b := by
  unfold Dev.inPin; rw [Dev.complete_fio]
@[simp] theorem Dev.complete_sin (h : Hdr) (c : Nat) (b : Fin 8) : (x.complete h c).sin b = x.sin b := by
  unfold Dev.sin; rw [Dev.complete_fio]
@[simp] theorem Dev.complete_outPin (h : Hdr) (c : Nat) (b : OutId) : (x.complete h c).outPin b = x.outPin b := by
  unfold Dev.outPin; rw [Dev.complete_fio]
@[simp] theorem Dev.complete_sout (h : Hdr) (c : Nat) (b : Fin 4) : (x.complete h c).sout b = x.sout b := by
  unfold Dev.sout; rw [Dev.complete_fio]
@[simp] theorem Dev.complete_grp (h : Hdr) (c : Nat) (b : Fin 8) : (x.complete h c).grp b = x.grp b := by
  unfold Dev.grp; rw [Dev.complete_fio]
@[simp] theorem Dev.complete_tt (h : Hdr) (c : Nat) : (x.complete h c).tt = x.tt := by
  unfold Dev.tt; rw [Dev.complete_time]
@[simp] theorem Dev.complete_isSealed (h : Hdr) (c : Nat) : (x.complete h c).isSealed = x.isSealed := by
  unfold Dev.isSealed; rw [Dev.complete_su]
@[simp] theorem Dev.complete_holding (h : Hdr) (c : Nat) : (x.complete h c).holding = x.holding := by
  unfold Dev.holding; rw [Dev.complete_twin]

@[simp] theorem Dev.completeOpt_time (h : Option Hdr) (c : Nat) : (x.completeOpt h c).time = x.time := (Dev.completeOpt_answered h c x).time
@[simp] theorem Dev.completeOpt_sched (h : Option Hdr) (c : Nat) : (x.completeOpt h c).sched = x.sched := (Dev.completeOpt_answered h c x).sched
@[simp] theorem Dev.completeOpt_gate (h : Option Hdr) (c : Nat) : (x.completeOpt h c).gate = x.gate := (Dev.completeOpt_answered h c x).gate
@[simp] theorem Dev.completeOpt_doors (h : Option Hdr) (c : Nat) : (x.completeOpt h c).doors = x.doors := (Dev.completeOpt_answered h c x).doors
@[simp] theorem Dev.completeOpt_axes (h : Option Hdr) (c : Nat) : (x.completeOpt h c).axes = x.axes := (Dev.completeOpt_answered h c x).axes
@[simp] theorem Dev.completeOpt_fio (h : Option Hdr) (c : Nat) : (x.completeOpt h c).fio = x.fio := (Dev.completeOpt_answered h c x).fio
@[simp] theorem Dev.completeOpt_reqH (h : Option Hdr) (c : Nat) : (x.completeOpt h c).reqH = x.reqH := (Dev.completeOpt_answered h c x).reqH
@[simp] theorem Dev.completeOpt_reqM (h : Option Hdr) (c : Nat) : (x.completeOpt h c).reqM = x.reqM := (Dev.completeOpt_answered h c x).reqM
@[simp] theorem Dev.completeOpt_caps (h : Option Hdr) (c : Nat) : (x.completeOpt h c).caps = x.caps := (Dev.completeOpt_answered h c x).caps
@[simp] theorem Dev.completeOpt_chans (h : Option Hdr) (c : Nat) : (x.completeOpt h c).chans = x.chans := (Dev.completeOpt_answered h c x).chans
@[simp] theorem Dev.completeOpt_parts (h : Option Hdr) (c : Nat) : (x.completeOpt h c).parts = x.parts := (Dev.completeOpt_answered h c x).parts
@[simp] theorem Dev.completeOpt_twin (h : Option Hdr) (c : Nat) : (x.completeOpt h c).twin = x.twin := (Dev.completeOpt_answered h c x).twin
@[simp] theorem Dev.completeOpt_cairn (h : Option Hdr) (c : Nat) : (x.completeOpt h c).cairn = x.cairn := (Dev.completeOpt_answered h c x).cairn
@[simp] theorem Dev.completeOpt_keeper (h : Option Hdr) (c : Nat) : (x.completeOpt h c).keeper = x.keeper := (Dev.completeOpt_answered h c x).keeper
@[simp] theorem Dev.completeOpt_img (h : Option Hdr) (c : Nat) : (x.completeOpt h c).img = x.img := (Dev.completeOpt_answered h c x).img
@[simp] theorem Dev.completeOpt_su (h : Option Hdr) (c : Nat) : (x.completeOpt h c).su = x.su := (Dev.completeOpt_answered h c x).su
@[simp] theorem Dev.completeOpt_evt (h : Option Hdr) (c : Nat) : (x.completeOpt h c).evt = x.evt := (Dev.completeOpt_answered h c x).evt
@[simp] theorem Dev.completeOpt_eng (h : Option Hdr) (c : Nat) : (x.completeOpt h c).eng = x.eng := (Dev.completeOpt_answered h c x).eng
@[simp] theorem Dev.completeOpt_free (h : Option Hdr) (c : Nat) : (x.completeOpt h c).free = x.free := (Dev.completeOpt_answered h c x).free
@[simp] theorem Dev.completeOpt_ax (h : Option Hdr) (c : Nat) (b : AxisId) : (x.completeOpt h c).ax b = x.ax b := by
  unfold Dev.ax; rw [Dev.completeOpt_axes]
@[simp] theorem Dev.completeOpt_dw (h : Option Hdr) (c : Nat) (b : DoorId) : (x.completeOpt h c).dw b = x.dw b := by
  unfold Dev.dw; rw [Dev.completeOpt_doors]
@[simp] theorem Dev.completeOpt_ch (h : Option Hdr) (c : Nat) (b : ChanId) : (x.completeOpt h c).ch b = x.ch b := by
  unfold Dev.ch; rw [Dev.completeOpt_chans]
@[simp] theorem Dev.completeOpt_capu (h : Option Hdr) (c : Nat) (b : Fin 4) : (x.completeOpt h c).capu b = x.capu b := by
  unfold Dev.capu; rw [Dev.completeOpt_caps]
@[simp] theorem Dev.completeOpt_ctx (h : Option Hdr) (c : Nat) (b : Fin 256) : (x.completeOpt h c).ctx b = x.ctx b := by
  unfold Dev.ctx; rw [Dev.completeOpt_parts]
@[simp] theorem Dev.completeOpt_inPin (h : Option Hdr) (c : Nat) (b : InId) : (x.completeOpt h c).inPin b = x.inPin b := by
  unfold Dev.inPin; rw [Dev.completeOpt_fio]
@[simp] theorem Dev.completeOpt_sin (h : Option Hdr) (c : Nat) (b : Fin 8) : (x.completeOpt h c).sin b = x.sin b := by
  unfold Dev.sin; rw [Dev.completeOpt_fio]
@[simp] theorem Dev.completeOpt_outPin (h : Option Hdr) (c : Nat) (b : OutId) : (x.completeOpt h c).outPin b = x.outPin b := by
  unfold Dev.outPin; rw [Dev.completeOpt_fio]
@[simp] theorem Dev.completeOpt_sout (h : Option Hdr) (c : Nat) (b : Fin 4) : (x.completeOpt h c).sout b = x.sout b := by
  unfold Dev.sout; rw [Dev.completeOpt_fio]
@[simp] theorem Dev.completeOpt_grp (h : Option Hdr) (c : Nat) (b : Fin 8) : (x.completeOpt h c).grp b = x.grp b := by
  unfold Dev.grp; rw [Dev.completeOpt_fio]
@[simp] theorem Dev.completeOpt_tt (h : Option Hdr) (c : Nat) : (x.completeOpt h c).tt = x.tt := by
  unfold Dev.tt; rw [Dev.completeOpt_time]
@[simp] theorem Dev.completeOpt_isSealed (h : Option Hdr) (c : Nat) : (x.completeOpt h c).isSealed = x.isSealed := by
  unfold Dev.isSealed; rw [Dev.completeOpt_su]
@[simp] theorem Dev.completeOpt_holding (h : Option Hdr) (c : Nat) : (x.completeOpt h c).holding = x.holding := by
  unfold Dev.holding; rw [Dev.completeOpt_twin]

end Sys2Proof.Machine
end

