-- ==== Sys2Proof/Laws/RegMap.lean ====
section
/-! SUPPORT. The register map and its reset values agree: every field of every register takes a value of its range at
reset. -/

namespace Sys2Proof.Machine

/-- A field rule of period `p` from key `b` on, and a reset rule of the same period, agree everywhere when they agree on one
period. -/
theorem fieldsOk_periodic {p : Nat} (hp : 0 < p) (f : Nat → List RField) (r : Nat → Word)
    (h : (List.range p).all (fun o => fieldsOk (f o) (r o)) = true) (k : Nat) : fieldsOk (f (k % p)) (r (k % p)) = true :=
  List.all_eq_true.mp h (k % p) (List.mem_range.mpr (Nat.mod_lt _ hp))

/-- The single registers of the other blocks are few. -/
theorem oneFields_keys (k : Nat) : oneFields k = [] ∨ k ∈ [0x0030, 0x0044, 0x0400, 0x0810, 0x0814, 0x0820, 0x0824, 0x2800,
    0x2804, 0xA800, 0xA804, 0xA808, 0xA80C, 0xA810, 0xB080, 0xB084, 0xB088, 0xB814, 0xB818] := by
  unfold oneFields
  split <;> simp

/-- So are the registers of the safety block. -/
theorem safeFields_keys (k : Nat) : safeFields k = [] ∨ k ∈ [0x3800, 0x3804, 0x3808, 0x381C, 0x3820, 0x3824, 0x3828] := by
  unfold safeFields
  split <;> simp

theorem oneFields_reset (k : Nat) : fieldsOk (oneFields k) (cfgReset k) = true := by
  rcases oneFields_keys k with h | h
  · rw [h]; rfl
  · fin_cases h <;> decide

theorem safeFields_reset (k : Nat) : fieldsOk (safeFields k) (cfgReset k) = true := by
  rcases safeFields_keys k with h | h
  · rw [h]; rfl
  · fin_cases h <;> decide

theorem evtFields_reset : (List.range 1024).all (fun o => fieldsOk (evtFields (0x0C00 + o)) (cfgReset (0x0C00 + o))) = true := by
  decide +kernel

theorem fioFields_reset : (List.range 160).all (fun o => fieldsOk (fioFields (0x7000 + o)) (cfgReset (0x7000 + o))) = true := by
  decide +kernel

theorem atl_reset {k : Nat} (h : 0x2000 ≤ k ∧ k < 0x2600) : fieldsOk (fieldsAt k) (cfgReset k) = true := by
  have e := fieldsOk_periodic (p := 32) (by decide) atlFields
    (fun o => (match o with | 0x00 => 0x08000000#32 | 0x14 => 1000#32 | 0x18 => 1#32 | _ => 0#32)) (by decide +kernel) k
  unfold fieldsAt cfgReset
  repeat (first | rw [if_neg (by omega)] | rw [if_pos (by omega)])
  exact e

theorem dw_reset {k : Nat} (h : 0x3000 ≤ k ∧ k < 0x3800) : fieldsOk (fieldsAt k) (cfgReset k) = true := by
  have e := fieldsOk_periodic (p := 256) (by decide) dwFields
    (fun o => dwReset o) (by decide +kernel) k
  unfold fieldsAt cfgReset
  repeat (first | rw [if_neg (by omega)] | rw [if_pos (by omega)])
  exact e

theorem ax_reset {k : Nat} (h : 0x4000 ≤ k ∧ k < 0x4c00) : fieldsOk (fieldsAt k) (cfgReset k) = true := by
  have e := fieldsOk_periodic (p := 128) (by decide) axFields
    (fun o => axReset o) (by decide +kernel) k
  unfold fieldsAt cfgReset
  repeat (first | rw [if_neg (by omega)] | rw [if_pos (by omega)])
  exact e

theorem fol_reset {k : Nat} (h : 0x4d00 ≤ k ∧ k < 0x4e80) : fieldsOk (fieldsAt k) (cfgReset k) = true := by
  have e := fieldsOk_periodic (p := 16) (by decide) (fun o => (match o with | 0 => [⟨0, 1, .any⟩, ⟨8, 5, .le 23⟩, ⟨16, 9, .within 1 256⟩] | 4 => [⟨0, 10, .within 1 1000⟩] | _ => []))
    (fun o => (match o with | 0 => 0x00010000#32 | 4 => 100#32 | _ => 0#32)) (by decide +kernel) k
  unfold fieldsAt cfgReset
  repeat (first | rw [if_neg (by omega)] | rw [if_pos (by omega)])
  exact e

theorem eng_reset {k : Nat} (h : 0x5100 ≤ k ∧ k < 0x5d00) : fieldsOk (fieldsAt k) (cfgReset k) = true := by
  have e := fieldsOk_periodic (p := 128) (by decide) engFields
    (fun o => engReset o) (by decide +kernel) k
  unfold fieldsAt cfgReset
  repeat (first | rw [if_neg (by omega)] | rw [if_pos (by omega)])
  exact e

theorem port_reset {k : Nat} (h : 0x6000 ≤ k ∧ k < 0x6c00) : fieldsOk (fieldsAt k) (cfgReset k) = true := by
  have e := fieldsOk_periodic (p := 128) (by decide) portFields
    (fun o => portReset o) (by decide +kernel) k
  unfold fieldsAt cfgReset
  repeat (first | rw [if_neg (by omega)] | rw [if_pos (by omega)])
  exact e

theorem ch_reset {k : Nat} (h : 0x8000 ≤ k ∧ k < 0xa000) : fieldsOk (fieldsAt k) (cfgReset k) = true := by
  have e := fieldsOk_periodic (p := 1024) (by decide) chFields
    (fun o => chReset o) (by decide +kernel) k
  unfold fieldsAt cfgReset
  repeat (first | rw [if_neg (by omega)] | rw [if_pos (by omega)])
  exact e

theorem cls_reset {k : Nat} (h : 0xa100 ≤ k ∧ k < 0xa500) : fieldsOk (fieldsAt k) (cfgReset k) = true := by
  have e := fieldsOk_periodic (p := 32) (by decide) clsFields
    (fun o => (match o with | 4 => 0x00330190#32 | 16 => 60#32 | _ => 0#32)) (by decide +kernel) k
  unfold fieldsAt cfgReset
  repeat (first | rw [if_neg (by omega)] | rw [if_pos (by omega)])
  exact e

theorem rt_reset {k : Nat} (h : 0x11000 ≤ k ∧ k < 0x12000) : fieldsOk (fieldsAt k) (cfgReset k) = true := by
  have e := fieldsOk_periodic (p := 8) (by decide) rtFields
    (fun o => (match o with | 0 => 0xFF000080#32 | 4 => 10000#32 | _ => 0#32)) (by decide +kernel) k
  unfold fieldsAt cfgReset
  repeat (first | rw [if_neg (by omega)] | rw [if_pos (by omega)])
  exact e

theorem map_reset {k : Nat} (h : 0x12000 ≤ k) : fieldsOk (fieldsAt k) (cfgReset k) = true := by
  have e := fieldsOk_periodic (p := 8) (by decide) mapFields
    (fun o => (match o with | 0 => 0x1F0#32 | 4 => 1000#32 | _ => 0#32)) (by decide +kernel) k
  unfold fieldsAt cfgReset
  repeat (first | rw [if_neg (by omega)] | rw [if_pos (by omega)])
  exact e

theorem prof_reset {k : Nat} (h : 0x10000 ≤ k ∧ k < 0x11000) : fieldsOk (fieldsAt k) (cfgReset k) = true := by
  have e := fieldsOk_periodic (p := 16) (by decide)
    (fun o => wordField (if o < 8 then .within 1 4294967295 else .any)) (fun o => profReset o) (by decide +kernel) k
  have hr : cfgReset k = profReset (k % 16) := by
    unfold cfgReset
    repeat (first | rw [if_neg (by omega)] | rw [if_pos (by omega)])
  rw [hr]
  unfold fieldsAt
  repeat (first | rw [if_neg (by omega)] | rw [if_pos h])
  exact e

theorem pt_reset {k : Nat} (h : 0xA000 ≤ k ∧ k < 0xA100) : fieldsOk (fieldsAt k) (cfgReset k) = true := by
  have e : (List.range 256).all (fun o => fieldsOk (fieldsAt (0xA000 + o)) (cfgReset (0xA000 + o))) = true := by
    decide +kernel
  have := List.all_eq_true.mp e (k - 0xA000) (List.mem_range.mpr (by omega))
  rwa [Nat.add_sub_of_le h.1] at this

theorem pin_reset {k : Nat} (h : 0xA500 ≤ k ∧ k < 0xA540) : fieldsOk (fieldsAt k) (cfgReset k) = true := by
  unfold fieldsAt
  repeat (first | rw [if_neg (by omega)] | rw [if_pos (by omega)])
  rfl

/-- Every register takes values of its fields' ranges at reset. -/
theorem cfgReset_fieldsOk (k : Nat) : fieldsOk (fieldsAt k) (cfgReset k) = true := by
  by_cases h1 : 0x0C00 ≤ k ∧ k < 0x1000
  · have := List.all_eq_true.mp evtFields_reset (k - 0x0C00) (List.mem_range.mpr (by omega))
    rw [Nat.add_sub_of_le h1.1] at this
    rwa [fieldsAt, if_pos h1]
  by_cases h2 : 0x2000 ≤ k ∧ k < 0x2600
  · exact atl_reset h2
  by_cases h3 : 0x3000 ≤ k ∧ k < 0x3800
  · exact dw_reset h3
  by_cases h4 : 0x3800 ≤ k ∧ k < 0x4000
  · have := safeFields_reset k
    rwa [fieldsAt, if_neg h1, if_neg h2, if_neg h3, if_pos h4]
  by_cases h5 : 0x4000 ≤ k ∧ k < 0x4C00
  · exact ax_reset h5
  by_cases h6 : 0x4D00 ≤ k ∧ k < 0x4E80
  · exact fol_reset h6
  by_cases h7 : 0x5100 ≤ k ∧ k < 0x5D00
  · exact eng_reset h7
  by_cases h8 : 0x6000 ≤ k ∧ k < 0x6C00
  · exact port_reset h8
  by_cases h9 : 0x7000 ≤ k ∧ k < 0x70A0
  · have := List.all_eq_true.mp fioFields_reset (k - 0x7000) (List.mem_range.mpr (by omega))
    rw [Nat.add_sub_of_le h9.1] at this
    rwa [fieldsAt, if_neg h1, if_neg h2, if_neg h3, if_neg h4, if_neg h5, if_neg h6, if_neg h7, if_neg h8, if_pos h9]
  by_cases h10 : 0x8000 ≤ k ∧ k < 0xA000
  · exact ch_reset h10
  by_cases h11 : 0xA000 ≤ k ∧ k < 0xA100
  · exact pt_reset h11
  by_cases h12 : 0xA100 ≤ k ∧ k < 0xA500
  · exact cls_reset h12
  by_cases h13 : 0xA500 ≤ k ∧ k < 0xA540
  · exact pin_reset h13
  by_cases h14 : 0x10000 ≤ k ∧ k < 0x11000
  · exact prof_reset h14
  by_cases h15 : 0x11000 ≤ k ∧ k < 0x12000
  · exact rt_reset h15
  by_cases h16 : 0x12000 ≤ k
  · exact map_reset h16
  have := oneFields_reset k
  rwa [fieldsAt, if_neg h1, if_neg h2, if_neg h3, if_neg h4, if_neg h5, if_neg h6, if_neg h7, if_neg h8, if_neg h9,
    if_neg h10, if_neg h11, if_neg h12, if_neg h13, if_neg h14, if_neg h15, if_neg h16]

end Sys2Proof.Machine
end

