-- ==== Sys2Proof/Laws/Step.lean ====
section
/-! SUPPORT. How a command reaches the block: where the islands run it is its operation, elsewhere nothing; and what an
admitted action does. -/

namespace Sys2Proof.Machine

/-- Where the islands run, a command is its operation on the block. -/
theorem State.live_run {s : State} (h : s.running) (f : Memory → Dev → Dev) :
    s.live f = .next { s with dev := f s.cfg s.dev } := by
  unfold State.running at h; simp [State.live, State.run, h]
/-- Where they do not run, a command does nothing. -/
theorem State.live_dead {s : State} (h : ¬ s.running) (f : Memory → Dev → Dev) : s.live f = .next s := by
  unfold State.running at h; simp [State.live, State.run, h]
theorem State.liveAll_run {s : State} (h : s.running) (f : State → State) : s.liveAll f = .next (f s) := by
  unfold State.running at h; simp [State.liveAll, h]
theorem State.liveAll_dead {s : State} (h : ¬ s.running) (f : State → State) : s.liveAll f = .next s := by
  unfold State.running at h; simp [State.liveAll, h]
/-- An action the unit does not refuse takes its effect. -/
theorem Dev.admitted_ok {x : Dev} {h : Hdr} {a : Act} (hu : x.unitRefuse h a = none) (f : Dev → Dev) : x.admitted h a f = f x := by
  simp [Dev.admitted, hu]
/-- An action the unit refuses completes with the status of its refusal. -/
theorem Dev.admitted_refused {x : Dev} {h : Hdr} {a : Act} {c : Nat} (hu : x.unitRefuse h a = some c) (f : Dev → Dev) :
    x.admitted h a f = x.complete h c := by
  simp [Dev.admitted, hu]

/-! ### Outcomes -/

theorem mem_insertCompl (c : Compl) (l : List Compl) : c ∈ insertCompl c l := by simp [insertCompl]
/-- A completed action has its outcome. -/
theorem Dev.complete_gave (h : Hdr) (code : Nat) (x : Dev) : (x.complete h code).gave h code := by
  unfold Dev.gave Dev.complete Dev.completeTt
  split
  · rename_i hn
    simp only [hn, Dev.outcome]
    split
    · left; simp_all
    · right
      exact ⟨_, mem_insertCompl _ _, rfl, rfl, rfl, rfl⟩
  · trivial

end Sys2Proof.Machine
end

