-- ==== Sys2Proof/WellFormed.lean ====
section
/-! DEFINITION. Which commands a sender of the spec's interface can make: the operand ranges that the types of the operands
do not already hold. -/

namespace Sys2Proof

/-- A position of the 48-bit signed range (R302). -/
def posWf (p : Int) : Bool := decide (-140737488355328 ≤ p ∧ p < 140737488355328)
/-- A Q15 or Q15.1 command of 16 bits (R309). -/
def q16Wf (c : Int) : Bool := decide (-32768 ≤ c ∧ c < 32768)
/-- Data lengths of R305 and identifier widths. -/
def CanFrame.wf (f : CanFrame) : Bool :=
  (f.ide || decide (f.ident.toNat < 2048)) && !(f.ide && decide (f.fmt = .xl)) &&
  (!f.rtr || (decide (f.fmt = .cc) && f.data.isEmpty)) &&
  (match f.fmt with
   | .cc => decide (f.data.length ≤ 8)
   | .fd => decide (f.data.length ≤ 8) || [12, 16, 20, 24, 32, 48, 64].contains f.data.length
   | .xl => decide (1 ≤ f.data.length ∧ f.data.length ≤ 2048))
/-- Operand ranges of INJECT (R309). -/
def InjectOps.wf (o : InjectOps) : Bool :=
  (match o.point with
   | .ref => decide (o.row = 0)
   | .out => decide (o.row < 2)
   | .meas => decide (o.row < 4)) &&
  (match o.form with
   | .prbs n hold cycles => [7, 9, 11, 15, 23].contains n && decide (1 ≤ hold ∧ hold < 256 ∧ cycles < 65536)
   | .sweep f0 f1 ts _ => decide (1 ≤ f0 ∧ f0 ≤ 2000000 ∧ 1 ≤ f1 ∧ f1 ≤ 2000000 ∧ 1 ≤ ts ∧ ts ≤ 600000)
   | .step len => decide (len < 16777216)) &&
  decide (-8388608 ≤ o.aMan ∧ o.aMan < 8388608 ∧ -128 ≤ o.aExp ∧ o.aExp < 128)
/-- Operand ranges of CAPTURE_START (R309). -/
def CapOps.wf (o : CapOps) : Bool :=
  decide (1 ≤ o.decim ∧ o.decim ≤ 256 ∧ 1 ≤ o.sels.length ∧ o.sels.length ≤ 8) &&
  (match o.win with
   | .endTT t => decide (t < 18446744073709551616)
   | .count n => decide (1 ≤ n ∧ n < 4294967296)) &&
  o.sels.all (fun c => decide (c ≤ 5 ∨ (8 ≤ c ∧ c ≤ 22) ∨ (32 ≤ c ∧ c ≤ 43)))
/-- Operand ranges of CAIRN_EXPORT (R311). -/
def ExportOps.wf (o : ExportOps) : Bool :=
  decide (1 ≤ o.count ∧ o.count ≤ 65536 ∧ o.buf.addr % 32 = 0) &&
  (match o.range with
   | .seq _ => true
   | .tt a b => decide (a < b))

/-- The operand ranges of a command. (DESIGN CHOICE: log entry 7) -/
def Instr.wf : Instr → Bool
  | .move _ _ p _ _ | .moveNow _ _ p _ _ | .refSet _ _ p | .compareSet _ _ p _ _ _ => posWf p
  | .profileChange _ _ _ mask vals => decide (mask ≠ 0 ∧ vals.length = 11)
  | .refArm _ _ o => posWf o.refPos
  | .outMask _ mask _ => decide (mask ≠ 0)
  | .busTx _ _ f retry => f.wf && decide (retry ≤ 255)
  | .rxSupply _ _ b len _ => decide (b.addr % 64 = 0 ∧ 64 ≤ len ∧ len ≤ 4096 ∧ len % 64 = 0)
  | .coefLoadBlock _ _ _ data => decide (12 ≤ data.length ∧ data.length ≤ 584 ∧ data.length % 4 = 0)
  | .coefLoadEnvelope _ _ _ _ data => decide (data.length = 128)
  | .coefReadBlock _ _ sel len b => decide (sel < 14 ∧ 12 ≤ len ∧ len ≤ 584 ∧ len % 4 = 0 ∧ b.addr % 4 = 0)
  | .coefReadEnvelope _ _ _ b => decide (b.addr % 4 = 0)
  | .modeSwitchManual _ _ _ c0 c1 | .manSet _ _ _ c0 c1 => q16Wf c0 && q16Wf c1
  | .inject _ _ o => o.wf
  | .captureStart _ _ o => o.wf
  | .cairnExport _ o => o.wf
  | .cairnMark _ p => decide (p.length = 8)
  | .registerWrite _ space off _ | .loRegisterRead _ off space =>
    decide (off.toNat % 4 = 0) && (decide (space = .bar0) || decide (off.toNat < 4096))
  | .snapshotWindowRead _ off => decide (off.toNat % 4 = 0)
  | .loopFaultClr _ sides => decide (sides ≠ 0)
  | .mgtRead off n took _ => decide (off.toNat % 4 = 0 ∧ 1 ≤ n ∧ n ≤ 64 ∧ took ≤ n)
  | .controlFrame pins _ => decide (pins.length = 24)
  | .frameReceived _ f _ => f.wf
  | .supplyMeasurement _ dv => decide (dv ≤ 400)
  | .recordCommit rb1 rb2 _ =>
    (match rb1 with
     | none => true
     | some l => decide (l.length = 32)) &&
    (match rb2 with
     | none => true
     | some l => decide (l.length = 32))
  | _ => true

end Sys2Proof
end

