-- ==== Sys2Proof/Tests/Slice0.lean ====
section
/-! SUPPORT. Tests: ill-formed commands are refused by `Instr.wf`, values of the spec's examples, and for every obligation
with hypotheses a state and operands that meet them. -/

set_option linter.all false
set_option Elab.async false
open Sys2Proof Sys2Proof.Machine

namespace Sys2Proof.Tests

/-- The islands run; the device is unsealed. -/
def run : State := { dev := { keeper := { phase := .run } } }

/-- A sealed single unit. -/
def up : State := { dev := { keeper := { phase := .run }, su := { sealed := true }, twin := { summit := .holding } } }

/-- A sealed unit of a twin pair, holding the Summit. -/
def pairA : State := { dev := { keeper := { phase := .run }, su := { sealed := true }
                                twin := { en := true, unitB := false, summit := .holding, drive := true } } }

/-- A sealed unit of a twin pair in STANDBY. -/
def pairB : State := { dev := { keeper := { phase := .run }, su := { sealed := true }, twin := { en := true, summit := .standby } } }

/-- `s` with its device changed. -/
def dv (s : State) (f : Dev → Dev) : State := { s with dev := f s.dev }

/-- `s` with set-up registers written. -/
def rg (s : State) (l : Memory) : State := { s with cfg := l }

/-- `s` with the host link up. -/
def link (s : State) : State := dv s (fun x => { x with host := { x.host with bme := true } })

/-- A header of command Atoll 0. -/
def hd : Hdr := ⟨.host 0, 0, 0, false, false, 0, false, false⟩

/-- A move. -/
def mv : Move := ⟨100, 0, none, none, false⟩

/-- A loaded program of one state, one measurement and one output (R174, R175). -/
def prg : Vector (Option Block) 14 :=
  (Vector.replicate 14 (some ⟨1, 1, 0, [0]⟩)).set 0 (some ⟨1, 2, 0, [0xF111, 1]⟩)

/-- Axis 0 of `s` changed. -/
def ax0 (s : State) (f : Axis → Axis) : State := dv s (Dev.modAx 0 f)

/-- A sealed servo axis 0 whose loop is closed, with test mode enabled (R189, R201). -/
def servo : State :=
  rg (ax0 up (fun v => { v with eng := { v.eng with loopClosed := true, prog := prg } })) [(0x5100, 0x1D29)]

/-- A bus frame. -/
def fr : CanFrame := ⟨5, false, false, .cc, false, false, false, 0, 0, 0, []⟩

/-- Channel 0 of `s` changed. -/
def ch0 (s : State) (f : Chan → Chan) : State := dv s (Dev.modCh 0 f)

/-- Channel 0 in error active operation. -/
def bus : State := ch0 up (fun v => { v with mode := .running })

/-- A transmit frame with header `hd`. -/
def txf : TxFrame := { hdr := hd, frame := fr, limit := 5 }

/-- A raised record. -/
def rec0 : RawRec := ⟨1, 2, [], 0, none⟩

/-- A device whose recorder runs. -/
def logs (s : State) : State := dv s (fun x => { x with cairn := { x.cairn with st := .running } })

/-- A checksum fits its 16 bits (R277). -/
theorem crc16_ofNat (l : List Byte) : crc16 l = (BitVec.ofNat 16 (crc16 l)).toNat := by
  have step (c : Nat) (b : Byte) : crc16Step c b < 2 ^ 16 := by
    have bit (a : Nat) : crc16Bit a < 2 ^ 16 := by
      unfold crc16Bit
      split
      · exact Nat.xor_lt_two_pow (Nat.mod_lt _ (by decide)) (by decide)
      · exact Nat.mod_lt _ (by decide)
    exact bit _
  have all (l : List Byte) : ∀ c < 2 ^ 16, l.foldl crc16Step c < 2 ^ 16 := by
    induction l with
    | nil => exact fun _ h => h
    | cons b r ih => exact fun c _ => ih _ (step c b)
  rw [BitVec.toNat_ofNat]
  exact (Nat.mod_eq_of_lt (all l 0xFFFF (by decide))).symm

/-- A command Atoll 0 and its completion Atoll 1, of 256 entries each (R271, R272). -/
def ring : Memory := [(0x2000, 0x08010001), (0x2020, 0x08000002)]

/-- The same with Atoll 0 in version 1 and the tables of the translation unit at 64 KiB (R322, R324). -/
def ring1 : Memory := [(0x2000, 0x08010004), (0x2020, 0x08000002), (0x2800, 0x10000)]

/-- Host memory that holds `l` at address `a`. -/
def cells (a : Nat) (l : List Byte) : HostMem := (List.range l.length).zip l |>.map (fun e => (a + e.1, e.2))

/-- A native NOP descriptor with host sequence number 9 (R277, R316). -/
def nopDesc : List Byte :=
  let b : List Byte := [0x70, 0, 0, 0] ++ leBytes 4 9 ++ List.replicate 52 0
  b ++ leBytes 2 (crc16 b) ++ [0, 0x82]

/-- The same in version 1 (R321). -/
def nopDesc1 : List Byte :=
  let b : List Byte := [0x70, 0, 0, 0] ++ leBytes 4 9 ++ List.replicate 20 0
  b ++ leBytes 2 (crc16 b) ++ [0, 0x81]

/-- Host memory with a version-1 NOP at bus address 0x20000 and the two table entries that lead from IOVA 0 to it (R325). -/
def mem1 : HostMem :=
  cells 0x10000 [1, 0x80, 1, 0, 0, 0, 0, 0] ++ cells 0x18000 [3, 0, 2, 0, 0, 0, 0, 0] ++ cells 0x20000 nopDesc1

/-- Atoll 0 of `s` changed. -/
def atl0 (s : State) (f : Atoll → Atoll) : State := dv s (Dev.modAtl 0 f)

/-- Atoll 0 runs, with one descriptor available. -/
def fed (K : Memory) : State :=
  rg (atl0 (link up) (fun a => { a with st := .running, beacon := 1, avail := [(1, 0, 0)] })) K

/-- An outcome of Atoll 0. -/
def out0 : Compl := ⟨0, 9, 0, false, false, false, 5, false, 0, 0⟩

/-- Doorway 0 of the sealed unit `s` enabled, with a solenoid lock, and changed; its gate is open. -/
def door (s : State) (f : Door → Door) : State :=
  rg (dv s (Dev.modDw 0 (fun w => f { w with gate := true }))) [(0x3020, 5)]

/-- Inputs 0 and 1 are known and high. -/
def pins (s : State) : State :=
  dv s (fun x => (x.modIn 0 (fun p => { p with unknown := false, lvl := true })).modIn 1 (fun p => { p with unknown := false, lvl := true }))

/-- An image of the set-up at its reset values. -/
def img0 : Image := ⟨0, 2, [], Vector.replicate 24 (Vector.replicate 14 none), Vector.replicate 8 (none, none), true⟩

/-- `s` asleep. -/
def dozing (s : State) : State := dv s (fun x => { x with keeper := { x.keeper with phase := .asleep } })

/-- Port 0 of `s` changed. -/
def prt (s : State) (f : Port → Port) : State := dv s (Dev.modPort 0 f)

/-- A running injection of one period. -/
def inj0 : Inj := { ops := ⟨.out, .step 1, 0, 0, 0⟩, hdr := hd, n := 0 }

/-- Capture unit 0 of `s` changed. -/
def cap0 (s : State) (f : Capture → Capture) : State := dv s (Dev.modCap 0 f)

/-- Axis 0 with reference arming from source `o`. -/
def armed (s : State) (o : RefSrc) : State := ax0 s (fun v => { v with refArm := some ⟨5, o, false, false⟩ })

/-- A servo axis that has computed its period. -/
def miss0 : State := ax0 servo (fun v => { v with eng := { v.eng with
  save := some ⟨{}, 0, Vector.replicate 4 {}, 0, 0, 0, 0, 0, none, 0, 0⟩ } })

/-- Field output 0 of `s` changed. -/
def out1 (s : State) (f : OutPin → OutPin) : State := dv s (Dev.modOut 0 f)

/-- The time unit of `s` changed. -/
def tm (s : State) (f : TimeUnit → TimeUnit) : State := dv s (Dev.modTime f)

/-- A unit whose channel 0 is a master in operation, with the time SET (R36). -/
def master : State := rg (tm bus (fun t => { t with state := .set })) [(0x8000, 0x4153), (0x8040, 0x31)]

/-- A unit whose channel 0 is its primary follower. -/
def follow (st : TtState) : State := rg (tm bus (fun t => { t with state := st })) [(0x8000, 0x4153), (0x8040, 0x32)]

/-- Channel 0 in an attempt with the queued frame `q`. -/
def attempt (q : TxFrame) : State := ch0 bus (fun v => { v with txq := [q], att := some q.hdr.uid })

/-- A unit whose partner 0 has had no heartbeat and no frame since train time 0. -/
def partner : State := rg (dv up (Dev.modCtx 0 (fun v => { v with st := .live }))) [(0xA104, 0x10005), (0xA110, 1)]

/-- The twin side of `s` changed. -/
def tw (s : State) (f : Twin → Twin) : State := dv s (Dev.modTwin f)

/-- A unit B in STANDBY, preferred, retriggered for the last eight frames and healthy since cycle 0, the Isthmus up. -/
def standby : State :=
  rg (tw pairB (fun t => { t with pref := true, isUp := true, wdogRun := 8, wdogFrame := some 0, healthyAt := some 0 })) [(0xA80C, 0)]

/-- A valid Isthmus frame of protocol version 1. -/
def isth : IsthmusFrame := { header := 1 :: List.replicate 31 0, segment := [], aligned := true, crcOk := true }

/-! ### Commands no sender can make (log entry 7) -/

theorem test_wf_positions :
    (Instr.move hd 0 140737488355328 false 0).wf = false ∧ (Instr.moveNow hd 0 (-140737488355329) true 0).wf = false ∧
    (Instr.refSet hd 0 140737488355328).wf = false ∧ (Instr.compareSet hd 0 140737488355328 false false false).wf = false ∧
    (Instr.refArm hd 0 ⟨-140737488355329, .index, false, false⟩).wf = false := by decide

theorem test_wf_masks :
    (Instr.profileChange hd 0 0 0 (List.replicate 11 0)).wf = false ∧ (Instr.profileChange hd 0 0 1 []).wf = false ∧
    (Instr.outMask hd 0 0).wf = false ∧ (Instr.loopFaultClr .host 0).wf = false := by decide

theorem test_wf_frames :
    (Instr.busTx hd 0 { fr with ident := 2048 } 0).wf = false ∧ (Instr.busTx hd 0 { fr with ide := true, fmt := .xl } 0).wf = false ∧
    (Instr.busTx hd 0 { fr with rtr := true, data := [0] } 0).wf = false ∧
    (Instr.busTx hd 0 { fr with data := List.replicate 9 0 } 0).wf = false ∧
    (Instr.busTx hd 0 { fr with fmt := .fd, data := List.replicate 10 0 } 0).wf = false ∧
    (Instr.busTx hd 0 { fr with fmt := .xl, data := [] } 0).wf = false ∧ (Instr.busTx hd 0 fr 256).wf = false ∧
    (Instr.frameReceived 0 { fr with fmt := .fd, rtr := true } 0).wf = false := by decide

theorem test_wf_buffers :
    (Instr.rxSupply hd 0 ⟨32, []⟩ 64 0).wf = false ∧ (Instr.rxSupply hd 0 ⟨0, []⟩ 96 0).wf = false ∧
    (Instr.rxSupply hd 0 ⟨0, []⟩ 4160 0).wf = false ∧ (Instr.coefReadBlock hd 0 14 12 ⟨0, []⟩).wf = false ∧
    (Instr.coefReadBlock hd 0 0 8 ⟨0, []⟩).wf = false ∧ (Instr.coefReadBlock hd 0 0 12 ⟨2, []⟩).wf = false ∧
    (Instr.coefReadEnvelope hd 0 false ⟨2, []⟩).wf = false ∧ (Instr.coefLoadEnvelope hd 0 false 0 []).wf = false ∧
    (Instr.cairnMark hd []).wf = false := by decide

theorem test_wf_block_length : (Instr.coefLoadBlock hd 0 0 (List.replicate 585 0)).wf = false := by decide +kernel

theorem test_wf_commands :
    (Instr.modeSwitchManual hd 0 false 32768 0).wf = false ∧ (Instr.manSet hd 0 false 0 (-32769)).wf = false := by decide

theorem test_wf_injection :
    (InjectOps.wf ⟨.ref, .step 1, 1, 0, 0⟩) = false ∧ (InjectOps.wf ⟨.out, .step 1, 2, 0, 0⟩) = false ∧
    (InjectOps.wf ⟨.meas, .step 1, 4, 0, 0⟩) = false ∧ (InjectOps.wf ⟨.ref, .prbs 8 1 0, 0, 0, 0⟩) = false ∧
    (InjectOps.wf ⟨.ref, .prbs 7 0 0, 0, 0, 0⟩) = false ∧ (InjectOps.wf ⟨.ref, .sweep 0 1 1 false, 0, 0, 0⟩) = false ∧
    (InjectOps.wf ⟨.ref, .sweep 1 1 600001 false, 0, 0, 0⟩) = false ∧ (InjectOps.wf ⟨.ref, .step 16777216, 0, 0, 0⟩) = false ∧
    (InjectOps.wf ⟨.ref, .step 1, 0, 8388608, 0⟩) = false ∧ (InjectOps.wf ⟨.ref, .step 1, 0, 0, 128⟩) = false := by decide

theorem test_wf_capture :
    (CapOps.wf ⟨0, 1, 0, .count 1, [0]⟩) = false ∧ (CapOps.wf ⟨0, 1, 1, .count 0, [0]⟩) = false ∧
    (CapOps.wf ⟨0, 1, 1, .endTT 18446744073709551616, [0]⟩) = false ∧ (CapOps.wf ⟨0, 1, 1, .count 1, []⟩) = false ∧
    (CapOps.wf ⟨0, 1, 1, .count 1, [6]⟩) = false := by decide

theorem test_wf_export :
    (ExportOps.wf ⟨.seq 0, 0, ⟨0, []⟩, 0⟩) = false ∧ (ExportOps.wf ⟨.seq 0, 1, ⟨16, []⟩, 0⟩) = false ∧
    (ExportOps.wf ⟨.tt 5 5, 1, ⟨0, []⟩, 0⟩) = false := by decide

theorem test_wf_accesses :
    (Instr.registerWrite .host .bar0 2 0).wf = false ∧ (Instr.loRegisterRead .host 0x1000 .bar4).wf = false ∧
    (Instr.snapshotWindowRead .host 2).wf = false ∧ (Instr.mgtRead 0 65 0 0).wf = false ∧ (Instr.mgtRead 0 1 2 0).wf = false := by
  decide

theorem test_wf_events :
    (Instr.controlFrame [] 0).wf = false ∧ (Instr.supplyMeasurement 0 401).wf = false ∧
    (Instr.recordCommit (some []) none true).wf = false ∧ (Instr.recordCommit none (some []) true).wf = false := by decide

/-! ### Values of the spec's own examples -/

/-- The check value of CRC-16 with polynomial 0x1021 and initial value 0xFFFF (R277). -/
theorem test_crc16_check : crc16 [0x31, 0x32, 0x33, 0x34, 0x35, 0x36, 0x37, 0x38, 0x39] = 0x29B1 := by decide +kernel

/-- The example after R247: duties 0.71651 and 0.28349 give compare values 709 and 1 791 at N = 2 500. -/
theorem test_compare_values :
    compareOf 2500 ⟨71651 * nearOne / 100000, 0⟩ = 709 ∧ compareOf 2500 ⟨28349 * nearOne / 100000, 0⟩ = 1791 := by decide +kernel

/-- The same example: GL_U goes off 609 ticks after the valley, GH_U comes on at 709 and goes off at 4 291. -/
theorem test_pwm_edges :
    pwmLeg 2500 709 100 40 608 = (false, true) ∧ pwmLeg 2500 709 100 40 609 = (false, false) ∧
    pwmLeg 2500 709 100 40 709 = (true, false) ∧ pwmLeg 2500 709 100 40 4290 = (true, false) ∧
    pwmLeg 2500 709 100 40 4291 = (false, false) := by decide

/-- The example after R114: at travel 4 700 the closing envelope gives 304, that is 152.0 N. -/
theorem test_envelope_between_points :
    Memory.envAt [] 0 ([800, 800, 600, 440, 340, 280] ++ List.replicate 58 240) 4700 = 304 := by decide +kernel

/-- The example after R487: bits 18 to 16 of word 0x0F10 are the rank of PRED_LATE, code 0x0204. -/
theorem test_rank_field : Memory.fltRank [(0x0F10, 0x00010000)] 0x0204 = 1 := by decide +kernel

/-- Gray code 110 is 4 (R240). -/
theorem test_gray : grayDecode 6 = 4 := by decide

/-! ### The hypotheses of the obligations can be met -/

/-- The hypotheses of IdleStepPassesACycle can be met. -/
theorem witness_IdleStepPassesACycle :
    (∃ (s : State),
      s.running ∧ s.calm ∧ s.pending = []) ∧
    (∃ (s : State),
      s.running ∧ s.calm ∧ s.pending = [] ∧ (s.dev.twin.en = false ∨ s.dev.twin.sentFrame = none)) := by
  refine ⟨⟨run, ?_⟩,
    ⟨run, ?_⟩⟩ <;> dsimp only [State.running, State.calm] <;> decide +kernel

/-- The hypotheses of StepKeepsSetupCanonical can be met. -/
theorem witness_StepKeepsSetupCanonical :
    ∃ s t : State, s.proper ∧ step s = .next t :=
  ⟨{ State.reset with pending := [.powerFailWarning] }, _, by dsimp only [State.proper]; decide +kernel, rfl⟩

/-- The hypotheses of FieldsKeepTheirRanges can be met. -/
theorem witness_FieldsKeepTheirRanges :
    ∃ (c : Instr) (s t : State), s.proper ∧ (∀ k, fieldsOk (fieldsAt k) (s.cfg.word k) = true) ∧
      (∀ m, s.holdsImage m → m.fieldsOk) ∧ exec c s = .next t :=
  ⟨.powerFailWarning, State.reset, _, by dsimp only [State.proper]; decide +kernel, cfgReset_fieldsOk,
    fun _ h => h.elim nofun (fun h => h.elim nofun nofun), rfl⟩

/-- The hypotheses of OnlyWritesChangeSetup can be met. -/
theorem witness_OnlyWritesChangeSetup :
    ∃ (c : Instr) (s t : State), c.resets = false ∧ c.writesRegisters = false ∧ exec c s = .next t :=
  ⟨.powerFailWarning, up, _, rfl, rfl, rfl⟩

/-- The hypotheses of SealFreezesSetup can be met. -/
theorem witness_SealFreezesSetup :
    ∃ (c : Instr) (s t : State) (k : Nat), s.proper ∧ s.running ∧ s.dev.isSealed = true ∧ exec c s = .next t ∧ t.running ∧
      rwKey k = false :=
  ⟨.powerFailWarning, up, _, 0x3000, by dsimp only [State.proper]; decide +kernel, rfl, rfl, rfl, rfl, by decide +kernel⟩

/-- The hypotheses of ResetHoldsTheIslands can be met. -/
theorem witness_ResetHoldsTheIslands :
    ∃ (c : Instr) (s : State),
      (¬ s.running) ∧ c.resets = false := by
  refine ⟨.actionRelease, State.reset, ?_⟩ <;> dsimp only [State.running] <;> decide +kernel

/-- The hypotheses of NopCompletesAlone can be met. -/
theorem witness_NopCompletesAlone :
    ∃ (s : State) (h : Hdr),
      s.accepts h .nop := by
  refine ⟨up, hd, ?_⟩ <;> dsimp only [State.accepts, State.running] <;> decide +kernel

/-- The hypotheses of UnitRefusesActions can be met. -/
theorem witness_UnitRefusesActions :
    (∃ (s : State) (h : Hdr) (n : AtollId),
      s.running ∧ h.src = .host n ∧ s.dev.isSealed = true ∧ s.dev.holding = false) ∧
    (∃ (s : State) (h : Hdr) (n : AtollId),
      s.running ∧ h.src = .host n ∧ s.dev.isSealed = false) := by
  refine ⟨⟨dv up (fun x => { x with twin := {} }), hd, 0, ?_⟩,
    ⟨run, hd, 0, ?_⟩⟩ <;> dsimp only [State.running] <;> decide +kernel

/-- The hypotheses of MovesJoinTheQueue can be met. -/
theorem witness_MovesJoinTheQueue :
    (∃ (s : State) (h : Hdr) (a : AxisId) (pos : Int) (rel : Bool) (set : Fin 4),
      let g := (s.dev.ax a).gen
      let target := if rel then g.lastTarget + pos else pos
      s.accepts h (.axis a (.move pos rel set)) ∧ s.dev.motionRefused s.cfg a true false true = false ∧
      (s.dev.gateShutFor s.cfg a && s.cfg.openingMove a (g.lastTarget * fx) (target * fx)) = false ∧
      in48 target = true ∧ g.len < 8) ∧
    (∃ (s : State) (h : Hdr) (a : AxisId) (pos : Int) (rel : Bool) (set : Fin 4),
      let g := (s.dev.ax a).gen
      let target := if rel then wholeCount g.x + pos else pos
      s.accepts h (.axis a (.moveNow pos rel set)) ∧ s.dev.motionRefused s.cfg a true false true = false ∧
      (s.dev.gateShutFor s.cfg a && s.cfg.openingMove a g.x (target * fx)) = false ∧ in48 target = true ∧
      g.cur = none ∧ g.queue = []) ∧
    (∃ (s : State) (h : Hdr) (a : AxisId) (pos : Int) (rel : Bool) (set : Fin 4) (m0 : Move),
      let g := (s.dev.ax a).gen
      let target := if rel then wholeCount g.x + pos else pos
      s.accepts h (.axis a (.moveNow pos rel set)) ∧ s.dev.motionRefused s.cfg a true false true = false ∧
      (s.dev.gateShutFor s.cfg a && s.cfg.openingMove a g.x (target * fx)) = false ∧ in48 target = true ∧
      g.cur = some m0 ∧ g.ramp = none ∧ g.joints = [] ∧ g.heldChanges = []) ∧
    (∃ (s : State) (h : Hdr) (a : AxisId) (pos : Int) (rel : Bool) (set : Fin 4) (m0 : Move),
      let g := (s.dev.ax a).gen
      let target := if rel then wholeCount g.x + pos else pos
      s.accepts h (.axis a (.moveNow pos rel set)) ∧ s.dev.motionRefused s.cfg a true false true = false ∧
      (s.dev.gateShutFor s.cfg a && s.cfg.openingMove a g.x (target * fx)) = false ∧ in48 target = true ∧
      g.cur = some m0 ∧ g.ramp = none ∧ g.joints = [] ∧ g.heldChanges = []) := by
  refine ⟨⟨ax0 up (fun v => { v with gen := { v.gen with queue := List.replicate 7 mv } }), hd, 0, 140737488355327, false, 3, ?_⟩,
    ⟨up, hd, 23, -140737488355328, true, 0, ?_⟩,
    ⟨ax0 up (fun v => { v with gen := { v.gen with v := 65536, x := 0, cur := some mv, queue := [mv] } }), hd, 0, 1000, false, 1, mv, ?_⟩,
    ⟨ax0 up (fun v => { v with gen := { v.gen with v := 65536, x := 0, cur := some mv, queue := [mv] } }), hd, 0, -1, true, 1, mv, ?_⟩⟩ <;> dsimp only [State.accepts, State.running] <;> decide +kernel

/-- The hypotheses of StopsAndProfileChanges can be met. -/
theorem witness_StopsAndProfileChanges :
    (∃ (s : State) (h : Hdr) (a : AxisId) (m : Move),
      let g := (s.dev.ax a).gen
      s.accepts h (.axis a .stop) ∧ s.dev.motionRefused s.cfg a false false false = false ∧
      (s.dev.ax a).eng.mode = .auto ∧ s.dev.following s.cfg a = false ∧ g.cur = some m ∧ g.ramp = none ∧ g.queue = [] ∧
      g.seg ≠ .frozen ∧ g.seg ≠ .track) ∧
    (∃ (s : State) (h : Hdr) (a : AxisId),
      let g := (s.dev.ax a).gen
      s.accepts h (.axis a .stop) ∧ s.dev.motionRefused s.cfg a false false false = false ∧
      (s.dev.ax a).eng.mode = .auto ∧ s.dev.following s.cfg a = false ∧ g.cur = none ∧ g.ramp = none ∧ g.queue = []) ∧
    (∃ (s : State) (h : Hdr) (a : AxisId) (set : Fin 4) (mask : BitVec 11) (vals : List Word),
      s.accepts h (.axis a (.profileChange set mask vals)) ∧ s.dev.motionRefused s.cfg a false false false = false ∧
      mask.toNat = 0x400) ∧
    (∃ (s : State) (h : Hdr) (a : AxisId) (set : Fin 4) (mask : BitVec 11) (vals : List Word),
      let g := (s.dev.ax a).gen
      s.accepts h (.axis a (.profileChange set mask vals)) ∧ s.dev.motionRefused s.cfg a false false false = false ∧
      mask.toNat ≠ 0x400 ∧ g.next = [] ∧ g.heldChanges = [] ∧ g.uses set = false ∧
      setOk (applyMask (g.sets.get set) mask vals) = true ∧
      s.cfg.stepperOk a.val (applyMask (g.sets.get set) mask vals).vRidge = true) := by
  refine ⟨⟨ax0 up (fun v => { v with gen := { v.gen with cur := some mv, seg := .a1 } }), hd, 0, mv, ?_⟩,
    ⟨up, hd, 0, ?_⟩,
    ⟨up, hd, 0, 0, 0x400, List.replicate 11 0, ?_⟩,
    ⟨up, hd, 0, 0, 1, List.replicate 11 100, ?_⟩⟩ <;> dsimp only [State.accepts, State.running] <;> decide +kernel

/-- The hypotheses of CompareAndReferenceArm can be met. -/
theorem witness_CompareAndReferenceArm :
    (∃ (s : State) (h : Hdr) (a : AxisId) (c : Int) (neg measured passed : Bool),
      s.accepts h (.axis a (.compareSet c neg measured passed)) ∧
      s.dev.motionRefused s.cfg a false false false = false ∧ (measured = false ∨ s.cfg.axKind a.val ≠ 2)) ∧
    (∃ (s : State) (h : Hdr) (a : AxisId),
      s.accepts h (.axis a .compareOff) ∧ s.dev.motionRefused s.cfg a false false false = false) ∧
    (∃ (s : State) (h : Hdr) (a : AxisId) (o : RefArmOps),
      s.accepts h (.axis a (.refArm o)) ∧ s.dev.motionRefused s.cfg a false true true = false ∧
      (o.stop && s.dev.reserved s.cfg a) = false ∧ (o.src = .index → s.cfg.axKind a.val ≠ 2 ∧ s.cfg.fbMode a.val = 1)) ∧
    (∃ (s : State) (h : Hdr) (a : AxisId),
      s.accepts h (.axis a .refOff) ∧ s.dev.motionRefused s.cfg a false true false = false) := by
  refine ⟨⟨up, hd, 0, 5, true, true, false, ?_⟩,
    ⟨up, hd, 0, ?_⟩,
    ⟨rg up [(0x6010, 0x00030051)], hd, 0, ⟨0, .index, false, true⟩, ?_⟩,
    ⟨up, hd, 0, ?_⟩⟩ <;> dsimp only [State.accepts, State.running] <;> decide +kernel

/-- The hypotheses of RefSetShiftsTheFrame can be met. -/
theorem witness_RefSetShiftsTheFrame :
    ∃ (s : State) (h : Hdr) (a : AxisId) (pos : Int),
      s.accepts h (.axis a (.refSet pos)) ∧ s.dev.motionRefused s.cfg a false true true = false ∧
      (s.dev.ax a).still = true ∧ s.dev.refRest s.cfg a = true := by
  refine ⟨ax0 up (fun v => { v with still := true }), hd, 0, 5, ?_⟩ <;> dsimp only [State.accepts, State.running] <;> decide +kernel

/-- The hypotheses of OutputsTakeTheirCommand can be met. -/
theorem witness_OutputsTakeTheirCommand :
    (∃ (s : State) (h : Hdr) (o : OutId) (lvl : Bool),
      s.accepts h (.outSet o lvl) ∧ s.cfg.outRole o = false) ∧
    (∃ (s : State) (h : Hdr) (mask lvl : Word),
      s.accepts h (.outMask mask lvl) ∧ (∀ o : OutId, mask.getLsbD o.val = true → s.cfg.outRole o = false)) ∧
    (∃ (s : State) (h : Hdr) (o : OutId) (mask : Word) (b : Bool),
      s.cfg.outRole o = true ∧ mask.getLsbD o.val = true ∧ s.accepts h (.outSet o b)) ∧
    (∃ (s : State) (h : Hdr) (o : OutId) (mask lvl : Word),
      s.cfg.outRole o = true ∧ mask.getLsbD o.val = true ∧ s.accepts h (.outMask mask lvl)) ∧
    (∃ (d : Desc),
      d.opcode = 0x21 ∧ d.op 24 4 = 0) ∧
    (∃ (d : Desc) (o : OutId),
      d.opcode = 0x20 ∧ d.target = o.val) := by
  refine ⟨⟨up, hd, 31, true, ?_⟩,
    ⟨up, hd, 0xFFFFFFFF, 0, ?_⟩,
    ⟨rg up [(0x3020, 0x701), (0x3034, 0x7F7F057F)], hd, 5, 0x20, true, ?_⟩,
    ⟨rg up [(0x3020, 0x701), (0x3034, 0x7F7F057F)], hd, 5, 0x20, 0, ?_⟩,
    ⟨⟨0x21, 0, 0, 0, 0, 0, [], 0, true, 2, true⟩, ?_⟩,
    ⟨⟨0x20, 0, 31, 0, 0, 0, [1], 0, true, 2, true⟩, 31, ?_⟩⟩ <;> (try dsimp only [State.accepts, State.running]) <;> decide +kernel

/-- The hypotheses of BusActionsQueue can be met. -/
theorem witness_BusActionsQueue :
    (∃ (s : State) (h : Hdr) (c : ChanId) (f : CanFrame) (retry : Nat),
      s.accepts h (.busTx c f retry) ∧ s.dev.txRefuse s.cfg c = none) ∧
    (∃ (x : Dev),
      x.twin.en = false) ∧
    (∃ (K : Memory) (x : Dev) (c : ChanId) (f : CanFrame),
      let n := if f.ide then K.twinBitE c.val else K.twinBitB c.val
      x.twin.en = true ∧ n < 29) ∧
    (∃ (s : State) (h : Hdr) (c : ChanId) (buf : Buf) (len : Nat) (cookie : Word),
      s.accepts h (.rxSupply c buf len cookie) ∧ (s.dev.ch c).bufs.length < 512) := by
  refine ⟨⟨bus, hd, 0, fr, 255, ?_⟩,
    ⟨up.dev, ?_⟩,
    ⟨[(0x8048, 0x1C0A)], pairA.dev, 0, { fr with ide := true }, ?_⟩,
    ⟨ch0 bus (fun v => { v with bufs := List.replicate 511 ⟨hd, ⟨0, []⟩, 64, 0⟩ }), hd, 0, ⟨0, []⟩, 64, 0, ?_⟩⟩ <;> (try dsimp only [State.accepts, State.running]) <;> decide +kernel

/-- The hypotheses of ChannelModesChange can be met. -/
theorem witness_ChannelModesChange :
    (∃ (s : State) (h : Hdr) (c : ChanId),
      s.accepts h (.chanMode c .sleep) ∧ (s.dev.ch c).mode ≠ .asleep ∧ (s.dev.ch c).mode ≠ .off) ∧
    (∃ (s : State) (h : Hdr) (c : ChanId),
      s.accepts h (.chanMode c .wake) ∧ (s.dev.ch c).mode = .asleep) ∧
    (∃ (s : State) (h : Hdr) (c : ChanId),
      s.accepts h (.chanMode c .recover) ∧ (s.dev.ch c).mode = .busOff) := by
  refine ⟨⟨bus, hd, 0, ?_⟩,
    ⟨ch0 up (fun v => { v with mode := .asleep }), hd, 0, ?_⟩,
    ⟨ch0 up (fun v => { v with mode := .busOff }), hd, 0, ?_⟩⟩ <;> dsimp only [State.accepts, State.running] <;> decide +kernel

/-- The hypotheses of FlushReturnsBuffers can be met. -/
theorem witness_FlushReturnsBuffers :
    ∃ (s : State) (h : Hdr) (c : ChanId),
      s.accepts h (.chanMode c .flush) := by
  refine ⟨bus, hd, 0, ?_⟩ <;> dsimp only [State.accepts, State.running] <;> decide +kernel

/-- The hypotheses of LoopsOpenAndClose can be met. -/
theorem witness_LoopsOpenAndClose :
    (∃ (s : State) (h : Hdr) (a : AxisId),
      s.accepts h (.axis a .loopOpen) ∧ s.cfg.axKind a.val = 1 ∧ (s.dev.ax a).eng.loopClosed = true ∧
      s.dev.isSealed = true ∧ (s.dev.ax a).still = true ∧ s.dev.reserved s.cfg a = false) ∧
    (∃ (s : State) (h : Hdr) (a : AxisId),
      s.accepts h (.axis a .loopClose) ∧ s.cfg.axKind a.val = 1 ∧ (s.dev.ax a).eng.loopClosed = false ∧
      (s.dev.ax a).eng.progValid = true ∧ (s.dev.admitAll s.cfg (some a)).eng.admReason = 0) := by
  refine ⟨⟨ax0 servo (fun v => { v with still := true }), hd, 0, ?_⟩,
    ⟨ax0 servo (fun v => { v with eng := { v.eng with loopClosed := false } }), hd, 0, ?_⟩⟩ <;> dsimp only [State.accepts, State.running] <;> decide +kernel

/-- The hypotheses of CoefficientBlocks can be met. -/
theorem witness_CoefficientBlocks :
    (∃ (s : State) (h : Hdr) (a : AxisId) (len : Nat) (data : List Byte),
      s.accepts h (.axis a (.coefLoad len data)) ∧ s.cfg.axKind a.val = 1 ∧ (s.dev.ax a).eng.loopClosed = false ∧
      len = ((blockOf data).2.rows * (blockOf data).2.cols + 2) * 4 ∧
      crc16 (slice data 0 (len - 4)) = leNat (slice data (len - 4) 2) ∧
      blockAllowed (s.dev.ax a).eng data (blockOf data).1 (blockOf data).2 = true) ∧
    (∃ (s : State) (h : Hdr) (a : AxisId) (len : Nat) (data : List Byte),
      s.accepts h (.axis a (.coefLoad len data)) ∧ (s.dev.ax a).eng.loopClosed = true) ∧
    (∃ (s : State) (h : Hdr) (a : AxisId) (sel len : Nat) (buf : Buf) (b : Block),
      s.accepts h (.axis a (.coefRead sel len buf)) ∧ (s.dev.ax a).eng.block sel = some b ∧
      (b.rows * b.cols + 2) * 4 ≤ len ∧ buf.pages = [] ∧ s.dev.linkOk = true) := by
  refine ⟨⟨ax0 servo (fun v => { v with eng := { v.eng with loopClosed := false } }), hd, 0, 16, [0, 2, 1, 0, 17, 241, 0, 0, 1, 0, 0, 0, 37, 208, 0, 0], ?_⟩,
    ⟨servo, hd, 0, 16, [0, 2, 1, 0, 17, 241, 0, 0, 1, 0, 0, 0, 37, 208, 0, 0], ?_⟩,
    ⟨link servo, hd, 0, 1, 12, ⟨0, []⟩, ⟨1, 1, 0, [0]⟩, ?_⟩⟩ <;> dsimp only [State.accepts, State.running] <;> decide +kernel

/-- The hypotheses of EnvelopesLoadAndRead can be met. -/
theorem witness_EnvelopesLoadAndRead :
    (∃ (s : State) (h : Hdr) (d : DoorId) (closing : Bool) (ecrc : BitVec 16) (data : List Byte),
      s.accepts h (.envLoad d closing ecrc data) ∧ (s.dev.dw d).st.rest = true ∧
      crc16 (slice data 0 128) = ecrc.toNat ∧ (∀ i < 64, leNat (slice data (2 * i) 2) < 0x8000)) ∧
    (∃ (s : State) (h : Hdr) (d : DoorId) (closing : Bool) (buf : Buf),
      s.accepts h (.envRead d closing buf) ∧ buf.pages = [] ∧ s.dev.linkOk = true) := by
  refine ⟨⟨up, hd, 0, true, BitVec.ofNat 16 (crc16 (slice (List.replicate 128 0) 0 128)), List.replicate 128 0, ?_⟩,
    ⟨link up, hd, 0, false, ⟨0, []⟩, ?_⟩⟩
  · dsimp only [State.accepts, State.running]; exact ⟨⟨rfl, by decide +kernel⟩, by decide +kernel, crc16_ofNat _, by decide +kernel⟩
  · dsimp only [State.accepts, State.running]; decide +kernel

/-- The hypotheses of ManualModeAndInjection can be met. -/
theorem witness_ManualModeAndInjection :
    (∃ (s : State) (h : Hdr) (a : AxisId) (force : Bool) (c0 c1 : Int),
      s.accepts h (.axis a (.modeManual force c0 c1)) ∧ s.dev.maintRefused s.cfg a (s.dev.computes s.cfg a) = none) ∧
    (∃ (s : State) (h : Hdr) (a : AxisId),
      s.accepts h (.axis a .modeAuto) ∧ s.dev.loopOpen s.cfg a = false ∧ (s.dev.ax a).eng.mode ≠ .auto) ∧
    (∃ (s : State) (h : Hdr) (a : AxisId) (force : Bool) (c0 c1 : Int),
      s.accepts h (.axis a (.manSet force c0 c1)) ∧ (s.dev.ax a).eng.mode = (if force then .manualF else .manualV)) ∧
    (∃ (s : State) (a : AxisId),
      let y := s.dev.untilCyc s.cfg ((s.dev.ax a).eng.manAt + 200000 * s.cfg.manWdog a.val)
      s.running ∧ (s.dev.ax a).eng.mode ≠ .auto ∧ (y.ax a).eng.mode ≠ .auto ∧ (y.ax a).eng.forced = false ∧
      (y.ax a).eng.manAt + 200000 * s.cfg.manWdog a.val ≤ y.time.cyc) ∧
    (∃ (s : State) (h : Hdr) (a : AxisId) (o : InjectOps),
      s.accepts h (.axis a (.inject o)) ∧ s.dev.maintRefused s.cfg a (s.dev.computes s.cfg a) = none ∧
      (o.point = .ref → (s.dev.ax a).eng.mode = .auto) ∧ (o.point = .out → o.row < (s.dev.ax a).eng.shape.m) ∧
      (o.point = .meas → o.row < (s.dev.ax a).eng.shape.q)) ∧
    (∃ (s : State) (h : Hdr) (a : AxisId),
      s.accepts h (.axis a .injectStop)) := by
  refine ⟨⟨servo, hd, 0, true, -32768, 32767, ?_⟩,
    ⟨ax0 servo (fun v => { v with eng := { v.eng with mode := .manualV } }), hd, 0, ?_⟩,
    ⟨ax0 servo (fun v => { v with eng := { v.eng with mode := .manualF } }), hd, 0, true, 0, 0, ?_⟩,
    ⟨ax0 servo (fun v => { v with eng := { v.eng with mode := .manualV } }), 0, ?_⟩,
    ⟨servo, hd, 0, ⟨.out, .step 0, 0, 0, 0⟩, ?_⟩,
    ⟨servo, hd, 0, ?_⟩⟩ <;> dsimp only [State.accepts, State.running] <;> decide +kernel

/-- The hypotheses of CapturesStartAndStop can be met. -/
theorem witness_CapturesStartAndStop :
    (∃ (s : State) (h : Hdr) (u : Fin 4) (o : CapOps),
      s.accepts h (.captureStart u o) ∧ s.cfg.atlType o.atoll.val = 3) ∧
    (∃ (s : State) (h : Hdr) (u : Fin 4),
      s.accepts h (.captureStop u)) ∧
    (∃ (s : State) (h : Hdr) (u : Fin 4),
      s.accepts h (.captureStop u)) := by
  refine ⟨⟨rg up [(0x2020, 0x08000003)], hd, 0, ⟨0, 1, 1, .count 1, [0]⟩, ?_⟩,
    ⟨up, hd, 0, ?_⟩,
    ⟨cap0 up (fun v => { v with ops := some (⟨0, 1, 1, .count 1, [0]⟩, hd), staged := [[0]] }), hd, 0, ?_⟩⟩ <;> dsimp only [State.accepts, State.running] <;> decide +kernel

/-- The hypotheses of MarksAndExports can be met. -/
theorem witness_MarksAndExports :
    (∃ (s : State) (h : Hdr) (n : AtollId) (payload : List Byte),
      s.accepts h (.cairnMark payload) ∧ h.src = .host n ∧ s.dev.cairn.st ≠ .failed ∧ s.dev.cairn.pf = false ∧
      s.dev.cairn.queue.length < 512) ∧
    (∃ (s : State) (h : Hdr) (payload : List Byte),
      s.accepts h (.cairnMark payload) ∧ s.dev.cairn.st = .failed ∧ (∀ r ∈ s.dev.cairn.queue, r.hdr ≠ some h)) ∧
    (∃ (s : State) (h : Hdr) (o : ExportOps),
      s.accepts h (.cairnExport o) ∧
      let sel := s.dev.cairn.select o.range o.count
      let keep := s.dev.cairn.kept sel
      s.dev.cairn.st ≠ .failed) ∧
    (∃ (s : State) (h : Hdr) (o : ExportOps),
      s.accepts h (.cairnExport o) ∧
      let sel := s.dev.cairn.select o.range o.count
      let keep := s.dev.cairn.kept sel
      o.buf.pages = [] ∧ s.dev.linkOk = true) ∧
    (∃ (s : State) (h : Hdr) (o : ExportOps),
      s.accepts h (.cairnExport o) ∧
      let sel := s.dev.cairn.select o.range o.count
      let keep := s.dev.cairn.kept sel
      o.buf.pages = [] ∧ s.dev.linkOk = true) := by
  refine ⟨⟨dv up (fun x => { x with cairn := { x.cairn with queue := List.replicate 511 rec0 } }), hd, 0, List.replicate 8 0, ?_⟩,
    ⟨dv up (fun x => { x with cairn := { x.cairn with st := .failed } }), hd, List.replicate 8 0, ?_⟩,
    ⟨up, hd, ⟨.seq 0, 1, ⟨0, []⟩, 0⟩, ?_⟩,
    ⟨link up, hd, ⟨.seq 0, 1, ⟨0, []⟩, 0⟩, ?_⟩,
    ⟨dv (link up) (fun x => { x with cairn := { x.cairn with st := .failed } }), hd, ⟨.seq 0, 1, ⟨0, []⟩, 0⟩, ?_⟩⟩ <;> dsimp only [State.accepts, State.running] <;> decide +kernel

/-- The hypotheses of RaisesSignalOnce can be met. -/
theorem witness_RaisesSignalOnce :
    (∃ (K : Memory) (e : Fin 256) (v : Fin 64) (j : Nat),
      K.evtVec e.val = some v ∧ j ≠ e.val) ∧
    (∃ (K : Memory) (e : Fin 256) (v : Fin 64) (j : Fin 256),
      K.evtVec e.val = some v ∧ j ≠ e) ∧
    (∃ (K : Memory) (x : Dev) (e : Fin 256) (v : Fin 64),
      K.evtVec e.val = some v ∧ x.evt.pend.getLsbD e.val = true) ∧
    (∃ (K : Memory) (x : Dev) (e : Fin 256) (v : Fin 64),
      K.evtVec e.val = some v ∧ x.evt.pend.getLsbD e.val = false) ∧
    (∃ (x : Dev) (v : Fin 64),
      let masked := (NMap.get bar4Reset x.host.bar4 (16 * v.val + 12)).getLsbD 0 || !x.linkOk || !x.host.pcie.msixEn || x.host.pcie.msixMask
      masked = true) ∧
    (∃ (x : Dev) (v : Fin 64),
      let masked := (NMap.get bar4Reset x.host.bar4 (16 * v.val + 12)).getLsbD 0 || !x.linkOk || !x.host.pcie.msixEn || x.host.pcie.msixMask
      masked = false) ∧
    (∃ (x : Dev) (e : Nat) (v : Fin 64),
      let masked := (NMap.get bar4Reset x.host.bar4 (16 * v.val + 12)).getLsbD 0 || !x.linkOk || !x.host.pcie.msixEn || x.host.pcie.msixMask
      masked = false ∧ (∀ r ∈ x.evt.signals, r.cyc = x.time.cyc → r.src ≤ e)) := by
  refine ⟨⟨[(0x0C08, 0x0F030F7F)], 5, 3, 0, ?_⟩,
    ⟨[(0x0C08, 0x0F030F7F)], 5, 3, 6, ?_⟩,
    ⟨[(0x0C08, 0x0F030F7F)], { run.dev with evt := { pend := 0x20 } }, 5, 3, ?_⟩,
    ⟨[(0x0C08, 0x0F030F7F)], run.dev, 5, 3, ?_⟩,
    ⟨run.dev, 0, ?_⟩,
    ⟨{ run.dev with host := { bme := true, pcie := { msixEn := true }, bar4 := [(12, 0)] }, evt := { signals := [⟨9, 0, 0⟩] } }, 0, ?_⟩,
    ⟨{ run.dev with host := { bme := true, pcie := { msixEn := true }, bar4 := [(12, 0)] } }, 5, 0, ?_⟩⟩ <;> (try dsimp only) <;> decide +kernel

/-- The hypotheses of SchedMarkRaisesItsEvent can be met. -/
theorem witness_SchedMarkRaisesItsEvent :
    ∃ (s : State) (h : Hdr),
      s.accepts h .schedMark := by
  refine ⟨up, hd, ?_⟩ <;> dsimp only [State.accepts, State.running] <;> decide +kernel

/-- The hypotheses of TimeAndInhibitActions can be met. -/
theorem witness_TimeAndInhibitActions :
    (∃ (s : State) (h : Hdr) (v : BitVec 64),
      s.accepts h (.ttSet v) ∧ s.cfg.followerConfigured = false) ∧
    (∃ (s : State) (h : Hdr) (c : ChanId) (run : Bool),
      s.accepts h (.tmControl c run) ∧ s.cfg.timeRole c.val = 1) ∧
    (∃ (s : State) (h : Hdr) (b : Bool),
      s.accepts h (.takebackInhibit b)) ∧
    (∃ (s : State) (h : Hdr) (v : BitVec 64),
      s.accepts h (.ttSet v) ∧ s.cfg.followerConfigured = true) ∧
    (∃ (s : State),
      s.running ∧ s.cfg.followerConfigured = true) := by
  refine ⟨⟨up, hd, 7, ?_⟩,
    ⟨rg up [(0x8040, 0x31)], hd, 0, true, ?_⟩,
    ⟨up, hd, true, ?_⟩,
    ⟨rg up [(0x8000, 0x4153), (0x8040, 0x32)], hd, 7, ?_⟩,
    ⟨rg run [(0x8000, 0x4153), (0x8040, 0x32)], ?_⟩⟩ <;> dsimp only [State.accepts, State.running] <;> decide +kernel

/-- The hypotheses of CancelRemovesPending can be met. -/
theorem witness_CancelRemovesPending :
    (∃ (s : State) (h : Hdr) (n m : AtollId) (seq : Word) (l : Live) (p : Pend),
      s.accepts h (.schedCancel n seq) ∧ h.src = .host m ∧ s.cfg.atlType n.val = 1 ∧ s.dev.liveOf n seq = some l ∧
      l.released = false ∧ s.dev.sched.pend.find? (fun q => decide (q.hdr.uid = l.uid)) = some p ∧
      s.dev.dueTarget h n seq = none) ∧
    (∃ (s : State) (h : Hdr) (n m : AtollId) (seq : Word) (l : Live) (p : Pend),
      s.accepts h (.schedCancel n seq) ∧ h.src = .host m ∧ s.cfg.atlType n.val = 1 ∧ s.dev.liveOf n seq = some l ∧
      p ∈ s.dev.sched.pend ∧ p.hdr.uid = l.uid ∧ s.dev.isDue p = true) := by
  refine ⟨⟨rg (dv up (fun x => { x.modAtl 0 (fun a => { a with live := [⟨0, 9, false, false⟩] }) with sched := { pend := [⟨hd, .nop, 99, 0, false, 0⟩] } })) [(0x2000, 0x08000001)], hd, 0, 0, 9, ⟨0, 9, false, false⟩, ⟨hd, .nop, 99, 0, false, 0⟩, ?_⟩,
    ⟨rg (dv up (fun x => { x.modAtl 0 (fun a => { a with live := [⟨0, 9, false, false⟩] }) with sched := { pend := [⟨hd, .nop, 0, 0, false, 0⟩] } })) [(0x2000, 0x08000001)], hd, 0, 0, 9, ⟨0, 9, false, false⟩, ⟨hd, .nop, 0, 0, false, 0⟩, ?_⟩⟩ <;> dsimp only [State.accepts, State.running] <;> decide +kernel

/-- The hypotheses of YieldOffersTheSummit can be met. -/
theorem witness_YieldOffersTheSummit :
    ∃ (s : State) (h : Hdr),
      s.accepts h .twinYield ∧ s.dev.twin.en = true ∧ s.dev.holding = true ∧ s.dev.twin.isUp = true ∧
      s.dev.twin.hand = .none := by
  refine ⟨dv pairA (fun x => { x with twin := { x.twin with isUp := true } }), hd, ?_⟩ <;> dsimp only [State.accepts, State.running] <;> decide +kernel

/-- The hypotheses of BeaconAndContextWrites can be met. -/
theorem witness_BeaconAndContextWrites :
    (∃ (s : State) (n : AtollId),
      s.running ∧ s.cfg.atlType n.val ≠ 0) ∧
    (∃ (s : State) (n : AtollId),
      s.running ∧ s.cfg.atlType n.val ≠ 0) ∧
    (∃ (s : State) (n : AtollId) (w : Fin 8) (v : Word),
      s.running ∧ s.proper ∧ s.dev.isSealed = false ∧ s.dev.su.sealing = false ∧ s.dev.ctxBusy s.cfg n = false ∧
      fieldsOk (fieldsAt (0x2000 + 32 * n.val + 4 * w.val)) v = true ∧ fieldsAt (0x2000 + 32 * n.val + 4 * w.val) ≠ []) := by
  refine ⟨⟨rg (link up) ring, 0, ?_⟩,
    ⟨rg (link up) ring, 0, ?_⟩,
    ⟨run, 47, 0, 0x082F3F74, ?_⟩⟩ <;> dsimp only [State.running, State.proper] <;> decide +kernel

/-- The hypotheses of DescriptorsAreAccepted can be met. -/
theorem witness_DescriptorsAreAccepted :
    (∃ (s : State) (n : AtollId) (mem : HostMem) (b : List Byte) (a : Act) (rd : List Byte),
      s.running ∧ s.cfg.atlType n.val = 1 ∧ s.dev.chosen s.cfg mem = some n ∧
      s.dev.members s.cfg mem n (min 16 (s.dev.availCount n)) 0 = [some b] ∧
      s.dev.checkNative s.cfg mem (some b) = .accept a rd ∧ s.dev.cqRoom s.cfg n 1 = true ∧ s.dev.hostRoom 1 = true) ∧
    (∃ (s : State) (n : AtollId) (mem : HostMem) (slot : Nat) (y z : Dev) (a : Act) (rd : List Byte),
      s.running ∧ s.cfg.atlType n.val = 4 ∧ (∀ m, (s.dev.atl m).chainCancel = false) ∧
      s.dev.chosen s.cfg mem = some n ∧ s.dev.walk s.cfg mem (s.dev.slotAddr s.cfg n 0) true = (.inl slot, y) ∧
      y.checkV1 s.cfg mem n (mem.read slot 32) = (.accept a rd, z) ∧ z.hostRoom 1 = true) := by
  refine ⟨⟨fed ring, 0, cells 0 nopDesc, nopDesc, .nop, [], ?_⟩,
    ⟨fed ring1, 0, mem1, 0x20000, ((fed ring1).dev.walk ring1 mem1 0 true).2, ((fed ring1).dev.walk ring1 mem1 0 true).2, .nop, [], ?_⟩⟩ <;> dsimp only [State.running] <;> decide +kernel

/-- The hypotheses of DueActionsAreReleased can be met. -/
theorem witness_DueActionsAreReleased :
    (∃ (s : State) (p : Pend),
      s.running ∧ s.dev.twin.hand = .none ∧ s.dev.twin.wdogNext = none ∧ s.dev.sched.pend = [p] ∧ p.held = false ∧
      p.launch ≤ s.dev.tt ∧ s.dev.unitRefuse p.hdr p.act = none ∧
      let late := decide (p.deadline ≤ s.dev.tt)
      (late = true → s.cfg.fltRank 0x0002 = 2) ∧ ((∃ d c, p.act = .door d c) ∨ (∃ a y, p.act = .axis a y))) ∧
    (∃ (s : State) (p : Pend) (o : OutId) (lvl : Bool),
      s.running ∧ s.dev.twin.hand = .none ∧ s.dev.twin.wdogNext = none ∧ s.dev.sched.pend = [p] ∧ p.held = false ∧
      p.launch ≤ s.dev.tt ∧ s.dev.unitRefuse p.hdr p.act = none ∧
      let late := decide (p.deadline ≤ s.dev.tt)
      (late = true → s.cfg.fltRank 0x0002 = 2) ∧ p.act = .outSet o lvl ∧ s.cfg.outRole o = false) ∧
    (∃ (s : State) (p : Pend) (c : ChanId) (f : CanFrame) (retry : Nat),
      s.running ∧ s.dev.twin.hand = .none ∧ s.dev.twin.wdogNext = none ∧ s.dev.sched.pend = [p] ∧ p.held = false ∧
      p.launch ≤ s.dev.tt ∧ s.dev.unitRefuse p.hdr p.act = none ∧
      let late := decide (p.deadline ≤ s.dev.tt)
      (late = true → s.cfg.fltRank 0x0002 = 2) ∧ p.act = .busTx c f retry ∧ Src.isHost p.hdr.src = true ∧
      s.dev.txRefuse s.cfg c = none) ∧
    (∃ (s : State) (p : Pend),
      s.running ∧ s.dev.twin.hand = .none ∧ s.dev.twin.wdogNext = none ∧ s.dev.sched.pend = [p] ∧ p.held = false ∧
      p.launch ≤ s.dev.tt ∧ s.dev.unitRefuse p.hdr p.act = none ∧
      let late := decide (p.deadline ≤ s.dev.tt)
      (late = true → s.cfg.fltRank 0x0002 = 2) ∧ ((∃ d c, p.act = .door d c) ∨ (∃ a y, p.act = .axis a y))) ∧
    (∃ (s : State) (p : Pend) (o : OutId) (lvl : Bool),
      s.running ∧ s.dev.twin.hand = .none ∧ s.dev.twin.wdogNext = none ∧ s.dev.sched.pend = [p] ∧ p.held = false ∧
      p.launch ≤ s.dev.tt ∧ s.dev.unitRefuse p.hdr p.act = none ∧
      let late := decide (p.deadline ≤ s.dev.tt)
      (late = true → s.cfg.fltRank 0x0002 = 2) ∧ p.act = .outSet o lvl ∧ s.cfg.outRole o = false) ∧
    (∃ (s : State) (p : Pend) (c : ChanId) (f : CanFrame) (retry : Nat),
      s.running ∧ s.dev.twin.hand = .none ∧ s.dev.twin.wdogNext = none ∧ s.dev.sched.pend = [p] ∧ p.held = false ∧
      p.launch ≤ s.dev.tt ∧ s.dev.unitRefuse p.hdr p.act = none ∧
      let late := decide (p.deadline ≤ s.dev.tt)
      (late = true → s.cfg.fltRank 0x0002 = 2) ∧ p.act = .busTx c f retry ∧ Src.isHost p.hdr.src = true ∧
      s.dev.txRefuse s.cfg c = none) := by
  refine ⟨⟨dv up (fun x => { x with sched := { pend := [⟨hd, .axis 0 .stop, 0, 1, false, 0⟩] } }), ⟨hd, .axis 0 .stop, 0, 1, false, 0⟩, ?_⟩,
    ⟨dv up (fun x => { x with sched := { pend := [⟨hd, .outSet 0 true, 0, 1, false, 0⟩] } }), ⟨hd, .outSet 0 true, 0, 1, false, 0⟩, 0, true, ?_⟩,
    ⟨dv bus (fun x => { x with sched := { pend := [⟨hd, .busTx 0 fr 255, 0, 1, false, 0⟩] } }), ⟨hd, .busTx 0 fr 255, 0, 1, false, 0⟩, 0, fr, 255, ?_⟩,
    ⟨dv up (fun x => { x with sched := { pend := [⟨hd, .axis 0 .stop, 0, 0, false, 0⟩] } }), ⟨hd, .axis 0 .stop, 0, 0, false, 0⟩, ?_⟩,
    ⟨dv up (fun x => { x with sched := { pend := [⟨hd, .outSet 0 true, 0, 0, false, 0⟩] } }), ⟨hd, .outSet 0 true, 0, 0, false, 0⟩, 0, true, ?_⟩,
    ⟨dv bus (fun x => { x with sched := { pend := [⟨hd, .busTx 0 fr 255, 0, 0, false, 0⟩] } }), ⟨hd, .busTx 0 fr 255, 0, 0, false, 0⟩, 0, fr, 255, ?_⟩⟩
  · exact ⟨rfl, by decide +kernel, by decide +kernel, rfl, rfl, by decide +kernel, by decide +kernel, by decide +kernel, .inr ⟨0, .stop, rfl⟩⟩
  · dsimp only [State.running]; decide +kernel
  · dsimp only [State.running]; decide +kernel
  · exact ⟨rfl, by decide +kernel, by decide +kernel, rfl, rfl, by decide +kernel, by decide +kernel, by decide +kernel, .inr ⟨0, .stop, rfl⟩⟩
  · dsimp only [State.running]; decide +kernel
  · dsimp only [State.running]; decide +kernel

/-- The hypotheses of CompletionsAndDeadlines can be met. -/
theorem witness_CompletionsAndDeadlines :
    (∃ (s : State) (e : Compl) (c : AtollId) (rest : List Compl),
      s.running ∧ s.dev.host.outcomes = e :: rest ∧ s.cfg.cqOf e.atoll = some c ∧ s.dev.entryRoom s.cfg c = true ∧
      s.dev.writeTurn s.cfg c = true) ∧
    (∃ (s : State) (n : AtollId),
      s.running ∧ (s.dev.atl n).wbDue = true ∧ (s.dev.atl n).irqDue = false ∧ s.dev.linkOk = true ∧
      s.dev.writeTurn s.cfg n = true) ∧
    (∃ (s : State) (n : AtollId) (k : Nat) (mem : HostMem) (c seq : Nat),
      s.running ∧ s.calm ∧ s.dev.fetchFrom s.cfg mem n k = some (c, seq) ∧ s.cfg.isCommand n = true ∧
      (s.dev.atl n).fetchLate.contains ((s.dev.atl n).dev + BitVec.ofNat 16 k) = false) ∧
    (∃ (s : State) (n : AtollId),
      s.running ∧ s.calm ∧ s.cfg.isWritten n = true ∧ (s.dev.atl n).unann ≠ 0) := by
  refine ⟨⟨dv (fed ring) (fun x => { x with host := { x.host with outcomes := [out0] } }), out0, 1, [], ?_⟩,
    ⟨atl0 (fed ring) (fun a => { a with wbDue := true }), 0, ?_⟩,
    ⟨fed ring, 0, 0, cells 0 nopDesc, 0, 9, ?_⟩,
    ⟨rg (dv up (Dev.modAtl 1 (fun a => { a with unann := 1 }))) ring, 1, ?_⟩⟩ <;> dsimp only [State.running, State.calm] <;> decide +kernel

/-- The hypotheses of ChainCancelAndInvalidate can be met. -/
theorem witness_ChainCancelAndInvalidate :
    (∃ (s : State) (n : AtollId),
      s.running ∧ (s.cfg.atlType n.val ≠ 4 ∨ (s.dev.atl n).inChain = false ∨ (s.dev.atl n).preempted = false)) ∧
    (∃ (s : State) (n : AtollId),
      s.running ∧ s.cfg.atlType n.val = 4 ∧ (s.dev.atl n).inChain = true ∧ (s.dev.atl n).preempted = true ∧
      s.dev.linkOk = false) ∧
    (∃ (s : State) (n : AtollId),
      s.running ∧ s.cfg.atlType n.val = 4 ∧ (s.dev.atl n).inChain = true ∧ (s.dev.atl n).preempted = true ∧
      s.dev.linkOk = true ∧ s.dev.availCount n = 0) ∧
    (∃ (s : State) (n : AtollId) (mem : HostMem) (l : List (Nat × List Byte)),
      s.running ∧ s.cfg.atlType n.val = 4 ∧ (s.dev.atl n).inChain = true ∧ (s.dev.atl n).preempted = true ∧
      s.dev.linkOk = true ∧ s.dev.restOfChain s.cfg n mem l) := by
  refine ⟨⟨run, 0, ?_⟩,
    ⟨rg (atl0 run (fun a => { a with inChain := true, preempted := true })) ring1, 0, ?_⟩,
    ⟨rg (atl0 (link run) (fun a => { a with inChain := true, preempted := true })) ring1, 0, ?_⟩,
    ⟨rg (atl0 (fed ring1) (fun a => { a with inChain := true, preempted := true })) ring1, 0, mem1, [(0x20000, nopDesc1)], ?_⟩⟩
  · dsimp only [State.running]; decide +kernel
  · dsimp only [State.running]; decide +kernel
  · dsimp only [State.running]; decide +kernel
  · exact ⟨rfl, by decide +kernel, by decide +kernel, by decide +kernel, by decide +kernel, by decide +kernel, by decide +kernel, by decide +kernel, by decide +kernel, by rw [if_neg (by decide +kernel)]⟩

/-- The hypotheses of HostLossHaltsAtolls can be met. -/
theorem witness_HostLossHaltsAtolls :
    ∃ (s : State),
      s.running := by
  refine ⟨fed ring, ?_⟩ <;> dsimp only [State.running] <;> decide +kernel

/-- The hypotheses of BadAccessesAreCounted can be met. -/
theorem witness_BadAccessesAreCounted :
    (∃ (s : State) (off : BitVec 16),
      s.running ∧ off.toNat % 4 ≠ 0) ∧
    (∃ (s : State) (off : BitVec 16),
      s.running ∧ off.toNat % 4 = 0 ∧ 0xC000 ≤ off.toNat) ∧
    (∃ (s : State) (off : BitVec 16),
      s.running ∧ off.toNat % 4 = 0 ∧ 0xC000 ≤ off.toNat) := by
  refine ⟨⟨run, 0xFFFD, ?_⟩,
    ⟨run, 0xC000, ?_⟩,
    ⟨run, 0xFFFC, ?_⟩⟩ <;> dsimp only [State.running] <;> decide +kernel

/-- The hypotheses of DoorwayCommandsAct can be met. -/
theorem witness_DoorwayCommandsAct :
    (∃ (s : State) (h : Hdr) (d : DoorId),
      s.accepts h (.door d .opening) ∧ s.dev.doorQuiet s.cfg d ∧ (s.dev.dw d).st = .lockedClosed ∧
      (s.dev.dw d).gate = true) ∧
    (∃ (s : State) (h : Hdr) (d : DoorId),
      s.accepts h (.door d .opening) ∧ s.dev.doorQuiet s.cfg d ∧ (s.dev.dw d).st = .opened) ∧
    (∃ (s : State) (h : Hdr) (d : DoorId),
      s.accepts h (.door d .close) ∧ s.dev.doorQuiet s.cfg d ∧ (s.dev.dw d).st = .opened) ∧
    (∃ (s : State) (h : Hdr) (d : DoorId) (b : Bool),
      s.accepts h (.door d (.holdOpen b)) ∧ s.dev.doorQuiet s.cfg d ∧ (s.dev.dw d).st ≠ .isolated) ∧
    (∃ (s : State) (h : Hdr) (d : DoorId) (b : Bool),
      s.accepts h (.door d (.buttons b)) ∧ s.dev.doorQuiet s.cfg d ∧ (s.dev.dw d).st ≠ .isolated) ∧
    (∃ (s : State) (h : Hdr) (d : DoorId),
      s.accepts h (.door d .faultReset) ∧ s.dev.doorQuiet s.cfg d ∧ (s.dev.dw d).st = .seqFault ∧
      s.dev.cleared s.cfg d = true) := by
  refine ⟨⟨door up (fun w => { w with st := .lockedClosed }), hd, 0, ?_⟩,
    ⟨door up (fun w => { w with st := .opened }), hd, 0, ?_⟩,
    ⟨door up (fun w => { w with st := .opened }), hd, 0, ?_⟩,
    ⟨door up (fun w => { w with st := .opened }), hd, 0, true, ?_⟩,
    ⟨door up (fun w => { w with st := .opened }), hd, 0, true, ?_⟩,
    ⟨door up (fun w => { w with st := .seqFault }), hd, 0, ?_⟩⟩ <;> dsimp only [State.accepts, State.running, Dev.doorIn, Dev.doorQuiet] <;> decide +kernel

/-- The hypotheses of DoorTimeoutsFault can be met. -/
theorem witness_DoorTimeoutsFault :
    (∃ (s : State) (d : DoorId) (c : Instr) (st : DwState) (start n cause : Nat),
      let K := s.cfg
      let w := s.dev.dw d
      (c, st, start, n, cause) ∈ [(Instr.unlockTimeout d, DwState.unlocking, w.timer, msFrames (K.tUnlockMax d.val), 0x02), (.lockTimeout d, .locking, w.timer, msFrames (K.tLockMax d.val), 0x03), (.stepTimeout d, .stepOut, w.timer, msFrames (K.tStepMax d.val), 0x05), (.stepTimeout d, .stepIn, w.timer, msFrames (K.tStepMax d.val), 0x05), (.openTimeout d, .opening, w.timer, msFrames (K.tOpenMax d.val), 0x06), (.closeTimeout d, .closing, w.closeT, msFrames (K.tCloseMax d.val), 0x07), (.closeTimeout d, .finalClose, w.closeT, msFrames (K.tCloseMax d.val), 0x07)] ∧
      let y := s.dev.untilFrame K (start + n)
      s.running ∧ s.dev.doorIn K d st ∧ y.doorIn K d st ∧ start + n ≤ y.time.frames ∧ (y.dw d).timer = w.timer ∧
      (y.dw d).closeT = w.closeT ∧ (y.doorStart K d).role K d 5 = false ∧ (y.doorStart K d).reactionCause K d = none) ∧
    (∃ (s : State) (d : DoorId) (c : Instr) (st : DwState) (start n cause : Nat),
      let K := s.cfg
      let w := s.dev.dw d
      (c, st, start, n, cause) ∈ [(Instr.unlockTimeout d, DwState.unlocking, w.timer, msFrames (K.tUnlockMax d.val), 0x02), (.lockTimeout d, .locking, w.timer, msFrames (K.tLockMax d.val), 0x03), (.stepTimeout d, .stepOut, w.timer, msFrames (K.tStepMax d.val), 0x05), (.stepTimeout d, .stepIn, w.timer, msFrames (K.tStepMax d.val), 0x05), (.openTimeout d, .opening, w.timer, msFrames (K.tOpenMax d.val), 0x06), (.closeTimeout d, .closing, w.closeT, msFrames (K.tCloseMax d.val), 0x07), (.closeTimeout d, .finalClose, w.closeT, msFrames (K.tCloseMax d.val), 0x07)] ∧
      let y := s.dev.untilFrame K (start + n)
      s.running ∧ s.dev.doorIn K d st ∧ y.doorIn K d st ∧ start + n ≤ y.time.frames ∧ (y.dw d).timer = w.timer ∧
      (y.dw d).closeT = w.closeT ∧ (y.doorStart K d).role K d 5 = false ∧ (y.doorStart K d).reactionCause K d = none) ∧
    (∃ (s : State) (d : DoorId) (c : Instr) (st : DwState) (start n cause : Nat),
      let K := s.cfg
      let w := s.dev.dw d
      (c, st, start, n, cause) ∈ [(Instr.unlockTimeout d, DwState.unlocking, w.timer, msFrames (K.tUnlockMax d.val), 0x02), (.lockTimeout d, .locking, w.timer, msFrames (K.tLockMax d.val), 0x03), (.stepTimeout d, .stepOut, w.timer, msFrames (K.tStepMax d.val), 0x05), (.stepTimeout d, .stepIn, w.timer, msFrames (K.tStepMax d.val), 0x05), (.openTimeout d, .opening, w.timer, msFrames (K.tOpenMax d.val), 0x06), (.closeTimeout d, .closing, w.closeT, msFrames (K.tCloseMax d.val), 0x07), (.closeTimeout d, .finalClose, w.closeT, msFrames (K.tCloseMax d.val), 0x07)] ∧
      let y := s.dev.untilFrame K (start + n)
      s.running ∧ s.dev.doorIn K d st ∧ y.doorIn K d st ∧ start + n ≤ y.time.frames ∧ (y.dw d).timer = w.timer ∧
      (y.dw d).closeT = w.closeT ∧ (y.doorStart K d).role K d 5 = false ∧ (y.doorStart K d).reactionCause K d = none) ∧
    (∃ (s : State) (d : DoorId) (c : Instr) (st : DwState) (start n cause : Nat),
      let K := s.cfg
      let w := s.dev.dw d
      (c, st, start, n, cause) ∈ [(Instr.unlockTimeout d, DwState.unlocking, w.timer, msFrames (K.tUnlockMax d.val), 0x02), (.lockTimeout d, .locking, w.timer, msFrames (K.tLockMax d.val), 0x03), (.stepTimeout d, .stepOut, w.timer, msFrames (K.tStepMax d.val), 0x05), (.stepTimeout d, .stepIn, w.timer, msFrames (K.tStepMax d.val), 0x05), (.openTimeout d, .opening, w.timer, msFrames (K.tOpenMax d.val), 0x06), (.closeTimeout d, .closing, w.closeT, msFrames (K.tCloseMax d.val), 0x07), (.closeTimeout d, .finalClose, w.closeT, msFrames (K.tCloseMax d.val), 0x07)] ∧
      let y := s.dev.untilFrame K (start + n)
      s.running ∧ s.dev.doorIn K d st ∧ y.doorIn K d st ∧ start + n ≤ y.time.frames ∧ (y.dw d).timer = w.timer ∧
      (y.dw d).closeT = w.closeT ∧ (y.doorStart K d).role K d 5 = false ∧ (y.doorStart K d).reactionCause K d = none) ∧
    (∃ (s : State) (d : DoorId) (c : Instr) (st : DwState) (start n cause : Nat),
      let K := s.cfg
      let w := s.dev.dw d
      (c, st, start, n, cause) ∈ [(Instr.unlockTimeout d, DwState.unlocking, w.timer, msFrames (K.tUnlockMax d.val), 0x02), (.lockTimeout d, .locking, w.timer, msFrames (K.tLockMax d.val), 0x03), (.stepTimeout d, .stepOut, w.timer, msFrames (K.tStepMax d.val), 0x05), (.stepTimeout d, .stepIn, w.timer, msFrames (K.tStepMax d.val), 0x05), (.openTimeout d, .opening, w.timer, msFrames (K.tOpenMax d.val), 0x06), (.closeTimeout d, .closing, w.closeT, msFrames (K.tCloseMax d.val), 0x07), (.closeTimeout d, .finalClose, w.closeT, msFrames (K.tCloseMax d.val), 0x07)] ∧
      let y := s.dev.untilFrame K (start + n)
      s.running ∧ s.dev.doorIn K d st ∧ y.doorIn K d st ∧ start + n ≤ y.time.frames ∧ (y.dw d).timer = w.timer ∧
      (y.dw d).closeT = w.closeT ∧ (y.doorStart K d).role K d 5 = false ∧ (y.doorStart K d).reactionCause K d = none) ∧
    (∃ (s : State) (d : DoorId) (c : Instr) (st : DwState) (start n cause : Nat),
      let K := s.cfg
      let w := s.dev.dw d
      (c, st, start, n, cause) ∈ [(Instr.unlockTimeout d, DwState.unlocking, w.timer, msFrames (K.tUnlockMax d.val), 0x02), (.lockTimeout d, .locking, w.timer, msFrames (K.tLockMax d.val), 0x03), (.stepTimeout d, .stepOut, w.timer, msFrames (K.tStepMax d.val), 0x05), (.stepTimeout d, .stepIn, w.timer, msFrames (K.tStepMax d.val), 0x05), (.openTimeout d, .opening, w.timer, msFrames (K.tOpenMax d.val), 0x06), (.closeTimeout d, .closing, w.closeT, msFrames (K.tCloseMax d.val), 0x07), (.closeTimeout d, .finalClose, w.closeT, msFrames (K.tCloseMax d.val), 0x07)] ∧
      let y := s.dev.untilFrame K (start + n)
      s.running ∧ s.dev.doorIn K d st ∧ y.doorIn K d st ∧ start + n ≤ y.time.frames ∧ (y.dw d).timer = w.timer ∧
      (y.dw d).closeT = w.closeT ∧ (y.doorStart K d).role K d 5 = false ∧ (y.doorStart K d).reactionCause K d = none) ∧
    (∃ (s : State) (d : DoorId) (c : Instr) (st : DwState) (start n cause : Nat),
      let K := s.cfg
      let w := s.dev.dw d
      (c, st, start, n, cause) ∈ [(Instr.unlockTimeout d, DwState.unlocking, w.timer, msFrames (K.tUnlockMax d.val), 0x02), (.lockTimeout d, .locking, w.timer, msFrames (K.tLockMax d.val), 0x03), (.stepTimeout d, .stepOut, w.timer, msFrames (K.tStepMax d.val), 0x05), (.stepTimeout d, .stepIn, w.timer, msFrames (K.tStepMax d.val), 0x05), (.openTimeout d, .opening, w.timer, msFrames (K.tOpenMax d.val), 0x06), (.closeTimeout d, .closing, w.closeT, msFrames (K.tCloseMax d.val), 0x07), (.closeTimeout d, .finalClose, w.closeT, msFrames (K.tCloseMax d.val), 0x07)] ∧
      let y := s.dev.untilFrame K (start + n)
      s.running ∧ s.dev.doorIn K d st ∧ y.doorIn K d st ∧ start + n ≤ y.time.frames ∧ (y.dw d).timer = w.timer ∧
      (y.dw d).closeT = w.closeT ∧ (y.doorStart K d).role K d 5 = false ∧ (y.doorStart K d).reactionCause K d = none) := by
  refine ⟨⟨door up (fun w => { w with st := .unlocking }), 0, .unlockTimeout 0, .unlocking, 0, msFrames (Memory.tUnlockMax [] 0), 2, ?_⟩,
    ⟨door up (fun w => { w with st := .locking }), 0, .lockTimeout 0, .locking, 0, msFrames (Memory.tLockMax [] 0), 3, ?_⟩,
    ⟨door up (fun w => { w with st := .stepOut }), 0, .stepTimeout 0, .stepOut, 0, msFrames (Memory.tStepMax [] 0), 5, ?_⟩,
    ⟨door up (fun w => { w with st := .stepIn }), 0, .stepTimeout 0, .stepIn, 0, msFrames (Memory.tStepMax [] 0), 5, ?_⟩,
    ⟨door up (fun w => { w with st := .opening }), 0, .openTimeout 0, .opening, 0, msFrames (Memory.tOpenMax [] 0), 6, ?_⟩,
    ⟨door up (fun w => { w with st := .closing }), 0, .closeTimeout 0, .closing, 0, msFrames (Memory.tCloseMax [] 0), 7, ?_⟩,
    ⟨door up (fun w => { w with st := .finalClose }), 0, .closeTimeout 0, .finalClose, 0, msFrames (Memory.tCloseMax [] 0), 7, ?_⟩⟩ <;> dsimp only [State.running, Dev.doorIn] <;> decide +kernel

/-- The hypotheses of DoorTimesMoveOn can be met. -/
theorem witness_DoorTimesMoveOn :
    (∃ (s : State) (d : DoorId) (f : Nat),
      let K := s.cfg
      let n := msFrames (K.tClosedSw d.val)
      let y := s.dev.untilFrame K (f + n)
      let z := y.doorStart K d
      s.running ∧ s.dev.doorIn K d .finalClose ∧ (s.dev.dw d).closedSwT = some f ∧ s.dev.leavesDone K d = true ∧
      s.dev.role K d 7 = false ∧ y.doorIn K d .finalClose ∧ (y.dw d).closedSwT = some f ∧ y.leavesDone K d = true ∧
      y.role K d 7 = false ∧ f + n ≤ y.time.frames ∧ y.ranOut (y.dw d).closeT (msFrames (K.tCloseMax d.val)) = false ∧
      z.role K d 5 = false ∧ z.reactionCause K d = none) ∧
    (∃ (s : State) (d : DoorId) (c : Instr) (st nxt : DwState) (start n : Nat) (also : Memory → Dev → Bool),
      let K := s.cfg
      let w := s.dev.dw d
      (c, st, nxt, start, n) ∈ [(Instr.solSettleElapsed d, DwState.unlocking, (if K.stepAct d.val = 1 then DwState.stepOut else .opening), w.unlockT, msFrames (K.tSol d.val)), (.solSettleElapsed d, .locking, .lockedClosed, w.unlockT, msFrames (K.tSol d.val)), (.warnElapsed d, .closeWarning, .closing, w.timer, msFrames (K.tWarn d.val)), (.autoCloseElapsed d, .opened, .closeWarning, w.timer, msFrames (1000 * K.tDwell d.val)), (.obstHoldElapsed d, .obstacleHold, .closeWarning, w.timer, msFrames (1000 * K.tObstHold d.val))] ∧
      also = (fun K x => match c, st with | .solSettleElapsed _, .unlocking => K.lockSol d.val && !x.role K d 8 | .solSettleElapsed _, _ => K.lockSol d.val && x.closedLocked K d | .warnElapsed _, _ => !x.blocked K d && (K.leaves d.val).all (fun l => (x.ax l.2).still) | .autoCloseElapsed _, _ => decide (K.tDwell d.val ≠ 0) && !(x.dw d).hold | _, _ => decide (K.tObstHold d.val ≠ 0) && !x.blocked K d) ∧
      let y := s.dev.untilFrame K (start + n)
      let z := y.doorStart K d
      s.running ∧ s.dev.doorIn K d st ∧ also K s.dev = true ∧ y.doorIn K d st ∧ also K z = true ∧
      start + n ≤ y.time.frames ∧ (y.dw d).timer = w.timer ∧ (y.dw d).unlockT = w.unlockT ∧ z.upperRow K d = none ∧
      z.detection K d = none) ∧
    (∃ (s : State) (d : DoorId) (c : Instr) (st nxt : DwState) (start n : Nat) (also : Memory → Dev → Bool),
      let K := s.cfg
      let w := s.dev.dw d
      (c, st, nxt, start, n) ∈ [(Instr.solSettleElapsed d, DwState.unlocking, (if K.stepAct d.val = 1 then DwState.stepOut else .opening), w.unlockT, msFrames (K.tSol d.val)), (.solSettleElapsed d, .locking, .lockedClosed, w.unlockT, msFrames (K.tSol d.val)), (.warnElapsed d, .closeWarning, .closing, w.timer, msFrames (K.tWarn d.val)), (.autoCloseElapsed d, .opened, .closeWarning, w.timer, msFrames (1000 * K.tDwell d.val)), (.obstHoldElapsed d, .obstacleHold, .closeWarning, w.timer, msFrames (1000 * K.tObstHold d.val))] ∧
      also = (fun K x => match c, st with | .solSettleElapsed _, .unlocking => K.lockSol d.val && !x.role K d 8 | .solSettleElapsed _, _ => K.lockSol d.val && x.closedLocked K d | .warnElapsed _, _ => !x.blocked K d && (K.leaves d.val).all (fun l => (x.ax l.2).still) | .autoCloseElapsed _, _ => decide (K.tDwell d.val ≠ 0) && !(x.dw d).hold | _, _ => decide (K.tObstHold d.val ≠ 0) && !x.blocked K d) ∧
      let y := s.dev.untilFrame K (start + n)
      let z := y.doorStart K d
      s.running ∧ s.dev.doorIn K d st ∧ also K s.dev = true ∧ y.doorIn K d st ∧ also K z = true ∧
      start + n ≤ y.time.frames ∧ (y.dw d).timer = w.timer ∧ (y.dw d).unlockT = w.unlockT ∧ z.upperRow K d = none ∧
      z.detection K d = none) ∧
    (∃ (s : State) (d : DoorId) (c : Instr) (st nxt : DwState) (start n : Nat) (also : Memory → Dev → Bool),
      let K := s.cfg
      let w := s.dev.dw d
      (c, st, nxt, start, n) ∈ [(Instr.solSettleElapsed d, DwState.unlocking, (if K.stepAct d.val = 1 then DwState.stepOut else .opening), w.unlockT, msFrames (K.tSol d.val)), (.solSettleElapsed d, .locking, .lockedClosed, w.unlockT, msFrames (K.tSol d.val)), (.warnElapsed d, .closeWarning, .closing, w.timer, msFrames (K.tWarn d.val)), (.autoCloseElapsed d, .opened, .closeWarning, w.timer, msFrames (1000 * K.tDwell d.val)), (.obstHoldElapsed d, .obstacleHold, .closeWarning, w.timer, msFrames (1000 * K.tObstHold d.val))] ∧
      also = (fun K x => match c, st with | .solSettleElapsed _, .unlocking => K.lockSol d.val && !x.role K d 8 | .solSettleElapsed _, _ => K.lockSol d.val && x.closedLocked K d | .warnElapsed _, _ => !x.blocked K d && (K.leaves d.val).all (fun l => (x.ax l.2).still) | .autoCloseElapsed _, _ => decide (K.tDwell d.val ≠ 0) && !(x.dw d).hold | _, _ => decide (K.tObstHold d.val ≠ 0) && !x.blocked K d) ∧
      let y := s.dev.untilFrame K (start + n)
      let z := y.doorStart K d
      s.running ∧ s.dev.doorIn K d st ∧ also K s.dev = true ∧ y.doorIn K d st ∧ also K z = true ∧
      start + n ≤ y.time.frames ∧ (y.dw d).timer = w.timer ∧ (y.dw d).unlockT = w.unlockT ∧ z.upperRow K d = none ∧
      z.detection K d = none) ∧
    (∃ (s : State) (d : DoorId) (c : Instr) (st nxt : DwState) (start n : Nat) (also : Memory → Dev → Bool),
      let K := s.cfg
      let w := s.dev.dw d
      (c, st, nxt, start, n) ∈ [(Instr.solSettleElapsed d, DwState.unlocking, (if K.stepAct d.val = 1 then DwState.stepOut else .opening), w.unlockT, msFrames (K.tSol d.val)), (.solSettleElapsed d, .locking, .lockedClosed, w.unlockT, msFrames (K.tSol d.val)), (.warnElapsed d, .closeWarning, .closing, w.timer, msFrames (K.tWarn d.val)), (.autoCloseElapsed d, .opened, .closeWarning, w.timer, msFrames (1000 * K.tDwell d.val)), (.obstHoldElapsed d, .obstacleHold, .closeWarning, w.timer, msFrames (1000 * K.tObstHold d.val))] ∧
      also = (fun K x => match c, st with | .solSettleElapsed _, .unlocking => K.lockSol d.val && !x.role K d 8 | .solSettleElapsed _, _ => K.lockSol d.val && x.closedLocked K d | .warnElapsed _, _ => !x.blocked K d && (K.leaves d.val).all (fun l => (x.ax l.2).still) | .autoCloseElapsed _, _ => decide (K.tDwell d.val ≠ 0) && !(x.dw d).hold | _, _ => decide (K.tObstHold d.val ≠ 0) && !x.blocked K d) ∧
      let y := s.dev.untilFrame K (start + n)
      let z := y.doorStart K d
      s.running ∧ s.dev.doorIn K d st ∧ also K s.dev = true ∧ y.doorIn K d st ∧ also K z = true ∧
      start + n ≤ y.time.frames ∧ (y.dw d).timer = w.timer ∧ (y.dw d).unlockT = w.unlockT ∧ z.upperRow K d = none ∧
      z.detection K d = none) ∧
    (∃ (s : State) (d : DoorId) (c : Instr) (st nxt : DwState) (start n : Nat) (also : Memory → Dev → Bool),
      let K := s.cfg
      let w := s.dev.dw d
      (c, st, nxt, start, n) ∈ [(Instr.solSettleElapsed d, DwState.unlocking, (if K.stepAct d.val = 1 then DwState.stepOut else .opening), w.unlockT, msFrames (K.tSol d.val)), (.solSettleElapsed d, .locking, .lockedClosed, w.unlockT, msFrames (K.tSol d.val)), (.warnElapsed d, .closeWarning, .closing, w.timer, msFrames (K.tWarn d.val)), (.autoCloseElapsed d, .opened, .closeWarning, w.timer, msFrames (1000 * K.tDwell d.val)), (.obstHoldElapsed d, .obstacleHold, .closeWarning, w.timer, msFrames (1000 * K.tObstHold d.val))] ∧
      also = (fun K x => match c, st with | .solSettleElapsed _, .unlocking => K.lockSol d.val && !x.role K d 8 | .solSettleElapsed _, _ => K.lockSol d.val && x.closedLocked K d | .warnElapsed _, _ => !x.blocked K d && (K.leaves d.val).all (fun l => (x.ax l.2).still) | .autoCloseElapsed _, _ => decide (K.tDwell d.val ≠ 0) && !(x.dw d).hold | _, _ => decide (K.tObstHold d.val ≠ 0) && !x.blocked K d) ∧
      let y := s.dev.untilFrame K (start + n)
      let z := y.doorStart K d
      s.running ∧ s.dev.doorIn K d st ∧ also K s.dev = true ∧ y.doorIn K d st ∧ also K z = true ∧
      start + n ≤ y.time.frames ∧ (y.dw d).timer = w.timer ∧ (y.dw d).unlockT = w.unlockT ∧ z.upperRow K d = none ∧
      z.detection K d = none) := by
  refine ⟨⟨door up (fun w => { w with st := .finalClose, closedSwT := some 0, closeT := 0 }), 0, 0, ?_⟩,
    ⟨door up (fun w => { w with st := .unlocking }), 0, .solSettleElapsed 0, .unlocking, .opening, 0, msFrames (Memory.tSol [] 0), (fun K x => match (Instr.solSettleElapsed 0), DwState.unlocking with | .solSettleElapsed _, .unlocking => K.lockSol (0 : DoorId).val && !x.role K 0 8 | .solSettleElapsed _, _ => K.lockSol (0 : DoorId).val && x.closedLocked K 0 | .warnElapsed _, _ => !x.blocked K 0 && (K.leaves (0 : DoorId).val).all (fun l => (x.ax l.2).still) | .autoCloseElapsed _, _ => decide (K.tDwell (0 : DoorId).val ≠ 0) && !(x.dw 0).hold | _, _ => decide (K.tObstHold (0 : DoorId).val ≠ 0) && !x.blocked K 0), ?_⟩,
    ⟨rg (pins (door up (fun w => { w with st := .locking }))) [(0x3020, 5), (0x302C, 0x7F7F7F), (0x3030, 0x7F7F01)], 0, .solSettleElapsed 0, .locking, .lockedClosed, 0, msFrames (Memory.tSol [] 0), (fun K x => match (Instr.solSettleElapsed 0), DwState.locking with | .solSettleElapsed _, .unlocking => K.lockSol (0 : DoorId).val && !x.role K 0 8 | .solSettleElapsed _, _ => K.lockSol (0 : DoorId).val && x.closedLocked K 0 | .warnElapsed _, _ => !x.blocked K 0 && (K.leaves (0 : DoorId).val).all (fun l => (x.ax l.2).still) | .autoCloseElapsed _, _ => decide (K.tDwell (0 : DoorId).val ≠ 0) && !(x.dw 0).hold | _, _ => decide (K.tObstHold (0 : DoorId).val ≠ 0) && !x.blocked K 0), ?_⟩,
    ⟨door up (fun w => { w with st := .closeWarning }), 0, .warnElapsed 0, .closeWarning, .closing, 0, msFrames (Memory.tWarn [] 0), (fun K x => match (Instr.warnElapsed 0), DwState.closeWarning with | .solSettleElapsed _, .unlocking => K.lockSol (0 : DoorId).val && !x.role K 0 8 | .solSettleElapsed _, _ => K.lockSol (0 : DoorId).val && x.closedLocked K 0 | .warnElapsed _, _ => !x.blocked K 0 && (K.leaves (0 : DoorId).val).all (fun l => (x.ax l.2).still) | .autoCloseElapsed _, _ => decide (K.tDwell (0 : DoorId).val ≠ 0) && !(x.dw 0).hold | _, _ => decide (K.tObstHold (0 : DoorId).val ≠ 0) && !x.blocked K 0), ?_⟩,
    ⟨rg (door up (fun w => { w with st := .opened })) [(0x3020, 5), (0x304C, 0x10001)], 0, .autoCloseElapsed 0, .opened, .closeWarning, 0, msFrames (1000 * Memory.tDwell [(0x304C, 0x10001)] 0), (fun K x => match (Instr.autoCloseElapsed 0), DwState.opened with | .solSettleElapsed _, .unlocking => K.lockSol (0 : DoorId).val && !x.role K 0 8 | .solSettleElapsed _, _ => K.lockSol (0 : DoorId).val && x.closedLocked K 0 | .warnElapsed _, _ => !x.blocked K 0 && (K.leaves (0 : DoorId).val).all (fun l => (x.ax l.2).still) | .autoCloseElapsed _, _ => decide (K.tDwell (0 : DoorId).val ≠ 0) && !(x.dw 0).hold | _, _ => decide (K.tObstHold (0 : DoorId).val ≠ 0) && !x.blocked K 0), ?_⟩,
    ⟨rg (door up (fun w => { w with st := .obstacleHold })) [(0x3020, 5), (0x304C, 0x10001)], 0, .obstHoldElapsed 0, .obstacleHold, .closeWarning, 0, msFrames (1000 * Memory.tObstHold [(0x304C, 0x10001)] 0), (fun K x => match (Instr.obstHoldElapsed 0), DwState.obstacleHold with | .solSettleElapsed _, .unlocking => K.lockSol (0 : DoorId).val && !x.role K 0 8 | .solSettleElapsed _, _ => K.lockSol (0 : DoorId).val && x.closedLocked K 0 | .warnElapsed _, _ => !x.blocked K 0 && (K.leaves (0 : DoorId).val).all (fun l => (x.ax l.2).still) | .autoCloseElapsed _, _ => decide (K.tDwell (0 : DoorId).val ≠ 0) && !(x.dw 0).hold | _, _ => decide (K.tObstHold (0 : DoorId).val ≠ 0) && !x.blocked K 0), ?_⟩⟩
  · dsimp only [State.running, Dev.doorIn]; decide +kernel
  · dsimp only [State.running, Dev.doorIn]; refine ⟨by decide +kernel, rfl, ?_⟩; decide +kernel
  · dsimp only [State.running, Dev.doorIn]; refine ⟨by decide +kernel, rfl, ?_⟩; decide +kernel
  · dsimp only [State.running, Dev.doorIn]; refine ⟨by decide +kernel, rfl, ?_⟩; decide +kernel
  · dsimp only [State.running, Dev.doorIn]; refine ⟨by decide +kernel, rfl, ?_⟩; decide +kernel
  · dsimp only [State.running, Dev.doorIn]; refine ⟨by decide +kernel, rfl, ?_⟩; decide +kernel

/-- The hypotheses of RegistersTakeWrites can be met. -/
theorem witness_RegistersTakeWrites :
    (∃ (s : State) (r : Requester) (off : BitVec 16),
      let k := (s.dev.req r).key off.toNat
      s.running ∧ off.toNat % 4 = 0 ∧ off.toNat < 0xC000 ∧ (r = .host ∨ off.toNat < 0x1000 ∨ 0x2000 ≤ off.toNat) ∧
      selFields off.toNat = [] ∧ off.toNat ≠ 0x28 ∧ fieldsAt k ≠ [] ∧ rwKey k = false ∧
      (¬ (0x4C04 ≤ off.toNat ∧ off.toNat ≤ 0x4C28 ∧ (s.dev.req r).working = true)) ∧ (¬ (0x2000 ≤ k ∧ k < 0x2600))) ∧
    (∃ (s : State) (r : Requester) (off : BitVec 16),
      let k := (s.dev.req r).key off.toNat
      s.running ∧ off.toNat % 4 = 0 ∧ off.toNat < 0xC000 ∧ (r = .host ∨ off.toNat < 0x1000 ∨ 0x2000 ≤ off.toNat) ∧
      selFields off.toNat = [] ∧ off.toNat ≠ 0x28 ∧ fieldsAt k ≠ [] ∧ rwKey k = false ∧
      (¬ (0x4C04 ≤ off.toNat ∧ off.toNat ≤ 0x4C28 ∧ (s.dev.req r).working = true)) ∧ (¬ (0x2000 ≤ k ∧ k < 0x2600))) ∧
    (∃ (s : State) (r : Requester) (off : BitVec 16),
      let k := (s.dev.req r).key off.toNat
      s.running ∧ off.toNat % 4 = 0 ∧ off.toNat < 0xC000 ∧ (r = .host ∨ off.toNat < 0x1000 ∨ 0x2000 ≤ off.toNat) ∧
      selFields off.toNat = [] ∧ off.toNat ≠ 0x28 ∧ fieldsAt k ≠ [] ∧ rwKey k = false ∧
      (¬ (0x4C04 ≤ off.toNat ∧ off.toNat ≤ 0x4C28 ∧ (s.dev.req r).working = true)) ∧ (¬ (0x2000 ≤ k ∧ k < 0x2600))) ∧
    (∃ (s : State) (r : Requester) (off : BitVec 16) (v : Word),
      s.running ∧ off.toNat % 4 = 0 ∧ off.toNat < 0xC000 ∧ (r = .host ∨ off.toNat < 0x1000 ∨ 0x2000 ≤ off.toNat) ∧
      selFields off.toNat ≠ [] ∧ fieldsOk (selFields off.toNat) v = true ∧ NMap.wf zeroWord (s.dev.req r).sel = true) ∧
    (∃ (s : State) (off : BitVec 16),
      s.running ∧ off.toNat % 4 ≠ 0) ∧
    (∃ (s : State) (r : Requester) (off : BitVec 16),
      s.running ∧ off.toNat % 4 = 0 ∧ off.toNat < 0xC000 ∧ (r = .host ∨ off.toNat < 0x1000 ∨ 0x2000 ≤ off.toNat) ∧
      selFields off.toNat = [] ∧ off.toNat = 0x28) ∧
    (∃ (s : State) (r : Requester) (off : BitVec 16),
      s.running ∧ off.toNat % 4 = 0 ∧ off.toNat < 0xC000 ∧ (r = .host ∨ off.toNat < 0x1000 ∨ 0x2000 ≤ off.toNat) ∧
      selFields off.toNat = [] ∧ off.toNat ≠ 0x28 ∧ fieldsAt ((s.dev.req r).key off.toNat) = []) ∧
    (∃ (s : State) (off : BitVec 16) (ws : List Word) (env : Outside),
      s.running ∧ 1 ≤ ws.length ∧ ws.length ≤ 64 ∧
      let u := s.mgtWords off.toNat ws env
      u.running) ∧
    (∃ (s : State) (off : BitVec 16) (ws : List Word) (env : Outside),
      s.running ∧ 1 ≤ ws.length ∧ ws.length ≤ 64 ∧
      let u := s.mgtWords off.toNat ws env
      u.running) ∧
    (∃ (s : State) (off : BitVec 16) (ws : List Word) (env : Outside),
      s.running ∧ 1 ≤ ws.length ∧ ws.length ≤ 64 ∧
      let u := s.mgtWords off.toNat ws env
      (¬ u.running)) ∧
    (∃ (s : State) (b : List Byte),
      s.running ∧
      let n := (b.getD 3 0).toNat
      (b.getD 0 0 ≠ 0x02 ∨ b.length ≠ 6 + 4 * n ∨ n = 0 ∨ 64 < n)) ∧
    (∃ (s : State) (b : List Byte),
      s.running ∧
      let n := (b.getD 3 0).toNat
      b.getD 0 0 = 0x02 ∧ b.length = 6 + 4 * n ∧ 1 ≤ n ∧ n ≤ 64 ∧
      crc16 (b.take (4 + 4 * n)) ≠ (b.getD (4 + 4 * n) 0).toNat * 256 + (b.getD (5 + 4 * n) 0).toNat) ∧
    (∃ (s : State) (off : BitVec 16),
      s.running ∧ off.toNat % 8 = 0) ∧
    (∃ (s : State) (off : BitVec 16),
      s.running ∧ s.dev.linkOk = false ∧ off.toNat < 0x400 ∧ off.toNat % 4 = 0 ∧
      NMap.wf bar4Reset s.dev.host.bar4 = true) ∧
    (∃ (s : State) (off : BitVec 16),
      s.running ∧ s.dev.linkOk = false ∧ off.toNat < 0x400 ∧ off.toNat % 4 = 0 ∧
      NMap.wf bar4Reset s.dev.host.bar4 = true) := by
  refine ⟨⟨run, .host, 0x3020, ?_⟩,
    ⟨up, .mgt, 0x0030, ?_⟩,
    ⟨run, .host, 0xA00C, ?_⟩,
    ⟨run, .mgt, 0x2600, 47, ?_⟩,
    ⟨run, 0xFFFF, ?_⟩,
    ⟨run, .host, 0x28, ?_⟩,
    ⟨run, .host, 0xBFFC, ?_⟩,
    ⟨run, 0x3020, [1], {}, ?_⟩,
    ⟨run, 0xBFFC, [1, 2], {}, ?_⟩,
    ⟨run, 0x28, [0x0000A5C3], {}, ?_⟩,
    ⟨run, [], ?_⟩,
    ⟨run, [2, 0, 0, 1, 0, 0, 0, 0, 0, 0], ?_⟩,
    ⟨run, 0x3F8, ?_⟩,
    ⟨run, 0, ?_⟩,
    ⟨run, 0x3FC, ?_⟩⟩ <;> dsimp only [State.running] <;> decide +kernel

/-- The hypotheses of RegistersRead can be met. -/
theorem witness_RegistersRead :
    (∃ (s : State) (r : Requester) (off : BitVec 16) (v : Nat),
      let q := { s.dev.req r with rdata := [] }
      s.running ∧ off.toNat % 4 = 0 ∧ s.dev.wide s.cfg q off.toNat = some v ∧ NMap.wf zeroWord q.latch = true) ∧
    (∃ (s : State) (r : Requester) (off : BitVec 16) (v : Nat),
      let q := { s.dev.req r with rdata := [] }
      s.running ∧ off.toNat % 4 = 0 ∧ s.dev.wide s.cfg q off.toNat = none ∧
      s.dev.wide s.cfg q (off.toNat - 4) = some v ∧ q.latched (0x10000 + off.toNat) = 1) ∧
    (∃ (s : State) (r : Requester) (off : BitVec 16) (ws : List Word),
      let q := { s.dev.req r with rdata := [] }
      s.running ∧ off.toNat ∈ [0xA544, 0xA830, 0xA850, 0xB060] ∧ s.dev.snapshot q off.toNat = some ws ∧
      NMap.wf zeroWord q.latch = true) ∧
    (∃ (s : State) (off : BitVec 16) (n : Nat),
      s.running ∧ off.toNat % 4 = 0 ∧ 1 ≤ n ∧ n ≤ 64) ∧
    (∃ (s : State) (off : BitVec 16) (n : Nat),
      s.running ∧ off.toNat % 4 = 0 ∧ 1 ≤ n ∧ n ≤ 64) := by
  refine ⟨⟨run, .host, 0x0800, run.dev.tt, ?_⟩,
    ⟨dv run (Dev.modReq .host (fun q => { q with latch := [(0x804, 7), (0x10804, 1)] })), .host, 0x0804, run.dev.tt, ?_⟩,
    ⟨run, .host, 0xA830, words8 run.dev.twin.ownHdr, ?_⟩,
    ⟨run, 0xBFFC, 64, ?_⟩,
    ⟨run, 0, 1, ?_⟩⟩ <;> dsimp only [State.running] <;> decide +kernel

/-- The hypotheses of ReadersKeepApart can be met. -/
theorem witness_ReadersKeepApart :
    (∃ (r r' : Requester),
      r' ≠ r) ∧
    (∃ (r r' : Requester),
      r' ≠ r ∧ r = .mgt) := by
  refine ⟨⟨.host, .mgt, ?_⟩,
    ⟨.mgt, .host, ?_⟩⟩ <;> decide +kernel

/-- The hypotheses of SealsAndUnseals can be met. -/
theorem witness_SealsAndUnseals :
    (∃ (s : State),
      s.running ∧ s.dev.isSealed = false ∧ s.dev.judging = false) ∧
    (∃ (s : State),
      s.running ∧ s.dev.su.sealing = true ∧
      let y := s.dev.untilTT s.cfg (s.dev.nextMultiple 200000)
      y.su = s.dev.su ∧ y.atMultiple 200000 = true) ∧
    (∃ (s : State),
      s.running ∧ s.dev.isSealed = true ∧ s.dev.judging = false) ∧
    (∃ (s : State),
      s.running ∧ s.dev.su.unsealing = true ∧
      let y := s.dev.untilTT s.cfg (s.dev.nextMultiple 25000)
      y.su = s.dev.su ∧ y.atMultiple 25000 = true ∧ y.unsealBusy s.cfg = none) ∧
    (∃ (s : State) (c : Nat),
      s.running ∧ s.dev.autoSealAt s.cfg = some c ∧
      let y := s.dev.untilCyc s.cfg c
      let z := y.untilTT s.cfg (y.nextMultiple 25000)
      z.autoSealAt s.cfg = some c ∧ c ≤ z.time.cyc ∧ z.isSealed = false ∧ z.judging = false ∧ z.judgeSeal s.cfg = none) := by
  refine ⟨⟨run, ?_⟩,
    ⟨dv run (Dev.modSu (fun u => { u with sealing := true })), ?_⟩,
    ⟨up, ?_⟩,
    ⟨dv up (Dev.modSu (fun u => { u with unsealing := true })), ?_⟩,
    ⟨dv run (fun x => { x with img := { x.img with loadedAt := some 0 } }), 200000 * (Memory.maxCeil [] + 1), ?_⟩⟩ <;> dsimp only [State.running] <;> decide +kernel

/-- The hypotheses of ImagesPowerAndSleep can be met. -/
theorem witness_ImagesPowerAndSleep :
    (∃ (s : State),
      s.running ∧ s.dev.isSealed = false ∧ s.dev.img.saving = none) ∧
    (∃ (s : State) (m : Image),
      s.running ∧ s.dev.img.saving = some m) ∧
    (∃ (s : State),
      s.running ∧ s.dev.keeper.pfWarn = false ∧ s.dev.cairn.st = .running) ∧
    (∃ (s : State),
      s.running ∧ s.dev.keeper.pfWarn = true ∧ s.dev.cairn.pf = true ∧ s.dev.cairn.st = .stopped ∧
      s.dev.cairn.queue = []) := by
  refine ⟨⟨run, ?_⟩,
    ⟨dv run (fun x => { x with img := { x.img with saving := some img0 } }), img0, ?_⟩,
    ⟨logs run, ?_⟩,
    ⟨dv run (fun x => { x with keeper := { x.keeper with pfWarn := true }, cairn := { x.cairn with st := .stopped, pf := true } }), ?_⟩⟩ <;> dsimp only [State.running] <;> decide +kernel

/-- The hypotheses of ResetsAndWakes can be met. -/
theorem witness_ResetsAndWakes :
    (∃ (s : State),
      s.running) ∧
    (∃ (s : State),
      s.running ∧ s.dev.isSealed = false) ∧
    (∃ (c : Nat),
      c ≠ 1) ∧
    (∃ (s : State),
      s.dev.keeper.phase = .asleep ∧ s.cfg.wakeTimer ≠ 0) ∧
    (∃ (s : State),
      s.dev.keeper.phase = .asleep ∧ s.cfg.wakePerst = true) ∧
    (∃ (s : State) (c : ChanId),
      s.dev.keeper.phase = .asleep ∧ (s.dev.ch c).mode = .asleep ∧ s.cfg.wakeMode c.val = 1) ∧
    (∃ (s : State) (c : ChanId) (f : CanFrame),
      s.dev.keeper.phase = .asleep ∧ (s.dev.ch c).mode = .asleep ∧ s.cfg.wakeMode c.val = 2 ∧
      s.cfg.isWake c.val f = true) ∧
    (∃ (s : State) (c : ChanId),
      s.running ∧ (s.dev.ch c).mode = .asleep ∧ s.cfg.wakeMode c.val = 1) ∧
    (∃ (s : State) (c : ChanId) (f : CanFrame),
      s.running ∧ (s.dev.ch c).mode = .asleep ∧ s.cfg.wakeMode c.val = 2 ∧ s.cfg.isWake c.val f = true) ∧
    (∃ (s : State),
      s.dev.keeper.phase = .inReset ∧ s.dev.isSealed = false) := by
  refine ⟨⟨run, ?_⟩,
    ⟨run, ?_⟩,
    ⟨3, ?_⟩,
    ⟨rg (dozing run) [(0xB814, 1)], ?_⟩,
    ⟨rg (dozing run) [(0xB818, 1)], ?_⟩,
    ⟨rg (dozing (ch0 run (fun v => { v with mode := .asleep }))) [(0x8000, 0x10002)], 0, ?_⟩,
    ⟨rg (dozing (ch0 run (fun v => { v with mode := .asleep }))) [(0x8000, 0x20002)], 0, fr, ?_⟩,
    ⟨rg (ch0 run (fun v => { v with mode := .asleep })) [(0x8000, 0x10002)], 0, ?_⟩,
    ⟨rg (ch0 run (fun v => { v with mode := .asleep })) [(0x8000, 0x20002)], 0, fr, ?_⟩,
    ⟨dv run (fun x => { x with keeper := { x.keeper with phase := .inReset } }), ?_⟩⟩ <;> (try dsimp only [State.running]) <;> decide +kernel

/-- The hypotheses of ClearingWrites can be met. -/
theorem witness_ClearingWrites :
    (∃ (s : State),
      s.running ∧ s.cfg.followerConfigured = true) ∧
    (∃ (s : State),
      s.running ∧ s.cfg.followerConfigured = false) ∧
    (∃ (s : State),
      s.running ∧ s.dev.gate.loopFault.get 0 = true ∧
      (∀ j : Fin 4, j.val < 2 → (s.dev.sout j).cmd = false ∧ (s.dev.sout j).readback = false)) ∧
    (∃ (s : State) (a : AxisId),
      s.running ∧
      let x := s.dev
      let p := (x.ax a).port
      p.fltLatched = true) ∧
    (∃ (s : State) (a : AxisId),
      s.running ∧
      let K := s.cfg
      let x := s.dev
      let p := (x.ax a).port
      p.ocLatched = true ∧ x.overNow K a = false) ∧
    (∃ (s : State) (a : AxisId),
      s.running ∧
      let K := s.cfg
      let x := s.dev
      let p := (x.ax a).port
      p.fbLatched = true ∧
      (K.followEn a.val = true → K.fbErrLimit (K.followPort a.val).val ≤ (x.ax (K.followPort a.val)).port.fbQuiet) ∧
      (K.followEn a.val = false ∨ K.axKind a.val = 1 → K.fbErrLimit a.val ≤ p.fbQuiet)) ∧
    (∃ (s : State),
      s.running) ∧
    (∃ (s : State) (a : AxisId),
      s.running ∧
      let x := s.dev
      (x.ax a).eng.feLatched = true) ∧
    (∃ (s : State) (a : AxisId),
      s.running ∧
      let K := s.cfg
      let x := s.dev
      (x.ax a).fol.out = true ∧ x.axisRank K a ≤ 2 ∧ K.followEn a.val = true) ∧
    (∃ (x : Dev),
      x.twin.summit ≠ .demoted) ∧
    (∃ (s : State),
      s.running ∧ s.dev.isSealed = false ∧ s.dev.cairn.st = .failed ∧ s.dev.cairn.pf = false ∧ s.dev.cairn.queue = []) ∧
    (∃ (s : State),
      s.running ∧ s.dev.isSealed = true) := by
  refine ⟨⟨rg run [(0x8000, 0x4153), (0x8040, 0x32)], ?_⟩,
    ⟨run, ?_⟩,
    ⟨dv run (fun x => { x with gate := { x.gate with loopFault := x.gate.loopFault.set 0 true } }), ?_⟩,
    ⟨prt run (fun p => { p with fltLatched := true }), 0, ?_⟩,
    ⟨prt run (fun p => { p with ocLatched := true }), 0, ?_⟩,
    ⟨prt run (fun p => { p with fbLatched := true, fbQuiet := 31 }), 0, ?_⟩,
    ⟨ax0 run (fun v => { v with eng := { v.eng with lateLatched := true } }), ?_⟩,
    ⟨ax0 run (fun v => { v with eng := { v.eng with feLatched := true } }), 0, ?_⟩,
    ⟨rg (ax0 run (fun v => { v with fol := { v.fol with out := true } })) [(0x4D00, 1)], 0, ?_⟩,
    ⟨run.dev, ?_⟩,
    ⟨dv run (fun x => { x with cairn := { x.cairn with st := .failed } }), ?_⟩,
    ⟨up, ?_⟩⟩ <;> (try dsimp only [State.running]) <;> decide +kernel

/-- The hypotheses of AxisEvents can be met. -/
theorem witness_AxisEvents :
    (∃ (s : State) (a : AxisId),
      s.running ∧ (s.dev.ax a).still = false ∧ (s.dev.ax a).noMove = true ∧
      max 1 (s.cfg.stillTime a.val) ≤ (s.dev.ax a).stillCnt) ∧
    (∃ (s : State) (a : AxisId),
      s.running ∧ max 1 (s.cfg.feTime a.val) * 100 ≤ (s.dev.ax a).eng.feAcc) ∧
    (∃ (s : State) (a : AxisId) (neg : Bool),
      s.running ∧ s.dev.limit s.cfg a neg = true ∧ 0 < (s.dev.ax a).gen.v ∧
      (s.dev.ax a).gen.dir = (if neg then -1 else 1) ∧
      (if neg then (s.dev.ax a).limNeg else (s.dev.ax a).limPos) = false) ∧
    (∃ (s : State) (a : AxisId) (j : Inj) (n : Nat),
      s.running ∧ (s.dev.ax a).eng.inj = some j ∧ injTotal (s.cfg.periodCode a.val) j.ops.form = some n ∧ n ≤ j.n) ∧
    (∃ (s : State) (a : AxisId) (j : Inj),
      s.running ∧ (s.dev.ax a).eng.inj = some j ∧
      (∀ n, injTotal (s.cfg.periodCode a.val) j.ops.form = some n → j.n < n) ∧ j.stop = true) ∧
    (∃ (s : State) (u : Fin 4) (o : CapOps) (h : Hdr) (r : List Byte) (more : List (List Byte)),
      s.running ∧ (s.dev.capu u).tails = [] ∧ (s.dev.capu u).ops = some (o, h) ∧ (s.dev.capu u).staged = r :: more ∧
      s.dev.entryRoom s.cfg o.atoll = true ∧ s.dev.writeTurn s.cfg o.atoll = true) ∧
    (∃ (s : State) (u : Fin 4) (c : CapTail) (rest : List CapTail),
      s.running ∧ (s.dev.capu u).tails = c :: rest ∧ c.staged = []) ∧
    (∃ (s : State) (a : AxisId) (o : RefArmOps) (rising : Bool),
      s.running ∧ (s.dev.ax a).refArm = some o ∧ (s.dev.ax a).refLatch = none ∧
      let v := s.dev.ax a
      o.deassert = rising) ∧
    (∃ (s : State) (a : AxisId) (o : RefArmOps) (rising : Bool),
      s.running ∧ (s.dev.ax a).refArm = some o ∧ (s.dev.ax a).refLatch = none ∧
      let v := s.dev.ax a
      o.deassert = !rising ∧ o.src = .index ∧ v.port.wireBreak.getLsbD 2 = false ∧
      (s.cfg.idxGate a.val = false ∨ (v.port.aLvl && v.port.bLvl) = true)) ∧
    (∃ (s : State) (a : AxisId) (o : RefArmOps) (rising : Bool),
      s.running ∧ (s.dev.ax a).refArm = some o ∧ (s.dev.ax a).refLatch = none ∧
      let v := s.dev.ax a
      o.deassert = !rising ∧ o.src = .zswitch ∧ v.port.wireBreak.getLsbD 2 = false) ∧
    (∃ (s : State) (a : AxisId) (o : RefArmOps) (rising : Bool) (i : InId) (p : Int),
      s.running ∧ (s.dev.ax a).refArm = some o ∧ (s.dev.ax a).refLatch = none ∧
      let v := s.dev.ax a
      o.deassert = !rising ∧ o.src = .field i ∧ (s.dev.inPin i).lvl = rising ∧
      (s.dev.inPin i).latchPos[a.val]? = some p) ∧
    (∃ (s : State) (a : AxisId) (o : RefArmOps) (pl : Int),
      let y := s.dev.toPeriod s.cfg a
      s.running ∧ (s.dev.ax a).refLatch.isSome = true ∧ (y.ax a).refArm = some o ∧ (y.ax a).refLatch = some pl ∧
      o.stop = false ∧ (y.ax a).idxFix = []) := by
  refine ⟨⟨ax0 up (fun v => { v with still := false, stillCnt := 255 }), 0, ?_⟩,
    ⟨ax0 up (fun v => { v with eng := { v.eng with feAcc := 6553600 } }), 0, ?_⟩,
    ⟨rg (pins (ax0 up (fun v => { v with gen := { v.gen with v := 1, dir := 1 } }))) [(0x405C, 0x7F00)], 0, false, ?_⟩,
    ⟨rg (ax0 up (fun v => { v with eng := { v.eng with inj := some { inj0 with n := 1 } } })) [(0x5100, 0x1D29)], 0, { inj0 with n := 1 }, 1, ?_⟩,
    ⟨ax0 up (fun v => { v with eng := { v.eng with inj := some { inj0 with stop := true } } }), 0, { inj0 with stop := true }, ?_⟩,
    ⟨cap0 (rg (link (dv up (Dev.modAtl 1 (fun a => { a with st := .running })))) [(0x2020, 0x08000003)]) (fun v => { v with ops := some (⟨0, 1, 1, .count 1, [0]⟩, hd), staged := [List.replicate 48 0] }), 0, ⟨0, 1, 1, .count 1, [0]⟩, hd, List.replicate 48 0, [], ?_⟩,
    ⟨cap0 up (fun v => { v with tails := [⟨1, [], hd, 0⟩] }), 0, ⟨1, [], hd, 0⟩, [], ?_⟩,
    ⟨armed up .index, 0, ⟨5, .index, false, false⟩, false, ?_⟩,
    ⟨armed up .index, 0, ⟨5, .index, false, false⟩, true, ?_⟩,
    ⟨armed up .zswitch, 0, ⟨5, .zswitch, false, false⟩, true, ?_⟩,
    ⟨dv (armed up (.field 0)) (Dev.modIn 0 (fun p => { p with lvl := true, latchPos := List.replicate 24 7 })), 0, ⟨5, .field 0, false, false⟩, true, 0, 7, ?_⟩,
    ⟨ax0 (armed up .index) (fun v => { v with refLatch := some 9 }), 0, ⟨5, .index, false, false⟩, 9, ?_⟩⟩
  · dsimp only [State.running]; decide +kernel
  · dsimp only [State.running]; decide +kernel
  · dsimp only [State.running]; decide +kernel
  · dsimp only [State.running]; decide +kernel
  · exact ⟨rfl, rfl, fun n h => by cases h; exact Nat.one_pos, rfl⟩
  · dsimp only [State.running]; decide +kernel
  · dsimp only [State.running]; decide +kernel
  · dsimp only [State.running]; decide +kernel
  · dsimp only [State.running]; decide +kernel
  · dsimp only [State.running]; decide +kernel
  · dsimp only [State.running]; decide +kernel
  · dsimp only [State.running]; decide +kernel

/-- The hypotheses of FramesAndDeadlines can be met. -/
theorem witness_FramesAndDeadlines :
    (∃ (s : State) (a : AxisId) (v : EngSave),
      let y := (s.dev.unRetrigger s.cfg).toDeadline s.cfg a
      s.running ∧ (s.dev.ax a).eng.save.isSome = true ∧ (y.ax a).eng.save = some v) ∧
    (∃ (s : State) (a : AxisId),
      s.running ∧ (s.dev.ax a).eng.overDue = true) ∧
    (∃ (s : State) (a : AxisId) (p : PredSave),
      let y := s.dev.toDeadline s.cfg a
      s.running ∧ s.dev.predicts a = true ∧ (y.ax a).eng.f8 ≠ none ∧ (y.ax a).eng.predSave = some p) ∧
    (∃ (s : State) (d : DoorId),
      s.running ∧ (s.dev.dw d).predLive = true ∧
      (∀ l ∈ s.cfg.leaves d.val, s.cfg.axKind l.2.val = 1 → s.cfg.predHold d.val ≤ (s.dev.ax l.2).eng.predQuiet)) ∧
    (∃ (s : State) (a : AxisId),
      s.running ∧ (∀ d i, s.cfg.owner a = some (d, i) → s.dev.allowance s.cfg d a = false)) ∧
    (∃ (s : State) (d : DoorId) (p : Detection),
      let z := s.dev.doorStart s.cfg d
      s.running ∧ s.dev.doorIn s.cfg d (s.dev.dw d).st ∧ (s.dev.dw d).st ≠ .disabled ∧
      (s.dev.detection s.cfg d).isSome = true ∧ z.detection s.cfg d = some p ∧ z.upperRow s.cfg d = none) ∧
    (∃ (s : State) (d : DoorId) (p : Detection) (r : Row),
      let z := s.dev.doorStart s.cfg d
      s.running ∧ s.dev.doorIn s.cfg d (s.dev.dw d).st ∧ (s.dev.dw d).st ≠ .disabled ∧
      (s.dev.detection s.cfg d).isSome = true ∧ z.detection s.cfg d = some p ∧ z.upperRow s.cfg d = some r ∧
      z.detection s.cfg d = (z.stopOpening s.cfg d).detection s.cfg d) ∧
    (∃ (s : State) (p : Fin 4),
      let q := s.dev.gate.pairs.get p
      let y := s.dev.untilFrame s.cfg (s.dev.time.frames + (1000 * s.cfg.discTime p.val - q.timer + 24) / 25)
      s.running ∧ q.fault = false ∧ (p = 3 → s.cfg.zs2En = true) ∧
      (s.dev.pairIn s.cfg p).1 ≠ (s.dev.pairIn s.cfg p).2 ∧ (y.pairIn s.cfg p).1 ≠ (y.pairIn s.cfg p).2 ∧
      (y.gate.pairs.get p).fault = false) := by
  refine ⟨⟨miss0, 0, ⟨{}, 0, Vector.replicate 4 {}, 0, 0, 0, 0, 0, none, 0, 0⟩, ?_⟩,
    ⟨ax0 servo (fun v => { v with eng := { v.eng with overDue := true } }), 0, ?_⟩,
    ⟨ax0 servo (fun v => { v with eng := { v.eng with f8 := some 5, predSave := some ⟨0, 0, .idle, 0, 0, 0, false, 0, false⟩ } }), 0, ⟨0, 0, .idle, 0, 0, 0, false, 0, false⟩, ?_⟩,
    ⟨dv up (Dev.modDw 0 (fun w => { w with predLive := true })), 0, ?_⟩,
    ⟨up, 0, ?_⟩,
    ⟨rg (pins (door up (fun w => { w with st := .closing }))) [(0x3020, 5), (0x3028, 0x7F7F7F)], 0, { leaf2 := false, cause := .edge, r := 0, e := 0, k := 0, p1 := 0, p2 := 0 }, ?_⟩,
    ⟨rg (pins (door up (fun w => { w with st := .closing }))) [(0x3020, 5), (0x3028, 0x7F7F7F), (0x302C, 0x7F7F017F)], 0, { leaf2 := false, cause := .edge, r := 0, e := 0, k := 0, p1 := 0, p2 := 0 }, { st := .egress }, ?_⟩,
    ⟨dv up (Dev.modSin 0 (fun p => { p with pin := { p.pin with lvl := true, unknown := false } })), 0, ?_⟩⟩
  · exact ⟨rfl, by decide +kernel, by decide +kernel⟩
  · dsimp only [State.running, Dev.doorIn]; decide +kernel
  · dsimp only [State.running, Dev.doorIn]; decide +kernel
  · dsimp only [State.running, Dev.doorIn]; decide +kernel
  · exact ⟨rfl, fun d i h => by cases h⟩
  · dsimp only [State.running, Dev.doorIn]; decide +kernel
  · dsimp only [State.running, Dev.doorIn]; decide +kernel
  · dsimp only [State.running, Dev.doorIn]; decide +kernel

/-- The hypotheses of PortEvents can be met. -/
theorem witness_PortEvents :
    (∃ (s : State) (a : AxisId) (low : Nat),
      s.running ∧ s.cfg.fltEn a.val = true ∧ s.cfg.fltFilt a.val + 1 ≤ low) ∧
    (∃ (s : State) (a : AxisId) (ch : Fin 3) (pins : BitVec 4),
      let y := s.dev.advance s.cfg 1
      let c := y.sdCfg s.cfg a
      let top := y.sdTop s.cfg a 0
      let r := ((y.ax a).port.sd.get ch).tick c ((y.ax a).port.sdClock c top (y.sdTick s.cfg a 0) pins).2 top (pins.getLsbD ch.val)
      s.running ∧ s.cfg.sdEn a.val ch.val = true ∧ r.out.isSome = true ∧ r.ch.ocRun = c.trip) ∧
    (∃ (s : State) (a : AxisId) (ch : Fin 3) (pins : List (BitVec 4)),
      let y := (s.dev.advance s.cfg pins.length).sdTake s.cfg a pins
      s.running ∧ s.cfg.sdEn a.val ch.val = true ∧ ((y.ax a).port.sd.get ch).lost = true) ∧
    (∃ (s : State) (a : AxisId) (ch : Fin 3) (pins : List (BitVec 4)),
      let y := (s.dev.advance s.cfg pins.length).sdTake s.cfg a pins
      s.running ∧ s.cfg.sdEn a.val ch.val = true ∧ ((y.ax a).port.sd.get ch).lost = false) ∧
    (∃ (s : State) (a : AxisId),
      let p := (s.dev.ax a).port
      s.running ∧ s.cfg.fbMode a.val = 1 ∧ p.wireBreak.getLsbD 0 = false ∧ p.wireBreak.getLsbD 1 = false) ∧
    (∃ (s : State) (a : AxisId) (hiA hiB : Bool),
      s.running ∧ s.cfg.fbMode a.val = 1 ∧ (s.dev.ax a).port.wireBreak.getLsbD 2 = false ∧
      (s.cfg.idxGate a.val = false ∨ (hiA && hiB) = true)) ∧
    (∃ (s : State) (a : AxisId),
      s.running ∧ s.cfg.fbMode a.val = 2 ∧ s.dev.isSealed = true ∧ (s.dev.ax a).port.wireBreak.getLsbD 0 = false ∧
      (s.dev.ax a).port.wireBreak.getLsbD 1 = false) ∧
    (∃ (s : State) (a : AxisId) (r : SsiResult),
      let y := s.dev.untilTT s.cfg (s.dev.ssiStart s.cfg a)
      let p := (y.ax a).port
      s.running ∧ s.cfg.fbMode a.val = 4 ∧ p.wireBreak.getLsbD 0 = false ∧ p.wireBreak.getLsbD 1 = false ∧
      r.idleHigh = true ∧ (s.cfg.ssiTrail a.val = true → r.trailLow = true) ∧ y.ssiInTime s.cfg a r = true ∧
      p.ssiPrev = none ∧ s.cfg.ssiGray a.val = false) ∧
    (∃ (s : State) (a : AxisId) (r : SsiResult),
      let y := s.dev.untilTT s.cfg (s.dev.ssiStart s.cfg a)
      let p := (y.ax a).port
      s.running ∧ s.cfg.fbMode a.val = 4 ∧ p.wireBreak.getLsbD 0 = false ∧ p.wireBreak.getLsbD 1 = false ∧
      r.idleHigh = false) ∧
    (∃ (s : State) (a : AxisId) (i : Fin 3),
      s.running ∧ (if i = 2 then s.cfg.fbMode a.val = 1 ∧ s.cfg.cpi a.val ≠ 0 else s.cfg.fbMode a.val ≠ 0)) ∧
    (∃ (s : State) (a : AxisId) (i : Fin 3),
      s.running ∧ (if i = 2 then s.cfg.fbMode a.val = 1 ∧ s.cfg.cpi a.val ≠ 0 else s.cfg.fbMode a.val ≠ 0)) ∧
    (∃ (s : State) (a : AxisId),
      s.running ∧ s.cfg.axKind a.val = 1 ∧ max 1 (s.cfg.fbErrLimit a.val) ≤ (s.dev.ax a).port.fbRun ∧
      s.dev.isOpen 0x0209 (objAxis a.val) = false) ∧
    (∃ (s : State) (a : AxisId) (l : Bool),
      let p := (s.dev.ax a).port
      s.running ∧ s.cfg.fbMode a.val = 1 ∧ p.wireBreak.getLsbD 0 = false ∧ p.aLvl ≠ l) := by
  refine ⟨⟨rg up [(0x6000, 0x09C40020)], 0, 1, ?_⟩,
    ⟨rg (prt up (fun p => { p with sd := p.sd.set 0 { bits := List.replicate 47 true, cnt := 15, since := 100 } })) [(0x6008, 0x10143), (0x600C, 0x01000001)], 0, 0, 1, ?_⟩,
    ⟨rg (prt up (fun p => { p with sd := p.sd.set 0 { lost := true } })) [(0x6008, 0x10143), (0x600C, 0x01000001)], 0, 0, [], ?_⟩,
    ⟨rg up [(0x6008, 0x10143), (0x600C, 0x01000001)], 0, 0, [], ?_⟩,
    ⟨rg up [(0x6010, 1)], 0, ?_⟩,
    ⟨rg up [(0x6010, 1)], 0, true, true, ?_⟩,
    ⟨rg up [(0x6010, 2), (0x4D10, 1)], 0, ?_⟩,
    ⟨rg up [(0x6010, 4), (0x6014, 0x12)], 0, ⟨true, 5, true, true⟩, ?_⟩,
    ⟨rg up [(0x6010, 4)], 0, ⟨false, 5, true, true⟩, ?_⟩,
    ⟨rg up [(0x6010, 1), (0x4074, 100)], 0, 2, ?_⟩,
    ⟨rg up [(0x6010, 4)], 0, 0, ?_⟩,
    ⟨rg (prt up (fun p => { p with fbRun := 31 })) [(0x5100, 0x1D29)], 0, ?_⟩,
    ⟨rg up [(0x6010, 1)], 0, true, ?_⟩⟩ <;> dsimp only [State.running] <;> decide +kernel

/-- The hypotheses of FieldSamples can be met. -/
theorem witness_FieldSamples :
    (∃ (v : Nat),
      11000 ≤ v) ∧
    (∃ (p : InPin) (ceil : Nat),
      0 < ceil ∧ p.unknown = false ∧ ceil ≤ p.cnt + 1) ∧
    (∃ (p : InPin) (ceil : Nat),
      0 < ceil ∧ p.unknown = false ∧ p.cnt ≤ 1) ∧
    (∃ (p : InPin) (ceil : Nat),
      0 < ceil ∧ p.unknown = false ∧ p.cnt + 1 < ceil) ∧
    (∃ (p : InPin) (ceil : Nat),
      0 < ceil ∧ p.unknown = false ∧ 2 ≤ p.cnt ∧ p.cnt ≤ ceil) ∧
    (∃ (s : State) (j : Fin 8),
      s.running ∧ 3 ≤ (s.dev.sin j).differ ∧ (s.dev.sin j).diag = false) ∧
    (∃ (s : State) (g : Fin 8) (c : Nat),
      let y := s.dev.untilCyc s.cfg (c + 200000 * s.cfg.supFilt g.val)
      s.running ∧ (s.dev.grp g).lowAt = some c ∧ (y.grp g).lowAt = some c ∧ (y.grp g).loss = false ∧
      c + 200000 * s.cfg.supFilt g.val ≤ y.time.cyc) ∧
    (∃ (s : State) (g : Fin 8) (c : Nat) (loss : Bool),
      let y := s.dev.untilCyc s.cfg (c + 200000 * s.cfg.supFilt g.val)
      s.running ∧ (if loss then (s.dev.grp g).lossOkAt else (s.dev.grp g).sagOkAt) = some c ∧
      (if loss then (y.grp g).lossOkAt else (y.grp g).sagOkAt) = some c ∧
      (if loss then (y.grp g).loss else (y.grp g).sag) = true ∧ c + 200000 * s.cfg.supFilt g.val ≤ y.time.cyc) ∧
    (∃ (s : State) (g : Fin 8) (c : Nat) (loss : Bool),
      let y := s.dev.untilCyc s.cfg (c + 200000 * s.cfg.supFilt g.val)
      s.running ∧ (if loss then (s.dev.grp g).lossOkAt else (s.dev.grp g).sagOkAt) = some c ∧
      (if loss then (y.grp g).lossOkAt else (y.grp g).sagOkAt) = some c ∧
      (if loss then (y.grp g).loss else (y.grp g).sag) = true ∧ c + 200000 * s.cfg.supFilt g.val ≤ y.time.cyc) ∧
    (∃ (v : Nat),
      v ≤ 5000) := by
  refine ⟨⟨11000, ?_⟩,
    ⟨{ unknown := false, cnt := 4 }, 5, ?_⟩,
    ⟨{ unknown := false, cnt := 1, lvl := true }, 5, ?_⟩,
    ⟨{ unknown := false, cnt := 3 }, 5, ?_⟩,
    ⟨{ unknown := false, cnt := 2, lvl := true }, 5, ?_⟩,
    ⟨dv up (Dev.modSin 7 (fun p => { p with differ := 3 })), 7, ?_⟩,
    ⟨dv up (Dev.modGrp 0 (fun g => { g with lowAt := some 0 })), 0, 0, ?_⟩,
    ⟨dv up (Dev.modGrp 0 (fun g => { g with loss := true, lossOkAt := some 0 })), 0, 0, true, ?_⟩,
    ⟨dv up (Dev.modGrp 0 (fun g => { g with sag := true, sagOkAt := some 0 })), 0, 0, false, ?_⟩,
    ⟨5000, ?_⟩⟩ <;> (try dsimp only [State.running]) <;> decide +kernel

/-- The hypotheses of OutputDiagnoses can be met. -/
theorem witness_OutputDiagnoses :
    (∃ (s : State) (o : OutId),
      let p := s.dev.outPin o
      s.running ∧ s.dev.holding = true ∧ 2000 ≤ p.timer ∧ p.reported = false ∧ p.readback ≠ p.cmd ∧
      p.overload = false ∧ p.cmd = true ∧ p.limitAt = none) ∧
    (∃ (s : State) (o : OutId),
      let p := s.dev.outPin o
      s.running ∧ s.dev.holding = true ∧ 2000 ≤ p.timer ∧ p.reported = false ∧ p.readback ≠ p.cmd ∧
      p.overload = false ∧ p.cmd = false) ∧
    (∃ (s : State) (j : Fin 4) (k : Fin 2),
      s.running ∧ s.dev.holding = true ∧ 2000 ≤ (s.dev.sout j).timer ∧ (s.dev.sout j).reported = false ∧
      (s.dev.sout j).readback ≠ (s.dev.sout j).cmd ∧ k.val = j.val / 2) ∧
    (∃ (s : State) (o : Fin 36),
      s.running ∧ s.dev.holding = false ∧ 2000 ≤ (s.dev.anyOut o).timer ∧ (s.dev.anyOut o).reported = false) ∧
    (∃ (s : State) (o : Fin 36),
      s.running ∧ s.dev.holding = false ∧ 2000 ≤ (s.dev.anyOut o).timer ∧ (s.dev.anyOut o).reported = false) ∧
    (∃ (s : State) (o : OutId),
      s.running ∧ s.dev.holding = true ∧ s.cfg.olEn o.val = true ∧ (s.dev.outPin o).cmd = true ∧
      50000 ≤ (s.dev.outPin o).lowLoad ∧ (s.dev.outPin o).openLoad = false) ∧
    (∃ (s : State) (o : Fin 36) (thermal : Bool),
      s.running ∧ s.dev.holding = true ∧ (s.dev.anyOut o).cmd = true ∧ (s.dev.anyOut o).overload = false ∧
      (thermal = true ∨ s.dev.limitOver s.cfg o = true)) ∧
    (∃ (s : State) (o : Fin 36) (thermal : Bool),
      s.running ∧ s.dev.holding = true ∧ (s.dev.anyOut o).cmd = true ∧ (s.dev.anyOut o).overload = false ∧
      (thermal = true ∨ s.dev.limitOver s.cfg o = true)) := by
  refine ⟨⟨out1 up (fun p => { p with cmd := true, timer := 2000 }), 0, ?_⟩,
    ⟨out1 up (fun p => { p with readback := true, timer := 2000 }), 0, ?_⟩,
    ⟨dv up (Dev.modSout 3 (fun p => { p with readback := true, timer := 2000 })), 3, 1, ?_⟩,
    ⟨dv pairB (Dev.modSout 3 (fun p => { p with timer := 2000 })), 35, ?_⟩,
    ⟨dv pairB (Dev.modOut 31 (fun p => { p with timer := 2000 })), 31, ?_⟩,
    ⟨rg (out1 up (fun p => { p with cmd := true, lowLoad := 50000 })) [(0x7090, 1)], 0, ?_⟩,
    ⟨out1 up (fun p => { p with cmd := true }), 0, true, ?_⟩,
    ⟨tm (out1 up (fun p => { p with cmd := true, limitAt := some 0 })) (fun t => { t with cyc := 51000000 }), 0, false, ?_⟩⟩ <;> dsimp only [State.running] <;> decide +kernel

/-- The hypotheses of TrainTimeEvents can be met. -/
theorem witness_TrainTimeEvents :
    (∃ (s : State) (c : ChanId),
      let i := s.cfg.syncInterval c.val
      let y := s.dev.untilTT s.cfg (if (s.dev.ch c).syncAt = some (s.dev.nextMultiple i) then s.dev.nextMultiple i + i else s.dev.nextMultiple i)
      s.running ∧ s.dev.mayMaster s.cfg c = true ∧ y.mayMaster s.cfg c = true ∧ y.atMultiple i = true ∧
      (y.ch c).syncAt ≠ some (y.multiple i) ∧ y.ownRoom = true) ∧
    (∃ (s : State) (c : ChanId) (h : SyncHalf),
      s.running ∧ (s.dev.ch c).sent = some h ∧ (s.dev.ch c).sentStep = false ∧ s.dev.isMaster s.cfg c = true ∧
      s.dev.ownRoom = true) ∧
    (∃ (s : State) (c : ChanId) (p : PairReady),
      s.running ∧ (s.dev.ch c).ready = some p ∧ s.cfg.timeRole c.val = 2 ∧ s.cfg.chEn c.val = true ∧
      s.cfg.sourceRank c.val = false ∧ s.dev.time.secondary = false) ∧
    (∃ (s : State) (c : ChanId) (p : PairReady),
      s.running ∧ (s.dev.ch c).ready = some p ∧ s.cfg.timeRole c.val = 2 ∧ s.cfg.chEn c.val = true ∧
      s.cfg.sourceRank c.val = false ∧ s.dev.time.secondary = false) ∧
    (∃ (s : State) (c : ChanId) (p : PairReady),
      s.running ∧ (s.dev.ch c).ready = some p ∧ s.cfg.timeRole c.val = 2 ∧ s.cfg.chEn c.val = true ∧
      s.cfg.sourceRank c.val = false ∧ s.dev.time.secondary = false) ∧
    (∃ (s : State) (e : Int),
      let y := s.dev.untilStep s.cfg (s.dev.nextMultiple 200000)
      s.running ∧ s.dev.time.setReq = none ∧ s.dev.time.step = some e ∧ y.time.setReq = none ∧ y.time.step = some e ∧
      y.sched.pend = [] ∧ y.twin.hand = .none ∧ y.time.frac < 2 ^ 32) ∧
    (∃ (s : State),
      s.running ∧ s.calm ∧ s.dev.time.state = .holdover ∧ s.dev.time.holdoverExpired = false ∧
      s.dev.time.holdoverAt + 200000000 * max 1 s.cfg.holdoverLim ≤ s.dev.time.cyc) ∧
    (∃ (s : State),
      s.running ∧ s.calm ∧ s.dev.time.anchorOp + 60000000 * max 1 s.cfg.anchorInt ≤ s.dev.optime ∧
      s.dev.cairn.st = .running ∧ s.dev.cairn.pf = false ∧ s.dev.cairn.queue.length < 512) ∧
    (∃ (s : State) (p q : ChanId),
      s.running ∧ s.calm ∧ s.cfg.follower false = some p ∧ s.cfg.follower true = some q ∧
      s.dev.time.secondary = false ∧ s.dev.silent s.cfg p = true ∧ s.dev.silent s.cfg q = false) ∧
    (∃ (s : State) (e : Int),
      let y := s.dev.untilStep s.cfg (s.dev.nextMultiple 200000)
      s.running ∧ s.dev.time.setReq = none ∧ s.dev.time.step = some e ∧ y.time.setReq = none ∧ y.time.step = some e ∧
      y.sched.pend = [] ∧ y.twin.hand = .none ∧ y.time.frac < 2 ^ 32) ∧
    (∃ (s : State),
      s.running ∧ s.calm ∧ s.cfg.followerConfigured = true ∧
      (s.dev.time.state = .acquiring ∨ s.dev.time.state = .locked) ∧
      (∀ c : ChanId, s.cfg.timeRole c.val = 2 → s.cfg.chEn c.val = true → s.dev.silent s.cfg c = true)) := by
  refine ⟨⟨master, 0, ?_⟩,
    ⟨ch0 master (fun v => { v with sent := some ⟨3, 0, 7⟩ }), 0, ⟨3, 0, 7⟩, ?_⟩,
    ⟨ch0 (follow .unset) (fun v => { v with ready := some ⟨5, false⟩ }), 0, ⟨5, false⟩, ?_⟩,
    ⟨ch0 (follow .locked) (fun v => { v with ready := some ⟨1000000, false⟩ }), 0, ⟨1000000, false⟩, ?_⟩,
    ⟨ch0 (follow .locked) (fun v => { v with ready := some ⟨-1999, false⟩ }), 0, ⟨-1999, false⟩, ?_⟩,
    ⟨tm up (fun t => { t with step := some (-3) }), -3, ?_⟩,
    ⟨rg (tm up (fun t => { t with state := .holdover, cyc := 200000000 * 65535 })) [], ?_⟩,
    ⟨dv (logs up) (fun x => { x with cairn := { x.cairn with opNs := 60000000 * 65535 * 1000 } }), ?_⟩,
    ⟨dv (rg (tm up (fun t => { t with cyc := 10000000000 })) [(0x8000, 0x4153), (0x8040, 0x32), (0x8400, 0x4153), (0x8440, 0x36)]) (Dev.modCh 1 (fun v => { v with pairAt := 10000000000 })), 0, 1, ?_⟩,
    ⟨tm (follow .locked) (fun t => { t with step := some 7, firstSync := true }), 7, ?_⟩,
    ⟨tm (follow .locked) (fun t => { t with cyc := 10000000000 }), ?_⟩⟩ <;> dsimp only [State.running, State.calm] <;> decide +kernel

/-- The hypotheses of BusFrames can be met. -/
theorem witness_BusFrames :
    (∃ (s : State) (c : ChanId) (f : CanFrame) (i : Nat),
      s.running ∧ (s.dev.ch c).mode = .running ∧ s.dev.fmtOn s.cfg c f.fmt = true ∧ s.cfg.selected c.val f = some i ∧
      (s.dev.ch c).staging = none ∧ (s.dev.ch c).recv ≤ 127) ∧
    (∃ (s : State) (c : ChanId) (f : CanFrame),
      s.running ∧ (s.dev.ch c).mode = .detect ∧ (s.dev.ch c).candAt.isSome = true ∧
      s.cfg.candFmt c.val (s.dev.ch c).cand f.fmt = true) ∧
    (∃ (s : State) (c : ChanId) (r : RxRec) (b : RxBuf),
      s.running ∧ (s.dev.ch c).staging = some r ∧
      (s.dev.ch c).bufs.find? (fun b => decide (32 + r.frame.data.length ≤ b.len)) = some b ∧ s.dev.linkOk = true ∧
      b.buf.pages = []) ∧
    (∃ (s : State) (c : ChanId) (q : TxFrame),
      s.running ∧ (s.dev.ch c).mode = .running ∧ (s.dev.ch c).att = none ∧ s.cfg.listenOnly c.val = false ∧
      bestFrame (s.dev.ch c).txq = some q) ∧
    (∃ (s : State) (c : ChanId) (q : TxFrame) (o : TxOutcome),
      s.running ∧ (s.dev.ch c).att = some q.hdr.uid ∧
      (s.dev.ch c).txq.find? (fun t => decide ((s.dev.ch c).att = some t.hdr.uid)) = some q ∧ o ≠ .sent ∧
      q.made ≤ q.limit ∧ q.cancel = none) ∧
    (∃ (s : State) (c : ChanId) (q : TxFrame) (o : TxOutcome),
      s.running ∧ (s.dev.ch c).att = some q.hdr.uid ∧
      (s.dev.ch c).txq.find? (fun t => decide ((s.dev.ch c).att = some t.hdr.uid)) = some q ∧ o ≠ .sent ∧
      (q.limit < q.made ∨ q.cancel.isSome = true)) ∧
    (∃ (s : State) (c : ChanId),
      s.running ∧ (s.dev.ch c).mode = .running ∧ s.cfg.listenOnly c.val = false ∧
      (∀ q ∈ (s.dev.ch c).txq, q.cancel = none) ∧ (s.dev.ch c).tec ≤ 255) ∧
    (∃ (s : State) (c : ChanId),
      s.running ∧ (s.dev.ch c).mode = .running ∧ s.cfg.listenOnly c.val = false ∧
      (∀ q ∈ (s.dev.ch c).txq, q.cancel = none) ∧ (s.dev.ch c).tec ≤ 255) ∧
    (∃ (s : State) (c : ChanId) (uid : Nat) (q : TxFrame),
      let y := s.dev.untilTT s.cfg q.deadline
      s.running ∧ (s.dev.ch c).txq.find? (fun t => decide (t.hdr.uid = uid)) = some q ∧
      (y.ch c).txq.find? (fun t => decide (t.hdr.uid = uid)) = some q ∧ q.lateRaised = false ∧ q.deadline ≤ y.tt) := by
  refine ⟨⟨rg bus [(0x8000, 1)], 0, fr, 255, ?_⟩,
    ⟨ch0 up (fun v => { v with mode := .detect, candAt := some 0 }), 0, fr, ?_⟩,
    ⟨ch0 (link bus) (fun v => { v with staging := some ⟨fr, 0, 0, false, 0, 0⟩, bufs := [⟨hd, ⟨64, []⟩, 64, 0⟩] }), 0, ⟨fr, 0, 0, false, 0, 0⟩, ⟨hd, ⟨64, []⟩, 64, 0⟩, ?_⟩,
    ⟨ch0 bus (fun v => { v with txq := [txf] }), 0, txf, ?_⟩,
    ⟨attempt txf, 0, txf, .lostArbitration, ?_⟩,
    ⟨attempt { txf with limit := 0, made := 1 }, 0, { txf with limit := 0, made := 1 }, .failed true, ?_⟩,
    ⟨rg (ch0 bus (fun v => { v with tec := 255, recv := 255 })) [(0x8000, 0x21)], 0, ?_⟩,
    ⟨rg (ch0 bus (fun v => { v with tec := 247, recv := 254 })) [(0x8000, 0x21)], 0, ?_⟩,
    ⟨ch0 bus (fun v => { v with txq := [{ txf with deadline := 5 }] }), 0, 0, { txf with deadline := 5 }, ?_⟩⟩ <;> dsimp only [State.running] <;> decide +kernel

/-- The hypotheses of ChannelEvents can be met. -/
theorem witness_ChannelEvents :
    (∃ (s : State) (c : ChanId),
      s.running ∧ (s.dev.ch c).mode = .integrating) ∧
    (∃ (s : State) (c : ChanId),
      s.running ∧ (s.dev.ch c).mode = .detect ∧ (s.dev.ch c).candAt = none) ∧
    (∃ (s : State) (c : ChanId) (xl : Bool),
      s.running ∧ (s.dev.ch c).mode = .running ∧ s.dev.fmtOn s.cfg c (if xl then .xl else .fd) = false ∧
      s.cfg.pexEn c.val = true) ∧
    (∃ (s : State) (c : ChanId) (xl : Bool),
      s.running ∧ (s.dev.ch c).mode = .running ∧ s.dev.fmtOn s.cfg c (if xl then .xl else .fd) = false ∧
      s.cfg.pexEn c.val = false) ∧
    (∃ (s : State) (c : ChanId),
      s.running ∧ (s.dev.ch c).mode = .recovering) ∧
    (∃ (s : State) (c : ChanId),
      let y := s.dev.untilCyc s.cfg ((s.dev.ch c).boffAt + 200000 * s.cfg.boffDelay c.val)
      s.running ∧ (s.dev.ch c).mode = .busOff ∧ s.cfg.boffAuto c.val = true ∧ (y.ch c).mode = .busOff ∧
      (y.ch c).boffAt + 200000 * s.cfg.boffDelay c.val ≤ y.time.cyc) ∧
    (∃ (s : State) (c : ChanId),
      s.running ∧ (s.dev.ch c).sleepReq ≠ [] ∧ (s.dev.ch c).mode ≠ .off ∧ (s.dev.ch c).att = none) ∧
    (∃ (s : State) (c : ChanId),
      let y := s.dev.untilCyc s.cfg ((s.dev.ch c).wakeAt + 10000)
      s.running ∧ (s.dev.ch c).mode = .waking ∧ (y.ch c).mode = .waking ∧ (y.ch c).wakeAt + 10000 ≤ y.time.cyc) ∧
    (∃ (s : State) (c : ChanId) (onError : Bool) (k e : Nat),
      let y := s.dev.untilCyc s.cfg (if onError then s.dev.time.cyc else k + 200000 * s.cfg.rateDwell c.val)
      s.running ∧ (s.dev.ch c).mode = .detect ∧ (s.dev.ch c).candAt = some k ∧ (y.ch c).mode = .detect ∧
      (y.ch c).candAt = some e ∧ (onError = true ∨ e + 200000 * s.cfg.rateDwell c.val ≤ y.time.cyc) ∧
      y.rateOver s.cfg c = false) ∧
    (∃ (s : State) (c : ChanId) (onError : Bool) (k e : Nat),
      let y := s.dev.untilCyc s.cfg (if onError then s.dev.time.cyc else k + 200000 * s.cfg.rateDwell c.val)
      s.running ∧ (s.dev.ch c).mode = .detect ∧ (s.dev.ch c).candAt = some k ∧ (y.ch c).mode = .detect ∧
      (y.ch c).candAt = some e ∧ (onError = true ∨ e + 200000 * s.cfg.rateDwell c.val ≤ y.time.cyc) ∧
      y.rateOver s.cfg c = true) ∧
    (∃ (s : State) (c : ChanId),
      s.running ∧ (s.dev.ch c).mode = .detect ∧ max 1 (s.cfg.rateConfirm c.val) ≤ (s.dev.ch c).good) ∧
    (∃ (s : State) (c : ChanId) (xl : Bool),
      s.running ∧ (s.dev.ch c).mode = .detect ∧ (s.dev.ch c).candAt.isSome = true ∧
      s.cfg.candFmt c.val (s.dev.ch c).cand (if xl then .xl else .fd) = false ∧ s.cfg.pexEn c.val = true) ∧
    (∃ (s : State) (c : ChanId) (xl : Bool),
      s.running ∧ (s.dev.ch c).mode = .detect ∧ (s.dev.ch c).candAt.isSome = true ∧
      s.cfg.candFmt c.val (s.dev.ch c).cand (if xl then .xl else .fd) = false ∧ s.cfg.pexEn c.val = false) := by
  refine ⟨⟨ch0 up (fun v => { v with mode := .integrating }), 0, ?_⟩,
    ⟨ch0 up (fun v => { v with mode := .detect }), 0, ?_⟩,
    ⟨rg bus [(0x8000, 0x41)], 0, false, ?_⟩,
    ⟨rg bus [(0x8000, 1)], 0, true, ?_⟩,
    ⟨ch0 up (fun v => { v with mode := .recovering }), 0, ?_⟩,
    ⟨rg (ch0 up (fun v => { v with mode := .busOff })) [(0x8000, 0x2001)], 0, ?_⟩,
    ⟨ch0 bus (fun v => { v with sleepReq := [some hd] }), 0, ?_⟩,
    ⟨ch0 up (fun v => { v with mode := .waking }), 0, ?_⟩,
    ⟨ch0 up (fun v => { v with mode := .detect, candAt := some 0 }), 0, true, 0, 0, ?_⟩,
    ⟨tm (rg (ch0 up (fun v => { v with mode := .detect, candAt := some 0 })) [(0x8034, 0x400111)]) (fun t => { t with cyc := 200000000 }), 0, false, 0, 0, ?_⟩,
    ⟨ch0 up (fun v => { v with mode := .detect, good := 15 }), 0, ?_⟩,
    ⟨rg (ch0 up (fun v => { v with mode := .detect, candAt := some 0 })) [(0x8000, 0x41), (0x8034, 0)], 0, true, ?_⟩,
    ⟨rg (ch0 up (fun v => { v with mode := .detect, candAt := some 0 })) [(0x8000, 1), (0x8034, 0)], 0, true, ?_⟩⟩ <;> dsimp only [State.running] <;> decide +kernel

/-- The hypotheses of PartnersAndService can be met. -/
theorem witness_PartnersAndService :
    (∃ (s : State) (i : Fin 256) (n m : Nat),
      let y := s.dev.untilTT s.cfg n
      s.running ∧ s.dev.beatDue s.cfg i = some n ∧ ((s.dev.ctx i).st = .new ∨ (s.dev.ctx i).st = .live) ∧
      ((y.ctx i).st = .new ∨ (y.ctx i).st = .live) ∧ y.beatDue s.cfg i = some m ∧ m ≤ y.tt ∧ y.isSealed = true) ∧
    (∃ (s : State) (i : Fin 256),
      let y := s.dev.untilTT s.cfg (s.dev.ageDue s.cfg i + 12)
      s.running ∧ (s.dev.ctx i).st ≠ .free ∧ (s.dev.ctx i).pinned = false ∧ (y.ctx i).st ≠ .free ∧
      (y.ctx i).pinned = false ∧ y.ageDue s.cfg i ≤ y.tt ∧ y.isSealed = true) ∧
    (∃ (s : State) (c : ChanId),
      s.running ∧ s.cfg.svcCh = some c ∧ s.dev.parts.svcBusy = [] ∧ s.dev.ownRoom = true) ∧
    (∃ (s : State) (c : ChanId) (count : Byte) (first : Word),
      s.running ∧ s.cfg.svcCh = some c ∧ s.dev.parts.svcBusy = [] ∧ 1 ≤ count.toNat ∧ count.toNat ≤ 64 ∧
      let r := s.dev.cairn
      let start := if seqBefore first.toNat r.oldest then r.oldest else first.toNat
      let n := min (if seqBefore r.headSeq start then 0 else (r.next + 2 ^ 32 - start) % 2 ^ 32) count.toNat
      s.dev.slots (fun s => !Src.isHost s && !Src.isRoute s) + n ≤ 256) := by
  refine ⟨⟨partner, 0, 1000000, 1000000, ?_⟩,
    ⟨partner, 0, ?_⟩,
    ⟨rg up [(0xB080, 0)], 0, ?_⟩,
    ⟨rg (logs up) [(0xB080, 0)], 0, 64, 0, ?_⟩⟩ <;> dsimp only [State.running] <;> decide +kernel

/-- The hypotheses of TwinEvents can be met. -/
theorem witness_TwinEvents :
    (∃ (s : State) (c : ChanId),
      let y := s.dev.untilTT s.cfg (if s.dev.twin.hbAt = some (s.dev.nextMultiple 1000000) then s.dev.nextMultiple 1000000 + 1000000 else s.dev.nextMultiple 1000000)
      s.running ∧ s.cfg.hbCh = some c ∧ s.dev.twin.en = true ∧ s.dev.isSealed = true ∧ y.twin.en = true ∧
      y.isSealed = true ∧ y.atMultiple 1000000 = true ∧ y.twin.hbAt ≠ some (y.multiple 1000000) ∧ y.ownRoom = true) ∧
    (∃ (s : State) (f : IsthmusFrame),
      s.running ∧ s.dev.twin.en = true ∧ (f.aligned && f.crcOk && decide (f.header.getD 0 0 = 1)) = true) ∧
    (∃ (s : State) (f : IsthmusFrame),
      s.running ∧ s.dev.twin.en = true ∧ (f.aligned && f.crcOk && decide (f.header.getD 0 0 = 1)) = false) ∧
    (∃ (s : State) (lanes : Bool),
      let y := if lanes then s.dev else s.dev.untilCyc s.cfg (s.dev.twin.isAt + 20000)
      s.running ∧ s.dev.twin.isUp = true ∧ y.twin.isUp = true) ∧
    (∃ (s : State) (lanes : Bool),
      let y := if lanes then s.dev else s.dev.untilCyc s.cfg (s.dev.twin.isAt + 20000)
      s.running ∧ s.dev.twin.isUp = true ∧ y.twin.isUp = true) ∧
    (∃ (s : State) (c : Nat),
      let y := s.dev.untilCyc s.cfg (c + 200000 * s.cfg.hbMissMs)
      s.running ∧ s.dev.twin.isUp = false ∧ s.dev.twin.peerHb = some c ∧ y.twin.isUp = false ∧
      y.heardPeer s.cfg = false) ∧
    (∃ (s : State) (b e : Nat × Nat),
      let y := s.dev.untilCyc s.cfg (b.2 + 200 * s.cfg.mirrorDl)
      s.running ∧ s.dev.twin.unacked.find? (fun b => !s.dev.twin.lateBatches.contains b.1) = some b ∧
      y.holding = true ∧
      y.twin.unacked.find? (fun b => decide (b.2 + 200 * s.cfg.mirrorDl ≤ y.time.cyc) && !y.twin.lateBatches.contains b.1) = some e) ∧
    (∃ (s : State) (c e : Nat),
      let w := s.dev.twinWatch
      let y := w.untilCyc s.cfg (c + 20000000)
      s.running ∧ w.twin.clearAt = some c ∧ y.twin.clearAt = some e ∧ y.twin.stale = true ∧ e + 20000000 ≤ y.time.cyc) ∧
    (∃ (s : State) (high : Bool),
      s.running ∧ s.dev.twin.en = true ∧ s.dev.twin.see ≠ high) ∧
    (∃ (s : State),
      let y := s.dev.untilCyc s.cfg (s.dev.claimAt s.cfg)
      s.running ∧ s.dev.twin.summit = .standby ∧ y.twin.en = true ∧ y.twin.summit = .standby ∧ y.healthy = true ∧
      y.twin.see = true ∧ y.claimAt s.cfg ≤ y.time.cyc) ∧
    (∃ (s : State),
      let y := s.dev.untilCyc s.cfg (s.dev.twin.claimAt + 600)
      s.running ∧ s.dev.twin.summit = .claiming ∧ s.dev.twin.see = true ∧ y.twin.summit = .claiming ∧
      y.twin.see = true ∧ y.twin.claimAt + 600 ≤ y.time.cyc) ∧
    (∃ (s : State),
      let y := s.dev.untilCyc s.cfg (s.dev.twin.claimAt + 2000)
      s.running ∧ s.dev.twin.summit = .backoff ∧ y.twin.summit = .backoff ∧ y.twin.claimAt + 2000 ≤ y.time.cyc) ∧
    (∃ (s : State),
      let y := s.dev.untilCyc s.cfg s.dev.twin.wdogDue
      s.running ∧ s.dev.twin.wdogFired = false ∧ y.twin.wdogFired = false ∧ y.twin.wdogAt + 10000 ≤ y.time.cyc) := by
  refine ⟨⟨rg pairA [(0xA800, 0)], 0, ?_⟩,
    ⟨pairA, isth, ?_⟩,
    ⟨pairA, { isth with crcOk := false }, ?_⟩,
    ⟨tw pairA (fun t => { t with isUp := true }), true, ?_⟩,
    ⟨tw pairA (fun t => { t with isUp := true }), false, ?_⟩,
    ⟨tw pairA (fun t => { t with peerHb := some 0 }), 0, ?_⟩,
    ⟨tw pairA (fun t => { t with unacked := [(3, 0)] }), (3, 0), (3, 0), ?_⟩,
    ⟨tw pairA (fun t => { t with isUp := true, stale := true, clearAt := some 0 }), 0, 0, ?_⟩,
    ⟨pairA, false, ?_⟩,
    ⟨standby, ?_⟩,
    ⟨tw pairB (fun t => { t with summit := .claiming }), ?_⟩,
    ⟨tw pairB (fun t => { t with summit := .backoff }), ?_⟩,
    ⟨pairA, ?_⟩⟩ <;> dsimp only [State.running] <;> decide +kernel

/-- The hypotheses of HandoverEvents can be met. -/
theorem witness_HandoverEvents :
    (∃ (s : State) (c : Nat),
      let w := s.dev.twinWatch
      let y := w.untilCyc s.cfg (max (c + 200000000 * s.cfg.tbDwell) (match w.twin.reqAt with | some r => r + 200000000 | none => 0))
      s.running ∧ w.twin.healthyAt = some c ∧ y.twin.en = true ∧ y.twin.pref = true ∧ y.mayTake s.cfg = true ∧
      y.twin.inhibit = false ∧ y.pendingAct = 0 ∧ (∀ r, y.twin.reqAt = some r → r + 200000000 ≤ y.time.cyc)) ∧
    (∃ (s : State),
      s.running ∧ s.dev.twin.en = true ∧ s.dev.holding = true) ∧
    (∃ (s : State),
      s.running ∧ s.dev.twin.en = true ∧ s.dev.holding = false) ∧
    (∃ (s : State) (tag : Byte),
      s.running ∧ s.dev.twin.hand = .requested tag) ∧
    (∃ (s : State) (tag : Byte) (hs : List Hdr),
      s.running ∧ s.dev.twin.hand = .offered tag hs ∧ s.dev.holding = true) ∧
    (∃ (s : State) (tag : Byte) (n : Nat) (hs : List Hdr),
      s.running ∧ s.dev.twin.hand = .granting tag n hs ∧ s.dev.holding = true) ∧
    (∃ (s : State) (tag : Byte) (h : Nat) (hs : List Hdr),
      let y := s.dev.untilFrame s.cfg h
      s.running ∧ s.dev.twin.hand = .granting tag h hs ∧ y.twin.hand = .granting tag h hs ∧ h ≤ y.time.frames ∧
      y.mayRelease s.cfg = true) ∧
    (∃ (s : State) (tag : Byte) (h : Nat) (offer : Bool),
      let y := s.dev.untilFrame s.cfg (h + 2)
      s.running ∧ s.dev.twin.hand = .awaiting tag h offer ∧ y.twin.hand = .awaiting tag h offer ∧
      h + 2 ≤ y.time.frames ∧ y.twin.see = false) ∧
    (∃ (s : State) (c : Nat) (hs : List Hdr),
      let y := s.dev.untilCyc s.cfg (c + 10000)
      s.running ∧ s.dev.twin.hand = .yielded c hs ∧ y.twin.hand = .yielded c hs ∧ c + 10000 ≤ y.time.cyc ∧
      y.twin.see = true) := by
  refine ⟨⟨standby, 0, ?_⟩,
    ⟨pairA, ?_⟩,
    ⟨pairB, ?_⟩,
    ⟨tw pairB (fun t => { t with hand := .requested 5 }), 5, ?_⟩,
    ⟨tw pairA (fun t => { t with hand := .offered 5 [hd] }), 5, [hd], ?_⟩,
    ⟨tw pairA (fun t => { t with hand := .granting 5 2 [hd] }), 5, 2, [hd], ?_⟩,
    ⟨tw pairA (fun t => { t with hand := .granting 5 2 [hd] }), 5, 2, [hd], ?_⟩,
    ⟨tw pairB (fun t => { t with hand := .awaiting 5 2 true, see := false }), 5, 2, true, ?_⟩,
    ⟨tw pairB (fun t => { t with hand := .yielded 0 [hd] }), 0, [hd], ?_⟩⟩ <;> dsimp only [State.running] <;> decide +kernel

/-- The hypotheses of SelfTests can be met. -/
theorem witness_SelfTests :
    (∃ (s : State) (r : Fin 4),
      s.running ∧ s.dev.isSealed = true ∧ 2 ≤ r.val ∧ s.dev.twin.selfBad.getLsbD r.val = false) ∧
    (∃ (s : State),
      s.running ∧ s.dev.isSealed = true ∧ s.dev.twin.selfBad.getLsbD 0 = false) ∧
    (∃ (s : State) (r : Fin 4),
      s.running ∧ s.dev.isSealed = true ∧ r.val ≠ 1) ∧
    (∃ (s : State) (r : Fin 4),
      s.running ∧ s.dev.isSealed = true ∧ r.val ≠ 1) ∧
    (∃ (s : State) (i : Fin 7) (dev : Int),
      s.running ∧ s.dev.isSealed = true ∧
      let ok := (if i.val = 0 then -150 else -50) ≤ dev ∧ dev ≤ 50
      ok) ∧
    (∃ (s : State) (i : Fin 7) (dev : Int),
      s.running ∧ s.dev.isSealed = true ∧
      let ok := (if i.val = 0 then -150 else -50) ≤ dev ∧ dev ≤ 50
      ok) ∧
    (∃ (s : State) (i : Fin 7) (dev : Int),
      s.running ∧ s.dev.isSealed = true ∧
      let ok := (if i.val = 0 then -150 else -50) ≤ dev ∧ dev ≤ 50
      (¬ ok) ∧ s.dev.twin.clkFail.getLsbD i.val = false) ∧
    (∃ (s : State) (i : Fin 7) (dev : Int),
      s.running ∧ s.dev.isSealed = true ∧
      let ok := (if i.val = 0 then -150 else -50) ≤ dev ∧ dev ≤ 50
      (¬ ok) ∧ s.dev.twin.clkFail.getLsbD i.val = false) ∧
    (∃ (s : State) (row : Fin 13),
      s.running ∧ s.dev.twin.straitLate.getLsbD row.val = false) := by
  refine ⟨⟨up, 3, ?_⟩,
    ⟨up, ?_⟩,
    ⟨up, 3, ?_⟩,
    ⟨up, 0, ?_⟩,
    ⟨up, 0, -150, ?_⟩,
    ⟨up, 6, 50, ?_⟩,
    ⟨up, 1, -51, ?_⟩,
    ⟨up, 0, 51, ?_⟩,
    ⟨run, 12, ?_⟩⟩ <;> dsimp only [State.running] <;> decide +kernel

/-- The hypotheses of RecorderEvents can be met. -/
theorem witness_RecorderEvents :
    (∃ (s : State) (r : RawRec) (rest : List RawRec),
      s.running ∧ s.dev.cairn.st = .running ∧ s.dev.cairn.queue = r :: rest ∧ s.dev.cairn.gapRun = 0 ∧
      NMap.wf mramReset s.dev.cairn.mram = true) ∧
    (∃ (s : State) (r : RawRec) (l : List RawRec),
      let y := s.dev.untilCyc s.cfg (r.at' + 400000)
      s.running ∧ s.dev.cairn.queue.head? = some r ∧ y.cairn.queue = r :: l ∧ y.cairn.st = .running ∧
      y.cairn.lateRun = false ∧ r.at' + 400000 ≤ y.time.cyc) ∧
    (∃ (s : State) (c : Nat),
      let y := s.dev.untilCyc s.cfg (c + 4000000)
      s.running ∧ s.dev.cairn.dirtyAt = some c ∧ y.cairn.dirtyAt = some c ∧ y.cairn.ledLate = false ∧
      c + 4000000 ≤ y.time.cyc) ∧
    (∃ (s : State),
      s.running ∧ s.calm ∧ s.dev.cairn.st ≠ .scanning ∧ s.dev.commitDue = true) := by
  refine ⟨⟨dv (logs up) (fun x => { x with cairn := { x.cairn with queue := [rec0] } }), rec0, [], ?_⟩,
    ⟨dv (logs up) (fun x => { x with cairn := { x.cairn with queue := [rec0] } }), rec0, [], ?_⟩,
    ⟨dv (logs up) (fun x => { x with cairn := { x.cairn with dirtyAt := some 0 } }), 0, ?_⟩,
    ⟨dv (logs up) (fun x => { x with cairn := { x.cairn with dirtyAt := some 0 } }), ?_⟩⟩ <;> dsimp only [State.running, State.calm] <;> decide +kernel

end Sys2Proof.Tests
end

section
/-! SUPPORT. Accesses of BAR0 that reach no register (R267, R336): one off a word boundary is counted, one from 0xC000 on reads
0 and writes nothing. -/

namespace Sys2Proof.Machine

/-! ### A requester's side -/

@[simp] theorem Dev.modReq_req (r : Requester) (f : ReqSide → ReqSide) (x : Dev) : (x.modReq r f).req r = f (x.req r) := by
  cases r <;> rfl
/-- Two updates of one requester's side are one. -/
theorem Dev.modReq_modReq (r : Requester) (f g : ReqSide → ReqSide) (x : Dev) :
    (x.modReq r f).modReq r g = x.modReq r (fun q => g (f q)) := by
  cases r <;> rfl
/-- An update matters only at the side it is made of. -/
theorem Dev.modReq_congr {r : Requester} {f g : ReqSide → ReqSide} {x : Dev} (h : f (x.req r) = g (x.req r)) :
    x.modReq r f = x.modReq r g := by
  cases r
  case host => exact congrArg (fun q => { x with reqH := q }) h
  case mgt => exact congrArg (fun q => { x with reqM := q }) h

/-! ### Offsets from 0xC000 -/

/-- No register pair lies above 0xBFFB, so a read from 0xC000 on completes none either. -/
theorem Dev.wide_beyond (K : Memory) (x : Dev) (q : ReqSide) {off : Nat} (h : 0xBFFC ≤ off) : x.wide K q off = none := by
  unfold Dev.wide
  repeat rw [if_neg (by omega)]
/-- No snapshot window begins there. -/
theorem Dev.snapshot_beyond (x : Dev) (q : ReqSide) {off : Nat} (h : 0xC000 ≤ off) : x.snapshot q off = none := by
  unfold Dev.snapshot
  split
  case h_5 => rfl
  all_goals omega
/-- No later register of a snapshot window lies there. -/
theorem inWindow_beyond {off : Nat} (h : 0xC000 ≤ off) : inWindow off = false :=
  decide_eq_false (by omega)
/-- A read from 0xC000 on returns 0 and takes no latch, selector or cursor with it. -/
theorem Dev.readOne_beyond (K : Memory) (x : Dev) (q : ReqSide) {off : Nat} (h : 0xC000 ≤ off) : x.readOne K q off = (0, q) := by
  have hword : x.regWord K q off = 0 := if_pos h
  have h20 : off ≠ 0xB020 := by omega
  have h3C : off ≠ 0xB03C := by omega
  simp [Dev.readOne, Dev.wide_beyond K x q (show 0xBFFC ≤ off by omega), Dev.wide_beyond K x q (show 0xBFFC ≤ off - 4 by omega),
    Dev.snapshot_beyond x q h, inWindow_beyond h, h20, h3C, hword]

/-! ### Reads and writes by offset -/

/-- R267: a read off a word boundary returns 0 and is counted. -/
theorem Dev.regRead_misaligned (K : Memory) (r : Requester) (x : Dev) {off : Nat} (h : off % 4 ≠ 0) :
    x.regRead K r off = (x.modReq r (fun q => { q with rdata := [0] })).barError := by
  rw [Dev.regRead, Dev.readInto, if_pos h, Dev.modReq_modReq]
  rfl
/-- R267: a read from 0xC000 on returns 0 and does nothing else. -/
theorem Dev.regRead_beyond (K : Memory) (r : Requester) (x : Dev) {off : Nat} (ha : off % 4 = 0) (h : 0xC000 ≤ off) :
    x.regRead K r off = x.modReq r (fun q => { q with rdata := [0] }) := by
  rw [Dev.regRead, Dev.readInto, if_neg (not_not.mpr ha), Dev.readOne_beyond K _ _ h, Dev.modReq_modReq]
  apply Dev.modReq_congr
  simp
/-- R267: a write off a word boundary is discarded and counted. -/
theorem State.regWrite_misaligned (r : Requester) (v : Word) (env : Outside) (s : State) {off : Nat} (h : off % 4 ≠ 0) :
    s.regWrite r off v env = { s with dev := s.dev.barError } := if_pos h
/-- A write from 0xC000 on reaches no register; the status byte of a management frame tells of it (R336, log entry 127). -/
theorem State.regWrite_beyond (r : Requester) (v : Word) (env : Outside) (s : State) {off : Nat} (ha : off % 4 = 0)
    (h : 0xC000 ≤ off) :
    s.regWrite r off v env = { s with dev := match r with
      | .host => s.dev
      | .mgt => s.dev.mgtDone false false true } := by
  rw [State.regWrite, if_neg (not_not.mpr ha), if_pos (Or.inl h)]
  cases r <;> rfl

/-! ### The commands of the link that reach BAR0 or the reference clock -/

variable {s : State}

/-- R267: an access of another size is counted, and a read of it returns 0. -/
theorem exec_barAccessErr (hr : s.running) (isRead : Bool) (r : Requester) :
    exec (.barAccessErr isRead r) s =
      .next { s with dev := (if isRead then s.dev.modReq r (fun q => { q with rdata := [0] }) else s.dev).barError } := by
  change execBarAccessErr isRead r s = _
  exact State.live_run hr _
theorem exec_registerWrite_bar0 (hr : s.running) (r : Requester) (off : BitVec 16) (v : Word) (env : Outside) :
    exec (.registerWrite r .bar0 off v env) s = .next (s.regWrite r off.toNat v env) :=
  State.liveAll_run hr _
theorem exec_loRegisterRead_bar0 (hr : s.running) (r : Requester) (off : BitVec 16) :
    exec (.loRegisterRead r off .bar0) s = .next { s with dev := s.dev.regRead s.cfg r off.toNat } := by
  change execLoRegisterRead r off s = _
  exact State.live_run hr _
/-- R8: the reference clock of the link is recorded and nothing else changes. -/
theorem exec_pcieReferenceClockChange (hr : s.running) (present : Bool) :
    exec (.pcieReferenceClockChange present) s = .next { s with dev := s.dev.modHost (fun h => { h with hostRef := present }) } := by
  change execPcieReferenceClockChange present s = _
  exact State.live_run hr _

/-- Settles O37: each access by what it does at its offset, off a word boundary or from 0xC000 on. -/
theorem badAccessesAreCounted : Obligations.BadAccessesAreCounted := by
  unfold Obligations.BadAccessesAreCounted
  refine ⟨?discarded, ?zeroed, ?misaligned, ?beyond, ?counted, ?clock⟩
  case discarded => exact fun _ r hr => exec_barAccessErr hr false r
  case zeroed => exact fun _ r hr => exec_barAccessErr hr true r
  case misaligned =>
    intro s r off v hr ha
    rw [exec_registerWrite_bar0 hr, exec_loRegisterRead_bar0 hr, State.regWrite_misaligned r v _ s ha,
      Dev.regRead_misaligned s.cfg r s.dev ha]
    exact ⟨rfl, rfl⟩
  case beyond =>
    intro s r off v hr ha hoff
    rw [exec_registerWrite_bar0 hr, exec_loRegisterRead_bar0 hr, State.regWrite_beyond r v _ s ha hoff,
      Dev.regRead_beyond s.cfg r s.dev ha hoff]
    exact ⟨by cases r <;> rfl, rfl⟩
  case counted => exact fun _ => ⟨rfl, rfl⟩
  case clock => exact fun _ present hr => exec_pcieReferenceClockChange hr present

end Sys2Proof.Machine
end

section
/-! SUPPORT. Commands of field outputs (R254, R304): what a command of a free output writes and what it leaves alone, and a pass
of such commands over the outputs a mask names. -/

namespace Sys2Proof.Machine

/-! ### One round of a pass -/

/-- What the round of every object in the list keeps, the pass over the list keeps. -/
theorem Dev.over_keeps_of_mem {α γ : Type} (g : Dev → γ) (f : α → Dev → Dev) {l : List α}
    (h : ∀ i ∈ l, ∀ y, g (f i y) = g y) (x : Dev) : g (x.over l f) = g x := by
  induction l generalizing x with
  | nil => rfl
  | cons i r ih =>
    obtain ⟨hi, hr⟩ := List.forall_mem_cons.mp h
    exact (ih hr (f i x)).trans (hi x)

/-- A part of the block that one round of a pass alone can change is, after the pass, as that round leaves it. -/
theorem Dev.over_at {α γ : Type} (g : Dev → γ) (f : α → Dev → Dev) (o : α) (hne : ∀ i y, i ≠ o → g (f i y) = g y)
    {l : List α} (hn : l.Nodup) (ho : o ∈ l) (x : Dev) : ∃ y, g y = g x ∧ g (x.over l f) = g (f o y) := by
  obtain ⟨before, behind, rfl⟩ := List.append_of_mem ho
  obtain ⟨hout, -⟩ := List.nodup_cons.mp (List.nodup_middle.mp hn)
  obtain ⟨hbefore, hbehind⟩ := not_or.mp (mt List.mem_append.mpr hout)
  have others : ∀ l : List α, o ∉ l → ∀ z : Dev, g (z.over l f) = g z := fun l hl =>
    Dev.over_keeps_of_mem g f fun i hi y => hne i y (ne_of_mem_of_not_mem hi hl)
  refine ⟨x.over before f, others before hbefore x, ?_⟩
  have cut : x.over (before ++ o :: behind) f = (f o (x.over before f)).over behind f := by
    simp only [Dev.over, List.foldl_append, List.foldl_cons]
  rw [cut, others behind hbehind]

/-- The same for a pass over numbered objects. -/
theorem Dev.each_at {γ : Type} (g : Dev → γ) {n : Nat} (f : Fin n → Dev → Dev) (o : Fin n)
    (hne : ∀ i y, i ≠ o → g (f i y) = g y) (x : Dev) : ∃ y, g y = g x ∧ g (x.each n f) = g (f o y) :=
  Dev.over_at g f o hne (List.nodup_finRange n) (List.mem_finRange o) x

/-! ### The command of a free output -/

/-- `y` is `x` but for the field I/O. -/
def Dev.Driven (x y : Dev) : Prop := y = { x with fio := y.fio }
/-- Field I/O and then an outcome: nothing but the field I/O, the link side and the Atolls changes. -/
theorem Dev.Driven.answered {x y z : Dev} (h : Dev.Driven x y) (g : Dev.Answered y z) :
    z = { x with fio := z.fio, host := z.host, atolls := z.atolls } := by
  unfold Dev.Driven at h; unfold Dev.Answered at g; rw [g, h]

variable (x : Dev)

theorem Dev.setFree_driven (o : OutId) (b : Bool) : Dev.Driven x (x.setFree o b) := rfl
theorem Dev.setFree_outPin (o p : OutId) (b : Bool) : (x.setFree o b).outPin p = (x.setOut o b).outPin p := rfl
theorem Dev.setFree_outPin_ne {o p : OutId} (h : p ≠ o) (b : Bool) : (x.setFree o b).outPin p = x.outPin p := by
  rw [Dev.setFree_outPin, Dev.setOut, Dev.modOut_outPin_ne x o _ p h]
@[simp] theorem Dev.setFree_cmd (o : OutId) (b : Bool) : ((x.setFree o b).outPin o).cmd = b := by
  rw [Dev.setFree_outPin, Dev.setOut, Dev.modOut_outPin]
  split
  · assumption
  · rfl
@[simp] theorem Dev.setFree_overload (o p : OutId) (b : Bool) :
    ((x.setFree o b).outPin p).overload = (x.outPin p).overload := by
  by_cases e : p = o
  · subst e
    rw [Dev.setFree_outPin, Dev.setOut, Dev.modOut_outPin]
    split <;> rfl
  · rw [Dev.setFree_outPin_ne x e]
theorem Dev.setFree_freeCmd (o : OutId) (b : Bool) : (x.setFree o b).fio.freeCmd.getLsbD o.val = b := by
  have hbit : ((1 : Word) <<< o.val).getLsbD o.val = true := by
    rw [BitVec.getLsbD_shiftLeft]
    simp
  cases b
  case false =>
    change ((x.setOut o false).fio.freeCmd &&& ~~~((1 : Word) <<< o.val)).getLsbD o.val = false
    rw [BitVec.getLsbD_and, BitVec.getLsbD_not, hbit, Bool.not_true, Bool.and_false, Bool.and_false]
  case true =>
    change ((x.setOut o true).fio.freeCmd ||| ((1 : Word) <<< o.val)).getLsbD o.val = true
    rw [BitVec.getLsbD_or, hbit, Bool.or_true]

/-! ### The commands of the outputs a mask names -/

/-- One round of OUT_MASK: the output takes its bit of `lvl` where its mask bit is 1. -/
def Dev.maskRound (mask lvl : Word) (o : OutId) (y : Dev) : Dev :=
  if mask.getLsbD o.val then y.setFree o (lvl.getLsbD o.val) else y

variable {mask lvl : Word}

theorem Dev.maskRound_named {o : OutId} (h : mask.getLsbD o.val = true) :
    x.maskRound mask lvl o = x.setFree o (lvl.getLsbD o.val) := if_pos h
theorem Dev.maskRound_unnamed {o : OutId} (h : mask.getLsbD o.val = false) : x.maskRound mask lvl o = x :=
  if_neg (Bool.eq_false_iff.mp h)
theorem Dev.maskRound_outPin_ne {o p : OutId} (h : p ≠ o) : (x.maskRound mask lvl o).outPin p = x.outPin p := by
  unfold Dev.maskRound; split
  · exact Dev.setFree_outPin_ne x h _
  · rfl
theorem Dev.maskRound_overload (o p : OutId) : ((x.maskRound mask lvl o).outPin p).overload = (x.outPin p).overload := by
  unfold Dev.maskRound; split
  · exact Dev.setFree_overload x o p _
  · rfl

/-- The pass leaves each output as its own round does. -/
theorem Dev.maskPass_outPin (o : OutId) :
    ∃ y : Dev, y.outPin o = x.outPin o ∧
      (x.each 32 (Dev.maskRound mask lvl)).outPin o = (y.maskRound mask lvl o).outPin o :=
  Dev.each_at (fun y => y.outPin o) _ o (fun _ y h => y.maskRound_outPin_ne (Ne.symm h)) x
theorem Dev.maskPass_cmd {o : OutId} (h : mask.getLsbD o.val = true) :
    ((x.each 32 (Dev.maskRound mask lvl)).outPin o).cmd = lvl.getLsbD o.val := by
  obtain ⟨y, -, hpass⟩ := x.maskPass_outPin (mask := mask) (lvl := lvl) o
  rw [hpass, y.maskRound_named h, Dev.setFree_cmd]
theorem Dev.maskPass_outPin_unnamed {o : OutId} (h : mask.getLsbD o.val = false) :
    (x.each 32 (Dev.maskRound mask lvl)).outPin o = x.outPin o := by
  obtain ⟨y, hy, hpass⟩ := x.maskPass_outPin (mask := mask) (lvl := lvl) o
  rw [hpass, y.maskRound_unnamed h, hy]
theorem Dev.maskPass_overload (o : OutId) :
    ((x.each 32 (Dev.maskRound mask lvl)).outPin o).overload = (x.outPin o).overload :=
  Dev.each_keeps (fun y => (y.outPin o).overload) 32 _ (fun i y => y.maskRound_overload i o) x
theorem Dev.maskPass_driven : Dev.Driven x (x.each 32 (Dev.maskRound mask lvl)) := by
  have rest := Dev.each_keeps (fun y => { y with fio := x.fio }) 32 (Dev.maskRound mask lvl)
    (fun o y => by unfold Dev.maskRound; split <;> rfl) x
  exact congrArg (fun y : Dev => { y with fio := (x.each 32 (Dev.maskRound mask lvl)).fio }) rest

/-! ### OUT_SET and OUT_MASK at their effect -/

section
variable {K : Memory} {h : Hdr} {o : OutId} {b : Bool}

theorem Dev.effOutSet_free (hr : K.outRole o = false) : x.effOutSet K h o b = (x.setFree o b).complete h stOK :=
  if_neg (Bool.eq_false_iff.mp hr)
theorem Dev.effOutSet_role (hr : K.outRole o = true) : x.effOutSet K h o b = x.complete h stState := if_pos hr
theorem Dev.effOutMask_free (hr : ∀ o : OutId, mask.getLsbD o.val = true → K.outRole o = false) :
    x.effOutMask K h mask lvl = (x.each 32 (Dev.maskRound mask lvl)).complete h stOK := by
  refine if_neg fun hany => ?_
  obtain ⟨o, -, ho⟩ := List.any_eq_true.mp hany
  obtain ⟨hm, hrole⟩ := (Bool.and_eq_true _ _).mp ho
  exact absurd hrole (Bool.eq_false_iff.mp (hr o hm))
theorem Dev.effOutMask_role (hm : mask.getLsbD o.val = true) (hr : K.outRole o = true) :
    x.effOutMask K h mask lvl = x.complete h stState :=
  if_pos (List.any_eq_true.mpr ⟨o, List.mem_finRange o, by rw [hm, hr]; rfl⟩)
end

section
variable {s : State} {h : Hdr}

/-- An action the unit accepts takes its effect. -/
theorem State.actCmd_accepted {a : Act} (ha : s.accepts h a) (f : Memory → Dev → Dev) :
    s.actCmd h a f = .next { s with dev := f s.cfg s.dev } := by
  obtain ⟨hrun, hunit⟩ := ha
  rw [State.actCmd, State.live_run hrun, Dev.admitted_ok hunit]
theorem exec_outSet {o : OutId} {b : Bool} (ha : s.accepts h (.outSet o b)) :
    exec (.outSet h o b) s = .next { s with dev := s.dev.effOutSet s.cfg h o b } :=
  State.actCmd_accepted ha (fun K => Dev.effOutSet K h o b)
theorem exec_outMask (ha : s.accepts h (.outMask mask lvl)) :
    exec (.outMask h mask lvl) s = .next { s with dev := s.dev.effOutMask s.cfg h mask lvl } :=
  State.actCmd_accepted ha (fun K => Dev.effOutMask K h mask lvl)

/-- A command that only answers its action gives the outcome and changes nothing else. -/
theorem completes_complete {c : Instr} {code : Nat} (he : exec c s = .next { s with dev := s.dev.complete h code }) :
    Completes c s (fun t => t.dev.gave h code ∧
      t = { s with dev := { s.dev with host := t.dev.host, atolls := t.dev.atolls } }) :=
  ⟨_, he, Dev.complete_gave h code s.dev,
    congrArg (fun y => ({ s with dev := y } : State)) (Dev.complete_answered h code s.dev)⟩
/-- A command that changes the field I/O and answers its action leaves the rest of the state as it is. -/
theorem State.frame_driven {y : Dev} {code : Nat} (hd : Dev.Driven s.dev y) :
    ({ s with dev := y.complete h code } : State) = { s with dev := { s.dev with
      fio := (y.complete h code).fio, host := (y.complete h code).host, atolls := (y.complete h code).atolls } } :=
  congrArg (fun z => ({ s with dev := z } : State)) (hd.answered (Dev.complete_answered h code y))
end

/-! ### Their descriptors -/

/-- R304: a MASK of 0 fails the operand checks. -/
theorem operandsOk_outMask_zero {K : Memory} {fmtOn : Nat → Fmt → Bool} {d : Desc} (hop : d.opcode = 0x21)
    (hmask : d.op 24 4 = 0) : operandsOk K fmtOn d = false := by
  simp [operandsOk, hop, hmask]
theorem actOf_outSet {d : Desc} {o : OutId} (hop : d.opcode = 0x20) (ht : d.target = o.val) :
    actOf d [] [] = some (.outSet o (d.op 24 1 == 1)) := by
  have hmod : d.target % 32 = o.val := by rw [ht]; exact Nat.mod_eq_of_lt o.isLt
  simp [actOf, hop, hmod]
theorem actOf_outMask {d : Desc} (hop : d.opcode = 0x21) :
    actOf d [] [] = some (.outMask (BitVec.ofNat 32 (d.op 24 4)) (BitVec.ofNat 32 (d.op 28 4))) := by
  simp [actOf, hop]

/-- Settles O16: a free output by the laws of its command, the outputs of a mask by the laws of the pass, and an output with a
role by the refusal alone. -/
theorem outputsTakeTheirCommand : Obligations.OutputsTakeTheirCommand := by
  unfold Obligations.OutputsTakeTheirCommand
  refine ⟨?set, ?mask, ?role, ?zeroMask, ?setAct, ?maskAct⟩
  case set =>
    intro s h o lvl ha hfree
    refine ⟨_, exec_outSet ha, ?_⟩
    rw [Dev.effOutSet_free s.dev hfree]
    simp only [Dev.complete_outPin]
    refine ⟨s.dev.setFree_cmd o lvl, s.dev.setFree_overload o o lvl, fun _ hp => s.dev.setFree_outPin_ne hp lvl, ?_,
      Dev.complete_gave h stOK _, State.frame_driven (s.dev.setFree_driven o lvl)⟩
    rw [Dev.complete_fio, Dev.setFree_freeCmd]
  case mask =>
    intro s h mask lvl ha hfree
    refine ⟨_, exec_outMask ha, ?_⟩
    rw [Dev.effOutMask_free s.dev hfree]
    simp only [Dev.complete_outPin]
    exact ⟨fun _ => s.dev.maskPass_cmd, fun _ => s.dev.maskPass_outPin_unnamed, s.dev.maskPass_overload,
      Dev.complete_gave h stOK _, State.frame_driven s.dev.maskPass_driven⟩
  case role =>
    intro s h o mask lvl b hrole hnamed
    refine ⟨fun ha => completes_complete ?_, fun ha => completes_complete ?_⟩
    · rw [exec_outSet ha, Dev.effOutSet_role s.dev hrole]
    · rw [exec_outMask ha, Dev.effOutMask_role s.dev hnamed hrole]
  case zeroMask => exact fun _ _ _ => operandsOk_outMask_zero
  case setAct => exact fun _ _ => actOf_outSet
  case maskAct => exact fun _ => actOf_outMask

end Sys2Proof.Machine
end

section
/-! SUPPORT. The two sides that read BAR0 (R335, R338): a read through one of them leaves the other as it was. -/

namespace Sys2Proof.Machine

/-! ### Operations on the block -/

section
variable {r r' : Requester}

/-- An update of one requester's side leaves the other's. -/
theorem Dev.modReq_req_ne (h : r' ≠ r) (f : ReqSide → ReqSide) (x : Dev) : (x.modReq r f).req r' = x.req r' := by
  cases r <;> cases r'
  case host.mgt | mgt.host => rfl
  all_goals exact absurd rfl h
@[simp] theorem Dev.modHost_req (r : Requester) (f : HostSide → HostSide) (x : Dev) : (x.modHost f).req r = x.req r := by
  cases r <;> rfl
@[simp] theorem Dev.barError_req (r : Requester) (x : Dev) : x.barError.req r = x.req r :=
  Dev.modHost_req r (fun h => { h with barErr := satInc 16 h.barErr }) x
/-- The status byte of a management frame belongs to no requester's side. -/
@[simp] theorem Dev.mgtDone_req (r : Requester) (crc len acc : Bool) (x : Dev) : (x.mgtDone crc len acc).req r = x.req r :=
  Dev.modHost_req r _ x

theorem Dev.readInto_req_ne (h : r' ≠ r) (K : Memory) (off : Nat) (x : Dev) : (x.readInto K r off).req r' = x.req r' := by
  unfold Dev.readInto
  split
  case isTrue => rw [Dev.barError_req, Dev.modReq_req_ne h]
  case isFalse => exact Dev.modReq_req_ne h _ x
/-- A read of BAR0, whatever its offset shows or latches, leaves the other requester's side. -/
theorem Dev.regRead_req_ne (h : r' ≠ r) (K : Memory) (off : Nat) (x : Dev) : (x.regRead K r off).req r' = x.req r' :=
  (Dev.readInto_req_ne h K off _).trans (Dev.modReq_req_ne h _ x)
/-- A READ frame, of any length and cut short anywhere, leaves the host's side: its words are reads of the management port. -/
theorem Dev.mgtRead_req_ne (h : r' ≠ .mgt) (K : Memory) (off n took : Nat) (dummy : Word) (x : Dev) :
    (x.mgtRead K off n took dummy).req r' = x.req r' := by
  unfold Dev.mgtRead
  split
  case isTrue => rw [Dev.mgtDone_req, Dev.modReq_req_ne h]
  case isFalse =>
    rw [Dev.mgtDone_req, Dev.modHost_req, Dev.over_keeps (Dev.req · r') _ _ fun i => Dev.readInto_req_ne h K (off + 4 * i),
      Dev.modReq_req_ne h]
theorem Dev.mgtStatusRead_req_ne (h : r' ≠ .mgt) (x : Dev) : x.mgtStatusRead.req r' = x.req r' := by
  rw [Dev.mgtStatusRead, Dev.mgtDone_req, Dev.modReq_req_ne h]
end

/-! ### Commands -/

section
variable (s : State) (r : Requester)

theorem exec_loRegisterRead (off : BitVec 16) :
    exec (.loRegisterRead r off) s = s.live (fun K => Dev.regRead K r off.toNat) := rfl
theorem exec_snapshotWindowRead (off : BitVec 16) :
    exec (.snapshotWindowRead r off) s = s.live (fun K => Dev.regRead K r off.toNat) := rfl
theorem exec_cairnWin0Read : exec (.cairnWin0Read r) s = s.live (fun K => Dev.regRead K r 0xB020) := rfl
theorem exec_cairnWin7Read : exec (.cairnWin7Read r) s = s.live (fun K => Dev.regRead K r 0xB03C) := rfl
theorem exec_mgtRead (off : BitVec 16) (n took : Nat) (dummy : Word) :
    exec (.mgtRead off n took dummy) s = s.live (fun K => Dev.mgtRead K off.toNat n took dummy) := rfl
theorem exec_mgtStatus : exec .mgtStatus s = s.live (fun _ => Dev.mgtStatusRead) := rfl
end

/-- What the operation of a command keeps of the block, the command keeps, out of reset and awake or not. -/
theorem State.live_completes {γ : Type} (g : Dev → γ) {c : Instr} {s : State} {f : Memory → Dev → Dev}
    (he : exec c s = s.live f) (hf : g (f s.cfg s.dev) = g s.dev) : Completes c s (fun t => g t.dev = g s.dev) := by
  by_cases hr : s.running
  case pos => exact ⟨_, he.trans (State.live_run hr f), hf⟩
  case neg => exact ⟨s, he.trans (State.live_dead hr f), rfl⟩

/-- Settles O43: each command by the law of the one access it makes, in any state of the device. -/
theorem readersKeepApart : Obligations.ReadersKeepApart := by
  unfold Obligations.ReadersKeepApart
  intro s r r' off n took dummy h
  have read : ∀ {c : Instr} {off : Nat}, exec c s = s.live (fun K => Dev.regRead K r off) →
      Completes c s (fun t => t.dev.req r' = s.dev.req r') := fun he =>
    State.live_completes (Dev.req · r') he (Dev.regRead_req_ne h s.cfg _ s.dev)
  simp only [List.forall_mem_cons, List.not_mem_nil, false_imp_iff, implies_true, and_true]
  refine ⟨⟨?register, ?snapshot, ?cairnFirst, ?cairnLast⟩, ?frames⟩
  case register => exact read (exec_loRegisterRead s r off)
  case snapshot => exact read (exec_snapshotWindowRead s r off)
  case cairnFirst => exact read (exec_cairnWin0Read s r)
  case cairnLast => exact read (exec_cairnWin7Read s r)
  case frames =>
    rintro rfl
    exact ⟨State.live_completes (Dev.req · r') (exec_mgtRead s off n took dummy) (Dev.mgtRead_req_ne h s.cfg _ n took dummy s.dev),
      State.live_completes (Dev.req · r') (exec_mgtStatus s) (Dev.mgtStatusRead_req_ne h s.dev)⟩

end Sys2Proof.Machine
end

section
/-! SUPPORT. The twin bit of an identifier (R392, R393), and the queues that BUS_TX and RX_SUPPLY join (R305 to R307, R353,
R357). -/

namespace Sys2Proof.Machine

/-! ### The twin bit -/

section
variable {K : Memory} {c : Nat} {ide : Bool} (id : Nat)

/-- Clearing the twin bit of an identifier keeps its other bits and drops those beyond the 29 of an identifier. -/
theorem Memory.noTwin_testBit (hp : K.twinPos c ide < 29) (j : Nat) :
    (K.noTwin c ide id).testBit j = (id.testBit j && (decide (j < 29) && !decide (K.twinPos c ide = j))) := by
  have hlt : 2 ^ K.twinPos c ide < 2 ^ 29 := Nat.pow_lt_pow_right Nat.one_lt_two hp
  rw [Memory.noTwin, Nat.testBit_and, Nat.sub_sub, Nat.add_comm 1, Nat.testBit_two_pow_sub_succ hlt, Nat.testBit_two_pow]
/-- The twin bit of unit B is written where the identifier has none, so the sum of the two is their union. -/
theorem Memory.noTwin_add_twinBit (hp : K.twinPos c ide < 29) :
    BitVec.ofNat 29 (K.noTwin c ide id + 2 ^ K.twinPos c ide) =
      BitVec.ofNat 29 (K.noTwin c ide id) ||| BitVec.ofNat 29 (2 ^ K.twinPos c ide) := by
  rw [BitVec.ofNat_add]
  refine BitVec.add_eq_or_of_and_eq_zero _ _ (BitVec.eq_of_getLsbD_eq fun j _ => ?_)
  rw [BitVec.getLsbD_and, BitVec.getLsbD_ofNat, BitVec.getLsbD_ofNat, Memory.noTwin_testBit id hp, Nat.testBit_two_pow,
    BitVec.getLsbD_zero]
  cases decide (K.twinPos c ide = j) <;> simp
end

section
variable (K : Memory) (x : Dev) (c : ChanId) (f : CanFrame)

/-- A single unit sends its frames as they are (R391). -/
theorem Memory.withTwin_single (h : x.twin.en = false) : K.withTwin x c f = f := if_neg (Bool.eq_false_iff.mp h)
/-- A unit of a twin pair writes its bit into the identifier and nothing else (R393). -/
theorem Memory.withTwin_pair (h : x.twin.en = true) :
    K.withTwin x c f = { f with
      ident := BitVec.ofNat 29
        (K.noTwin c.val f.ide f.ident.toNat + if x.twin.unitB then 2 ^ K.twinPos c.val f.ide else 0) } := if_pos h
/-- All but the identifier goes out as given. -/
theorem Memory.withTwin_rest : { K.withTwin x c f with ident := f.ident } = f := by
  cases h : x.twin.en
  case false => rw [K.withTwin_single x c f h]
  case true => rw [K.withTwin_pair x c f h]

variable {K x c f}

/-- R393: bit for bit, the identifier a unit of a twin pair sends. -/
theorem Memory.withTwin_getLsbD (h : x.twin.en = true) (hp : K.twinPos c.val f.ide < 29) (j : Nat) :
    (K.withTwin x c f).ident.getLsbD j =
      if j = K.twinPos c.val f.ide then x.twin.unitB else f.ident.getLsbD j := by
  have cleared : (BitVec.ofNat 29 (K.noTwin c.val f.ide f.ident.toNat)).getLsbD j =
      if j = K.twinPos c.val f.ide then false else f.ident.getLsbD j := by
    rw [BitVec.getLsbD_ofNat, Memory.noTwin_testBit _ hp, ← BitVec.getLsbD]
    split
    case isTrue hj => simp [hj]
    case isFalse hj =>
      rw [decide_eq_false (Ne.symm hj)]
      by_cases hw : j < 29
      case pos => simp [hw]
      case neg => simp [hw, BitVec.getLsbD_of_ge f.ident j (not_lt.mp hw)]
  rw [K.withTwin_pair x c f h]
  cases x.twin.unitB
  case false => exact cleared
  case true =>
    rw [if_pos rfl, Memory.noTwin_add_twinBit _ hp, BitVec.getLsbD_or, cleared, BitVec.getLsbD_ofNat, Nat.testBit_two_pow]
    split
    case isTrue hj => simp [hj, hp]
    case isFalse hj => simp [Ne.symm hj]
end

/-! ### The queues of a channel -/

section
variable {K : Memory} {x : Dev} {h : Hdr} {c : ChanId}

/-- A frame released on a channel that may transmit stands behind the frames queued there (R357). -/
theorem Dev.busRelease_joins (f : CanFrame) (retry deadline : Nat) (ht : x.txRefuse K c = none) :
    x.busRelease K h c f retry deadline = x.modCh c (fun v => { v with txq := v.txq ++
      [{ hdr := h, frame := K.withTwin x c f, limit := if retry = 255 then K.txRetryDef c.val else retry
         deadline := deadline, cancel := if h.cancelLate then some x.tt else none }] }) := by
  rw [Dev.busRelease, ht]
/-- A buffer supplied to a channel with room for it stands behind those supplied (R307, R353). -/
theorem Dev.effRxSupply_joins (buf : Buf) (len : Nat) (cookie : Word) (hroom : (x.ch c).bufs.length < 512) :
    x.effRxSupply h c buf len cookie = x.modCh c (fun v => { v with bufs := v.bufs ++ [⟨h, buf, len, cookie⟩] }) :=
  if_neg (not_le.mpr hroom)
end

section
variable {s : State} {h : Hdr} {c : ChanId}

theorem exec_busTx {f : CanFrame} {retry : Nat} (ha : s.accepts h (.busTx c f retry)) :
    exec (.busTx h c f retry) s =
      .next { s with dev := s.dev.busRelease s.cfg h c f retry (s.dev.deadlineOf s.cfg h) } :=
  State.actCmd_accepted ha (fun K x => x.busRelease K h c f retry (x.deadlineOf K h))
theorem exec_rxSupply {buf : Buf} {len : Nat} {cookie : Word} (ha : s.accepts h (.rxSupply c buf len cookie)) :
    exec (.rxSupply h c buf len cookie) s = .next { s with dev := s.dev.effRxSupply h c buf len cookie } :=
  State.actCmd_accepted ha (fun _ => Dev.effRxSupply h c buf len cookie)
end

/-- Settles O17: each queue by the law of what joins it, and the identifier bit for bit. -/
theorem busActionsQueue : Obligations.BusActionsQueue := by
  unfold Obligations.BusActionsQueue
  refine ⟨?transmit, ?twinBit, ?supply⟩
  case transmit =>
    intro s h c f retry ha ht
    rw [exec_busTx ha, Dev.busRelease_joins f retry _ ht]
    refine ⟨_, ?hdr, ?frame, ?limit, rfl⟩ <;> rfl
  case twinBit =>
    intro K x c f
    refine ⟨K.withTwin_rest x c f, K.withTwin_single x c f, fun hen hp => ⟨?_, fun j hj => ?_⟩⟩
    · exact (Memory.withTwin_getLsbD hen hp _).trans (if_pos rfl)
    · exact (Memory.withTwin_getLsbD hen hp j).trans (if_neg hj)
  case supply =>
    intro s h c buf len cookie ha hroom
    rw [exec_rxSupply ha, Dev.effRxSupply_joins buf len cookie hroom]

end Sys2Proof.Machine
end
